-- ==== Sys2Proof/Word.lean ====
section
/-!
DEFINITION. The two plainest data types of the memory link (R141): the byte and the 16-byte link word.
-/
namespace Sys2Proof

/-- One byte of a memory image. -/
abbrev Byte := BitVec 8

/-- One 16-byte word of the memory link (R141); byte 0 is the least significant. -/
abbrev LinkWord := BitVec 128

end Sys2Proof
end

