-- ==== Sys2Proof/Config.lean ====
section
/-!
DEFINITION. What the part fixes for every run: sizes, limits and offsets the spec states, and the one value the spec
leaves open, which is an opaque constant.
-/
namespace Sys2Proof.Config

/-- Places of the arrival buffer (R142). -/
def arrivalPlaces : Nat := 16
/-- Places of the own-traffic queue (R147). -/
def ownPlaces : Nat := 8
/-- Highest value of the host run count (R148). -/
def hostRunMax : Nat := 3
/-- First own downstream tag (R141). -/
def ownTagBase : Nat := 256
/-- Number of own downstream tags (R141). -/
def ownTagCount : Nat := 16
/-- Longest link request, in words (R141). -/
def maxWords : Nat := 32
/-- Size of the byte address space (chapter 0, Memory map). -/
def addressSpace : Nat := 4294967296
/-- Size of an aperture: 32 MiB. -/
def apertureBytes : Nat := 33554432
/-- Size of the control region: 1 MiB. -/
def controlRegionBytes : Nat := 1048576
/-- Offset of the Status Block in the control region. -/
def statusOffset : Nat := 0x0100
/-- Offset of the slot record image in the control region. -/
def imageOffset : Nat := 0x1000
/-- Bytes of one slot record image. -/
def imageBytes : Nat := 128
/-- Positions of the slot record image. -/
def imagePositions : Nat := 32
/-- Offset of the command ring in the control region. -/
def commandRingOffset : Nat := 0x4000
/-- Offset of the report ring in the control region. -/
def reportRingOffset : Nat := 0x8000
/-- Entries of the report ring (chapter 11). -/
def reportEntries : Nat := 512
/-- Used count at which the high-water flag is set (R164). -/
def highWaterLevel : Nat := 384
/-- General places of the pending queue (R163). -/
def generalPlaces : Nat := 12
/-- Places of the pending queue reserved for completions (R163). -/
def completionPlaces : Nat := 4
/-- Exposure sets the history queue holds (R44). -/
def historyPlaces : Nat := 4
/-- Samples the focus sample list holds (R95). -/
def sampleListPlaces : Nat := 64
/-- Frames used at which a focus search ends (R105). -/
def frameLimit : Nat := 97
/-- Entries of the held list (R129). -/
def heldListPlaces : Nat := 8
/-- Frame completions that close an open view pass (R125). -/
def staleCompletions : Nat := 4

/-- FREE VALUE. The bytes-stored count of a frame whose stored bytes pass 2^32 - 1: R7 gives the item the values
0 to 2^32 - 1 and states no result beyond them.  Nothing constrains it (DESIGN CHOICE, log entry 7). -/
opaque bytesStoredPastRange : Nat → BitVec 32

/-- FREE VALUE. The value_written of a SET MANUAL EXPOSURE completion with status CLAMPED, of the three commanded
values: R64 and section 12.3 state that a CLAMPED completion carries the value written, and do not state which of the
three it carries.  Nothing constrains it (DESIGN CHOICE, log entry 8). -/
opaque manualValueWritten : BitVec 32 → BitVec 16 → BitVec 8 → BitVec 32

/-- FREE VALUE. The first address of the path fault VIEW_STALE, of the pass number it closes: R165 takes the fault's
host address, and R125 names no request that causes this fault.  Nothing constrains it (DESIGN CHOICE, log entry 9). -/
opaque staleAddress : BitVec 16 → BitVec 32

end Sys2Proof.Config
end

