-- ==== Sys2Proof/Syntax.lean ====
section
/-!
DEFINITION. The commands of the part: one constructor of `Instr` per row of spec/opcode_table.json.

A row that reaches the part from outside (a host request, a memory response, a lens-bus answer, a pin) carries what
arrives.  A row that names a host command carries the fields of the command record (section 12.2), at the record's
full widths (R171), as the fetch returned them.  A row that names a step of the part itself, or the taking of a
notice one block sent another, carries no operand: it takes the oldest waiting item of its kind from State.
-/
namespace Sys2Proof

/-- A request on the upstream link (R141): a read with its host tag and its length in words, or a write with its
words.  Addresses are byte addresses, word aligned. -/
inductive HostRequest where
  | read (tag : BitVec 6) (addr : BitVec 32) (words : Nat)
  | write (addr : BitVec 32) (data : List LinkWord)
  deriving DecidableEq, Repr

/-- One entry of SET FOCUS WINDOWS as the record carries it (section 12.2). -/
structure WindowArg where
  x : BitVec 16
  y : BitVec 16
  width : BitVec 16
  height : BitVec 16
  enable : BitVec 8
  deriving DecidableEq, Repr

/-- The controller whose waiting lens request a TARGET REQUEST or STOP REQUEST step takes (R70). -/
inductive Requester where
  | zoom | focus | exposure
  deriving DecidableEq, Repr

/-- The commands, in the order of spec/opcode_table.json.  `tag` of a host command is the record's tag; `now` is the
reference-clock time in microseconds at which the event happens (R68, R69, R79). -/
inductive Instr where
  | powerOnReset (strap : BitVec 3)
  | hostRequest (r : HostRequest)
  | captureApertureWrite (now : Nat)
  | captureApertureRead
  | viewApertureRead
  | viewWrite
  | plainRequest
  | commandTail
  | triggerToggle
  | reportHead
  | attentionMask
  | downstreamGrant
  | downstreamReadResponse (dtag : Nat) (error : Bool) (data : List LinkWord)
  | viewStale
  | slotImageWrite
  | statusBlockWrite
  | reportWrite
  | commandFetch
  | memoryError
  | unknownCommand (code tag : BitVec 16)
  | setStatistics (tag saturation coring : BitVec 16) (onThreshold offThreshold : BitVec 8) (darkFloor : BitVec 16) (lineTime : BitVec 32)
  | setMetering (tag target hLim : BitVec 16) (deadBand loopGain stepMax pattern : BitVec 8)
  | setExposureMode (tag : BitVec 16) (mode : BitVec 8)
  | setCompensation (tag compensation : BitVec 16)
  | setManualExposure (tag : BitVec 16) (shutter : BitVec 32) (gainCode : BitVec 16) (irisStop : BitVec 8)
  | homeLens (tag : BitVec 16)
  | parkLens (tag : BitVec 16)
  | setLensDrive (tag : BitVec 16) (arbitration prioZoom prioFocus prioIris : BitVec 8) (periodZoom periodFocus periodIris settle : BitVec 16)
  | zoomTo (tag zoom : BitVec 16)
  | zoomStop (tag : BitVec 16)
  | setFocusMode (tag : BitVec 16) (mode drop monitorDrop : BitVec 8) (contrastFloor : BitVec 32) (fallback : BitVec 16)
  | setFocusWindows (tag : BitVec 16) (w0 w1 w2 w3 w4 : WindowArg)
  | startFocus (tag : BitVec 16)
  | cancelFocus (tag : BitVec 16)
  | moveFocus (tag focus : BitVec 16)
  | setSteady (tag : BitVec 16) (enable searchRange leak qualityMin : BitVec 8) (marginX marginY : BitVec 16)
  | recenterSteady (tag : BitVec 16)
  | setViewSource (tag : BitVec 16) (source : BitVec 8)
  | armCapture (tag : BitVec 16) (preDepth burstLength : BitVec 8)
  | stopCapture (tag : BitVec 16)
  | releaseSlot (tag : BitVec 16) (slot : BitVec 8)
  | configureFrame (tag width height : BitVec 16) (captureBase viewBase poolBase stride : BitVec 32) (slotCount latency : BitVec 8)
  | setModeView (tag : BitVec 16) (mode : BitVec 8)
  | setModeStandby (tag : BitVec 16)
  | loadTable (tag : BitVec 16) (kind : BitVec 8) (address : BitVec 32)
  | tableFetchReturn (ownTag : Nat) (error : Bool) (data : List LinkWord)
  | softReset (tag : BitVec 16)
  | softResetComplete
  | statisticsCompletionWork
  | exposureCompletionWork
  | takeReference
  | dropReference
  | focusCompletionWork
  | focusFrameLimit
  | exposureAlarm
  | sceneChanged
  | focusMoveEnd
  | zoomStarted
  | zoomStopped
  | focusStepLoss
  | lensFault
  | steadyCompletionWork
  | captureCompletion
  | captureTrigger
  | captureSlotAnswer
  | holdRequest
  | unholdRequest
  | keepRequest
  | releaseRequest
  | pinRequest
  | unpinRequest
  | targetRequest (r : Requester)
  | stopRequest (r : Requester)
  | lensSegmentDone (zoomBlocked focusBlocked : Bool) (transition now : Nat)
  | noHome (zoomBlocked focusBlocked : Bool) (now : Nat)
  | faultAnswer (now : Nat)
  | segmentTimeout (now : Nat)
  | trackingAnswer
  | zoomPositionHandover
  | zoomStart
  | zoomEnd
  | zoomMoveEnd
  | zoomStepLoss
  | lensStateChange
  | setFromPosition
  | setFraction
  deriving DecidableEq, Repr

end Sys2Proof
end

