-- ==== Sys2Proof/Machine/State.lean ====
section
/-!
DEFINITION. The state of the part, as plain data: one structure for each of its eleven blocks, the notices and requests
that one block has sent another and that have not been taken yet, what has left the two link ports, and the queue of
waiting commands.  `State.reset` is the part right after power-on reset.
-/
namespace Sys2Proof.Machine

/-- A fault would be a stop that the spec itself describes.  No rule of the spec stops the part: every error condition
it names is a report, a status or a lens state, and so an effect on State.  The type therefore has no constructor, and
no meaning can raise one (safe; DEDUCED, log entry 44). -/
inductive Fault where
  deriving DecidableEq, Repr

/-- Why a command has no meaning. -/
inductive Refusal where
  /-- Raised by `exec` alone, for a command that has no meaning yet (safe: the run stops). -/
  | notModelled (mnemonic : String)
  deriving DecidableEq, Repr

/-! ## Names the spec gives (section 12.7 holds their codes) -/

/-- The slot states of R1 and R2. -/
inductive SlotState where
  | free | filling | filled | held | kept
  deriving DecidableEq, Repr

/-- A frame record's outcome (R13, R16); `notYet` is the spec's "none". -/
inductive FrameOutcome where
  | notYet | complete | torn | spilled
  deriving DecidableEq, Repr

/-- The exposure modes (R63). -/
inductive ExposureMode where
  | program | manual | locked
  deriving DecidableEq, Repr

/-- The source of an exposure set (R43). -/
inductive SetSource where
  | program | manual | held
  deriving DecidableEq, Repr

/-- A flicker period or a quantised period: none, 10,000 or 8,333 microseconds (R36, R43). -/
inductive Period where
  | off | us10000 | us8333
  deriving DecidableEq, Repr

/-- The skip reasons of R48; `stepped` is the spec's "none". -/
inductive SkipReason where
  | stepped | torn | irisMoving | focusHold | manual | locked
  deriving DecidableEq, Repr

/-- The lens states of R67. -/
inductive LensMode where
  | unhomed | homing | ready | parking | parked | fault
  deriving DecidableEq, Repr

/-- The three motors (R66). -/
inductive Motor where
  | zoom | focus | iris
  deriving DecidableEq, Repr

/-- The motor states of R66. -/
inductive MotorState where
  | idle | pending | running | preempted
  deriving DecidableEq, Repr

/-- The arbitration modes of R71. -/
inductive Arbitration where
  | preempt | sequential
  deriving DecidableEq, Repr

/-- The focus modes of R110. -/
inductive FocusMode where
  | single | continuous | manual
  deriving DecidableEq, Repr

/-- The search states of R95. -/
inductive SearchState where
  | idle | coarse | fine | peak | locked | monitor | failed
  deriving DecidableEq, Repr

/-- The causes of a FOCUS STATE report, in the order of R111. -/
inductive FocusCause where
  | start | restartDrop | restartScene | peakPassed | sweepEnd | peakSet | locked | baseline | lowContrast | timeout
  | lensFault | cancelled | zoom | stepLoss | exposure | standby | mode | moved | sceneChanged
  deriving DecidableEq, Repr

/-- The reasons of the focus validity chain (R98); `noReason` is the spec's "none". -/
inductive FocusReason where
  | noReason | torn | focusMoving | zoomMoving | dark
  deriving DecidableEq, Repr

/-- The hold reasons of R116 and R117; `noHold` is the spec's "none". -/
inductive HoldReason where
  | noHold | torn | noReference | zoomMoving | exposureStep | lowQuality | atRange
  deriving DecidableEq, Repr

/-- The capture states of R129. -/
inductive CaptureMode where
  | idle | armed | running
  deriving DecidableEq, Repr

/-- The skip reasons of R133. -/
inductive KeepSkip where
  | spilled | full | gone
  deriving DecidableEq, Repr

/-- The end causes of R134. -/
inductive EndCause where
  | burstDone | indexLimit | stopped | standby
  deriving DecidableEq, Repr

/-- The view pass states of R121. -/
inductive PassStatus where
  | closed | opened | blank
  deriving DecidableEq, Repr

/-- The operating modes (R150). -/
inductive OpMode where
  | standby | view
  deriving DecidableEq, Repr

/-- The table kinds of R159. -/
inductive TableKind where
  | cam | program | weights
  deriving DecidableEq, Repr

/-- The cycle states of R152.  A step ends in FINISHING only if the Report Unit has not taken the completion; its
reserved place is always free (R165), so the model passes through FINISHING inside a step. -/
inductive Cycle where
  | idle | fetching | executing | finishing
  deriving DecidableEq, Repr

/-- The path-fault causes of section 12.7. -/
inductive FaultCause where
  | captureOutOfOrder | captureOverrun | captureRestart | viewWrite | viewBeyond | viewNoView | viewNoFrame | viewStale
  | apertureInactive | badCommandTail | badReportHead
  deriving DecidableEq, Repr

/-- The report classes of R163. -/
inductive ReportClass where
  | completion | exposure | frame | focus | lens | capture | fault
  deriving DecidableEq, Repr

/-- The completion statuses of R153 and R154. -/
inductive Status where
  | done | clamped | notReady | conflict | badParameter | unknownCommand | memoryError
  deriving DecidableEq, Repr

/-- The lens events of R81. -/
inductive LensEventKind where
  | homed | parked | fault | stepLoss
  deriving DecidableEq, Repr

/-- The causes of a lens FAULT (R81). -/
inductive LensFaultCause where
  | driverFault | timeout | noHome
  deriving DecidableEq, Repr

/-- The capture events of R139. -/
inductive CaptureEventKind where
  | triggered | triggerIgnored | kept | skipped | ended | bufferHigh | bufferLow
  deriving DecidableEq, Repr

/-! ## Frames, exposure sets and statistics -/

/-- A lens sample (R78). -/
structure LensSample where
  zoom : Nat
  focus : Nat
  irisStop : Nat
  known : Bool
  deriving DecidableEq, Repr

/-- One flag per motor (R16, R78). -/
structure MotorFlags where
  zoom : Bool
  focus : Bool
  iris : Bool
  deriving DecidableEq, Repr

/-- An exposure set (R43); `tag` is `none` for the initial set. -/
structure ExposureSet where
  tl : Nat
  gl : Nat
  al : Nat
  xl : Int
  shutter : Nat
  gainCode : Nat
  irisStop : Nat
  quantised : Period
  flickerExposed : Bool
  lightHigh : Bool
  lightLow : Bool
  lensHeld : Bool
  source : SetSource
  tag : Option (BitVec 32)
  deriving DecidableEq, Repr

/-- The metering outcome of a frame record (R48). -/
structure Metering where
  y : Nat
  eMeas : Int
  skip : SkipReason
  deriving DecidableEq, Repr

/-- The result of one flicker detector in a statistics record (R30). -/
structure DetectorResult where
  level : Nat
  evaluated : Bool
  on : Bool
  deriving DecidableEq, Repr

/-- The statistics fields of a frame record (R16, R30). -/
structure RecordStatistics where
  valid : Bool
  uniformFallback : Bool
  y : Nat
  h : Nat
  det100 : DetectorResult
  det120 : DetectorResult
  focusFigure : Nat
  windowMeans : List Nat
  deriving DecidableEq, Repr

/-- The steady fields of a frame record (R16, R115). -/
structure SteadyFields where
  dx : Int
  dy : Int
  quality : Nat
  hold : HoldReason
  ox : Int
  oy : Int
  deriving DecidableEq, Repr

/-- The capture fields of a frame record (R16). -/
structure CaptureFields where
  id : Nat
  index : Int
  deriving DecidableEq, Repr

/-- A frame record (R16); an optional field is absent when it is `none`, and `issueFrame = none` is "initial". -/
structure FrameRecord where
  frame : BitVec 32
  outcome : FrameOutcome
  torn : Bool
  bytesStored : Nat
  startSample : LensSample
  endSample : LensSample
  moving : MotorFlags
  focusSettled : Bool
  applied : ExposureSet
  issueFrame : Option (BitVec 32)
  metering : Option Metering
  statistics : RecordStatistics
  steady : Option SteadyFields
  capture : Option CaptureFields
  deriving DecidableEq, Repr

/-- A slot table entry (R1); the value 0 of `recordFrame` and `lastFrame` means "no frame". -/
structure Slot where
  state : SlotState
  pins : Nat
  recordFrame : BitVec 32
  fillAge : BitVec 32
  lastFrame : BitVec 32
  record : FrameRecord
  deriving DecidableEq, Repr

/-- The capture tracker (R7): the frame in progress with its filling slot, the expected offset, the bytes stored and
the torn flag. -/
structure Tracker where
  inProgress : Option (BitVec 32 × Nat)
  expected : Nat
  stored : Nat
  torn : Bool
  deriving DecidableEq, Repr

/-- The four requests of R5. -/
inductive SlotRequestKind where
  | hold | unhold | keep | release
  deriving DecidableEq, Repr

/-- A request of the Capture Unit that the Slot Manager has not taken yet (R5). -/
structure SlotRequest where
  kind : SlotRequestKind
  slot : Nat
  frame : BitVec 32
  captureId : Nat
  index : Int
  deriving DecidableEq, Repr

/-- The Slot Manager's answers (R5). -/
inductive SlotAnswer where
  | done | pinned | gone
  deriving DecidableEq, Repr

/-- A request of the Steady Controller that the Slot Manager has not taken yet (R3): the pin of SET VIEW SOURCE's
review source, or an unpin. -/
inductive PinMessage where
  | reviewPin (slot : Nat)
  | unpin (slot : Nat)
  deriving DecidableEq, Repr

/-- The Slot Manager (chapter 1).  `table` is empty while the configuration is invalid; `imageWaiting` holds the slots
whose image write waits to enter the own-traffic queue, first change first (R17). -/
structure SlotManager where
  table : List Slot
  seq : BitVec 32
  tracker : Tracker
  imageWaiting : List Nat
  captureRequest : Option SlotRequest
  captureAnswer : Option SlotAnswer
  pinMessages : List PinMessage
  deriving DecidableEq, Repr

/-- The parameters of SET STATISTICS (R38). -/
structure StatParams where
  saturation : Nat
  coring : Nat
  onThreshold : Nat
  offThreshold : Nat
  darkFloor : Nat
  lineTime : Nat
  deriving DecidableEq, Repr

/-- A rectangle of quads (R96). -/
structure Rect where
  x : Nat
  y : Nat
  width : Nat
  height : Nat
  deriving DecidableEq, Repr

/-- A focus window as the Statistics Engine latches it (R22). -/
structure LatchedWindow where
  rect : Rect
  enabled : Bool
  deriving DecidableEq, Repr

/-- The latched inputs of a frame in measurement (R21, R22).  `windowSet` is the number of the window set they hold (R96). -/
structure StatLatch where
  params : StatParams
  weights : List Nat
  windows : List LatchedWindow
  windowSet : Nat
  mx : Nat
  my : Nat
  width : Nat
  height : Nat
  deriving DecidableEq, Repr

/-- One entry of the line buffer (R21): the sum of R and Gr, and the saturation mark. -/
structure LineEntry where
  sum : Nat
  mark : Bool
  deriving DecidableEq, Repr

/-- The accumulators of a frame in measurement (R21).  `previous` is the luma of the quad completed last, which the
contrast sum of R27 needs. -/
structure Accumulators where
  line : List LineEntry
  previous : Nat
  zoneSum : List Nat
  zoneClip : List Nat
  rowSum : List Nat
  winContrast : List Nat
  winLuma : List Nat
  colProfile : List Nat
  rowProfile : List Nat
  deriving DecidableEq, Repr

/-- A frame in measurement, or in the completion buffer (R21). -/
structure Measurement where
  frame : BitVec 32
  torn : Bool
  latch : StatLatch
  acc : Accumulators
  deriving DecidableEq, Repr

/-- The projection profiles of a frame with the margins and geometry they were built with (R28, R31). -/
structure Profiles where
  cols : List Nat
  rows : List Nat
  mx : Nat
  my : Nat
  width : Nat
  height : Nat
  deriving DecidableEq, Repr

/-- A flicker detector (R34). -/
structure Detector where
  on : Bool
  run : Nat
  level : Nat
  deriving DecidableEq, Repr

/-- The values of one focus window in a statistics record (R27, R30). -/
structure WindowValue where
  enabled : Bool
  contrast : Nat
  mean : Nat
  figure : Nat
  deriving DecidableEq, Repr

/-- A statistics record (R30).  `windowSet` is the number of the window set it was measured with (R96). -/
structure StatRecord where
  frame : BitVec 32
  torn : Bool
  valid : Bool
  y : Nat
  h : Nat
  uniformFallback : Bool
  det100 : DetectorResult
  det120 : DetectorResult
  activePeriod : Period
  windows : List WindowValue
  windowSet : Nat
  focusFigure : Nat
  darkFloor : Nat
  current : Profiles
  reference : Option Profiles
  deriving DecidableEq, Repr

/-- The Statistics Engine (chapter 2).  `lineTimeLatched` is the line time the last frame start latched (R38, R39);
`patterns` is the WEIGHTS table. -/
structure StatEngine where
  params : StatParams
  patterns : List (List Nat)
  measuring : Option Measurement
  buffer : Option Measurement
  rowReference : Option (List Nat)
  profileReference : Option Profiles
  det100 : Detector
  det120 : Detector
  lineTimeLatched : Nat
  deriving DecidableEq, Repr

/-- A completion announcement (R13) as the consumers hold it, with the lens samples and flags of the frame. -/
structure Announcement where
  frame : BitVec 32
  slot : Nat
  outcome : FrameOutcome
  torn : Bool
  startSample : LensSample
  endSample : LensSample
  moving : MotorFlags
  focusSettled : Bool
  deriving DecidableEq, Repr

/-- Outstanding completion work of a controller: the announcement, and the statistics record once it has been handed
on (R29). -/
structure WorkItem where
  notice : Announcement
  stats : Option StatRecord
  deriving DecidableEq, Repr

/-! ## Exposure Controller -/

/-- The parameter record (R40). -/
structure ExposureParams where
  target : Nat
  hLim : Nat
  deadBand : Nat
  gain : Nat
  stepMax : Nat
  pattern : Nat
  compensation : Int
  mode : ExposureMode
  manualShutter : Nat
  manualGain : Nat
  manualIris : Nat
  deriving DecidableEq, Repr

/-- The PROGRAM table (R159). -/
structure ProgramTable where
  tlMin : Nat
  tlMax : Nat
  glMax : Nat
  credit : Nat
  crop : Nat
  deriving DecidableEq, Repr

/-- The held lens values (R40). -/
structure LensValues where
  focal : Nat
  alOpen : Nat
  stops : Nat
  stepAl : Nat
  deriving DecidableEq, Repr

/-- The latches of one frame (R40, R45). -/
structure ExposureLatch where
  frame : BitVec 32
  params : ExposureParams
  program : ProgramTable
  steady : Bool
  applied : ExposureSet
  deriving DecidableEq, Repr

/-- A request of the Focus Controller to the Exposure Controller that has not been taken yet (R51). -/
inductive ReferenceMessage where
  | take (frame : BitVec 32) (y : Nat)
  | drop
  deriving DecidableEq, Repr

/-- The meter reading the Status Block shows, as the newest issue gave it (R60); `present` is the mark of `y` and `eMeas`, not
of `skip` (DESIGN CHOICE, log entry 78). -/
structure ShownMeter where
  y : Nat
  eMeas : Int
  skip : SkipReason
  present : Bool
  mode : ExposureMode
  deriving DecidableEq, Repr

/-- The scene reference (R40, R51). -/
structure SceneReference where
  valid : Bool
  level : Nat
  run : Nat
  deriving DecidableEq, Repr

/-- The Exposure Controller (chapter 3).  `history` is in issue order, newest last; `work` holds the completed frames
whose work is outstanding, oldest first; `irisReached` is the position that the newest REACHED for
the iris carried (R70, R73). -/
structure ExposureController where
  params : ExposureParams
  program : ProgramTable
  latches : List ExposureLatch
  history : List ExposureSet
  settled : Bool
  lightHigh : Bool
  lightLow : Bool
  settleRun : Nat
  scene : SceneReference
  held : LensValues
  firstIssue : Bool
  shown : ShownMeter
  work : List WorkItem
  messages : List ReferenceMessage
  irisReached : Option Nat
  deriving DecidableEq, Repr

/-! ## Lens Drive -/

/-- What the Lens Drive holds for a motor (R66); `target` and `owner` have a meaning while the state is not IDLE. -/
structure MotorRecord where
  position : Nat
  state : MotorState
  target : Nat
  owner : Requester
  priority : Nat
  period : Nat
  moved : Bool
  deriving DecidableEq, Repr

/-- An entry of the preempted-move stack (R72). -/
structure StackEntry where
  motor : Motor
  target : Nat
  priority : Nat
  deriving DecidableEq, Repr

/-- A segment in flight (R68, R69); `timeout` is in microseconds, and `homing` says that it was sent in HOMING. -/
structure Segment where
  motor : Motor
  up : Bool
  steps : Nat
  period : Nat
  timeout : Nat
  homing : Bool
  deriving DecidableEq, Repr

/-- Where homing stands (R75, R76): the iris segments answered, or the seek of a motor with its direction and the
steps sent. -/
inductive Homing where
  | iris (answered : Nat)
  | seek (motor : Motor) (up : Bool) (sent : Nat)
  deriving DecidableEq, Repr

/-- What the requester does with the Lens Drive's answer: nothing, or the completion of the command that sent the
request (R88, R89, R109), or the answer to a cam table commit's request (R87). -/
inductive RequestPurpose where
  | plain
  | zoomTo (before : Option Nat) (clamped : Bool)
  | zoomStop
  | moveFocus (position : Nat) (clamped : Bool)
  | camCommit
  deriving DecidableEq, Repr

/-- A request waiting to be taken by the Lens Drive (R70, R73). -/
inductive LensMessage where
  | target (motor : Motor) (position : Nat) (purpose : RequestPurpose)
  | stop (motor : Motor) (purpose : RequestPurpose)
  | trackingAnswer
  deriving DecidableEq, Repr

/-- A LENS EVENT (R81). -/
structure LensEvent where
  event : LensEventKind
  motor : Option Motor
  cause : Option LensFaultCause
  before : Option LensMode
  after : LensMode
  difference : Int
  zoom : Nat
  focus : Nat
  iris : Nat
  deriving DecidableEq, Repr

/-- The Lens Drive (chapter 4).  `stack` has its top first; `current` is the motor of the current move; `draining` is
set from a SOFT RESET until its last segment has ended, and `heldEvents` are the LENS EVENTs of that segment (R82). -/
structure LensDrive where
  mode : LensMode
  zoom : MotorRecord
  focus : MotorRecord
  iris : MotorRecord
  stack : List StackEntry
  current : Option Motor
  segment : Option Segment
  awaiting : Bool
  zoomBlocked : Bool
  focusBlocked : Bool
  lastFocusEnd : Option Nat
  settleMark : Bool
  arbitration : Arbitration
  settleTime : Nat
  homing : Option Homing
  draining : Bool
  heldEvents : List LensEvent
  fromZoom : List LensMessage
  fromFocus : List LensMessage
  fromExposure : List LensMessage
  deriving DecidableEq, Repr

/-! ## Zoom Controller -/

/-- A node of the cam table (R84). -/
structure CamNode where
  zoom : Nat
  focal : Nat
  alOpen : Nat
  stops : Nat
  stepAl : Nat
  pInf : Nat
  pNear : Nat
  coarse : Nat
  deriving DecidableEq, Repr

/-- The derived values for a zoom position (R83, R85). -/
structure Derived where
  focal : Nat
  alOpen : Nat
  stops : Nat
  stepAl : Nat
  pInf : Nat
  pNear : Nat
  coarse : Nat
  deriving DecidableEq, Repr

/-- A notice of the Lens Drive to the Zoom Controller that has not been taken yet (R67, R73, R74). -/
inductive ZoomNotice where
  | handover (position : Nat)
  | start
  | finish
  | moveEnd (motor : Motor) (reached : Bool) (position : Nat)
  | stepLoss (motor : Motor)
  | lensState (mode : LensMode)
  deriving DecidableEq, Repr

/-- A request of the Focus Controller to the Zoom Controller that has not been taken yet (R91). -/
inductive FractionMessage where
  | position (p : Nat)
  | fraction (v : Nat)
  deriving DecidableEq, Repr

/-- The Zoom Controller (chapter 5).  `silent` counts the oldest hand-overs that wait and that a SOFT RESET was taken before:
they are answered without a target (R92). -/
structure ZoomController where
  cam : List CamNode
  derived : Option Derived
  target : Option Nat
  moving : Bool
  u : Nat
  fresh : Bool
  silent : Nat
  fromLens : List ZoomNotice
  fromFocus : List FractionMessage
  deriving DecidableEq, Repr

/-! ## Focus Controller -/

/-- An entry of the window set (R96): a rectangle, or the automatic centre when `rect` is `none`. -/
structure FocusWindow where
  rect : Option Rect
  enabled : Bool
  deriving DecidableEq, Repr

/-- A focus sample (R95). -/
structure FocusSample where
  position : Nat
  figure : Nat
  frame : BitVec 32
  sweep : Nat
  deriving DecidableEq, Repr

/-- The best record (R95). -/
structure BestRecord where
  position : Nat
  figure : Nat
  frame : BitVec 32
  deriving DecidableEq, Repr

/-- A position of the fine plan, with its figure once sampled (R102). -/
structure PlanEntry where
  position : Nat
  figure : Option Nat
  deriving DecidableEq, Repr

/-- A notice of the Lens Drive to the Focus Controller that a row of the table takes, and that has not been taken yet. -/
inductive FocusLensNotice where
  | moveEnd (reached : Bool) (position : Nat)
  | stepLoss (motor : Motor)
  | fault
  deriving DecidableEq, Repr

/-- A notice of the Zoom Controller to the Focus Controller that has not been taken yet (R90). -/
inductive FocusZoomNotice where
  | started | stopped
  deriving DecidableEq, Repr

/-- The values of an exposure alarm (R52). -/
inductive Alarm where
  | far | near | unmeasured
  deriving DecidableEq, Repr

/-- A notice of the Exposure Controller to the Focus Controller that has not been taken yet (R51, R52). -/
inductive FocusExposureNotice where
  | alarm (value : Alarm) (frame : BitVec 32)
  | sceneChanged (frame : BitVec 32)
  deriving DecidableEq, Repr

/-- The Focus Controller (chapter 6).  `forward` is the direction d = +1; the AE hold is `aeHold`; `lensTold` is the lens
state that the Lens Drive told last (R67).  `windowSet` numbers the window sets as they are written, and a pending baseline
needs a sample measured with set `baselineSet` or a later one (R96; log entry 53). -/
structure FocusController where
  mode : FocusMode
  drop : Nat
  monitorDrop : Nat
  contrastFloor : Nat
  fallback : Nat
  windows : List FocusWindow
  windowSet : Nat
  search : SearchState
  forward : Bool
  coarseStep : Nat
  fineStep : Nat
  startPosition : Nat
  sweep : Nat
  framesUsed : Nat
  farRun : Nat
  lastFailure : FocusReason
  samples : List FocusSample
  best : Option BestRecord
  plan : List PlanEntry
  peakTarget : Nat
  moveMark : Bool
  lockFigure : Nat
  baselinePending : Bool
  baselineSet : Nat
  zoomPause : Bool
  dropRun : Nat
  aeHold : Bool
  lensTold : LensMode
  work : List WorkItem
  fromLens : List FocusLensNotice
  fromZoom : List FocusZoomNotice
  fromExposure : List FocusExposureNotice
  deriving DecidableEq, Repr

/-! ## Steady Controller -/

/-- The frame latch of R115. -/
structure SteadyLatch where
  frame : BitVec 32
  enable : Bool
  range : Nat
  leak : Nat
  qualityMin : Nat
  xl : Int
  deriving DecidableEq, Repr

/-- The reference note (R113, R115). -/
structure ReferenceNote where
  xl : Int
  zoomMoving : Bool
  deriving DecidableEq, Repr

/-- One axis of the offset: accumulator, clamp run and panning mark (R113, R118, R119). -/
structure AxisState where
  o16 : Int
  run : Nat
  panning : Bool
  deriving DecidableEq, Repr

/-- The latched geometry and offset of a view pass (R121, R122). -/
structure PassGeometry where
  width : Nat
  height : Nat
  mx : Nat
  my : Nat
  slotBase : Nat
  ox : Int
  oy : Int
  deriving DecidableEq, Repr

/-- The view pass record (R113, R121). -/
structure ViewPass where
  status : PassStatus
  pinned : Option Nat
  geometry : PassGeometry
  completions : Nat
  leftLineZero : Bool
  number : BitVec 16
  deriving DecidableEq, Repr

/-- The Steady Controller (chapter 7).  `source` is `none` for LIVE. -/
structure SteadyController where
  enable : Bool
  mx : Nat
  my : Nat
  range : Nat
  leak : Nat
  qualityMin : Nat
  geometryValid : Bool
  latches : List SteadyLatch
  note : Option ReferenceNote
  axisX : AxisState
  axisY : AxisState
  pass : ViewPass
  source : Option Nat
  work : List WorkItem
  deriving DecidableEq, Repr

/-! ## Capture Unit -/

/-- An entry of the held list (R129). -/
structure HeldEntry where
  slot : Nat
  frame : BitVec 32
  deriving DecidableEq, Repr

/-- What the Capture Unit does after the unholds of its held list (R136, R138). -/
inductive StopReason where
  | stopCommand | modeStandby
  deriving DecidableEq, Repr

/-- The piece of work in hand, with what remains of it; the request for its first part is outstanding (R129). -/
inductive CaptureWork where
  | arming (entry : HeldEntry) (rest : List HeldEntry) (clamped : Bool) (burst : Nat)
  | makeRoom (frame : HeldEntry)
  | holdFrame (entry : HeldEntry)
  | keepHeld (entry : HeldEntry) (rest : List HeldEntry) (index : Int) (count : Nat)
  | keepFrame (entry : HeldEntry) (torn : Bool)
  | stopping (rest : List HeldEntry) (why : StopReason)
  | releasing
  deriving DecidableEq, Repr

/-- A command that waits for the Capture Unit to end the work it has in hand (R129). -/
inductive CaptureCommand where
  | arm (preDepth burst : Nat)
  | stop
  | release (slot : Nat)
  | standby
  deriving DecidableEq, Repr

/-- A trigger toggle that differed from the acknowledge when it was handed on (R132), or a completion announcement, that the
Capture Unit has not taken yet. -/
inductive CaptureMessage where
  | toggle (value : Bool)
  | completion (notice : Announcement)
  deriving DecidableEq, Repr

/-- The Capture Unit (chapter 8). -/
structure CaptureUnit where
  mode : CaptureMode
  id : Nat
  effectiveP : Nat
  burst : Nat
  heldList : List HeldEntry
  nextIndex : Nat
  keptCount : Nat
  skipCount : Nat
  acknowledge : Bool
  bufferHigh : Bool
  work : Option CaptureWork
  command : Option CaptureCommand
  messages : List CaptureMessage
  deriving DecidableEq, Repr

/-! ## Pass-Through Unit -/

/-- The classes of an address; plain and Control Block addresses are both forwarded unchanged (R143). -/
inductive Region where
  | capture | view | plain
  deriving DecidableEq, Repr

/-- A piece of a host request (R143): its class, first byte address, length in words, byte place in the request,
and its words when it is a write. -/
structure Piece where
  region : Region
  addr : Nat
  words : Nat
  place : Nat
  data : List LinkWord
  deriving DecidableEq, Repr

/-- A Control Block field a write piece covers (R145). -/
inductive BlockField where
  | tail (value : BitVec 16)
  | toggle (value : Bool)
  | head (value : BitVec 16)
  | mask (value : BitVec 8)
  deriving DecidableEq, Repr

/-- A request at the downstream port (R141); a read carries its downstream tag. -/
inductive DownRequest where
  | read (dtag addr words : Nat)
  | write (addr : Nat) (data : List LinkWord)
  deriving DecidableEq, Repr

/-- A fetch of a host read (R146): its downstream tag, its byte place in the response, the bytes of the fetched words
to skip, the bytes to place, whether it has been granted and whether its data have returned. -/
structure HostFetch where
  dtag : Nat
  place : Nat
  skip : Nat
  count : Nat
  granted : Bool
  returned : Bool
  deriving DecidableEq, Repr

/-- An entry of the read-tag map (R146). -/
structure ReadEntry where
  tag : Nat
  bytes : List Byte
  fetches : List HostFetch
  error : Bool
  pass : Option (BitVec 16)
  deriving DecidableEq, Repr

/-- A response delivered upstream (R146). -/
structure HostResponse where
  tag : Nat
  error : Bool
  bytes : List Byte
  deriving DecidableEq, Repr

/-- What an own request is for (R147).  `report` names the ring count whose entry record the forwarded notice marks,
or `none` when a SOFT RESET has discarded that entry (R170). -/
inductive OwnPurpose where
  | image (slot : Nat)
  | commandFetch
  | tableFetch (offset : Nat)
  | report (entry : Option (BitVec 16))
  | status
  deriving DecidableEq, Repr

/-- An own request (R147): a write when `data` is not empty, a read of `words` words otherwise. -/
structure OwnRequest where
  purpose : OwnPurpose
  addr : Nat
  words : Nat
  data : List LinkWord
  deriving DecidableEq, Repr

/-- An own read in flight, by its own tag (R147). -/
structure OwnRead where
  dtag : Nat
  purpose : OwnPurpose
  deriving DecidableEq, Repr

/-- The Pass-Through Unit (chapter 9).  `hostDown` holds the downstream requests of the taken host request that have
not been granted; `forwarded` and `delivered` are what has left the downstream and the upstream port, newest first. -/
structure PassThrough where
  strap : BitVec 3
  arrival : List HostRequest
  hostDown : List DownRequest
  readMap : List ReadEntry
  ownQueue : List OwnRequest
  ownReads : List OwnRead
  hostRun : Nat
  forwarded : List DownRequest
  delivered : List HostResponse
  deriving DecidableEq, Repr

/-! ## Command Unit -/

/-- The configuration record (R150). -/
structure FrameConfig where
  width : Nat
  height : Nat
  captureBase : Nat
  viewBase : Nat
  poolBase : Nat
  stride : Nat
  slotCount : Nat
  latency : Nat
  deriving DecidableEq, Repr

/-- The staging buffer with a table image being fetched (R150, R159): kind, image address, the image's length once the
header has been checked, the bytes so far, the offsets of the fetches that have not returned, and whether one failed. -/
structure Staging where
  kind : TableKind
  address : Nat
  length : Option Nat
  image : List Byte
  outstanding : List Nat
  failed : Bool
  deriving DecidableEq, Repr

/-- The command in hand (R152): its code and tag, as its completion will carry them. -/
structure InHand where
  code : BitVec 16
  tag : BitVec 16
  deriving DecidableEq, Repr

/-- The Command Unit (chapter 10).  `waitingReads` are own reads that the unit keeps until the own-traffic queue accepts them
(R147); `slotWanted` is the slot of a SET VIEW SOURCE whose review pin has been asked for (R126). -/
structure CommandUnit where
  tail : BitVec 16
  head : BitVec 16
  cycle : Cycle
  mode : OpMode
  config : FrameConfig
  valid : Bool
  staging : Option Staging
  camMark : Bool
  programMark : Bool
  weightsMark : Bool
  inHand : Option InHand
  waitingReads : List OwnRequest
  slotWanted : Option Nat
  deriving DecidableEq, Repr

/-! ## Report Unit -/

/-- An EXPOSURE SET report (R60). -/
structure ExposureReport where
  set : ExposureSet
  skip : SkipReason
  meter : Option (Int × Int)
  step : Int
  settled : Bool
  changed : Bool
  deriving DecidableEq, Repr

/-- A FOCUS STATE report (R111). -/
structure FocusReport where
  state : SearchState
  before : SearchState
  cause : FocusCause
  reason : FocusReason
  position : Option Nat
  peakOrStep : Nat
  best : Option BestRecord
  framesUsed : Nat
  sweep : Nat
  lockFigure : Nat
  frame : BitVec 32
  deriving DecidableEq, Repr

/-- A CAPTURE EVENT (R139). -/
structure CaptureReport where
  event : CaptureEventKind
  mode : CaptureMode
  id : Nat
  acknowledge : Bool
  slot : Option Nat
  index : Int
  frame : BitVec 32
  detail : Nat
  torn : Bool
  countA : Nat
  skipCount : Nat
  keptSlots : Nat
  heldSlots : Nat
  deriving DecidableEq, Repr

/-- The content of a report, by kind (section 12.3). -/
inductive Report where
  | commandDone (code tag ring : BitVec 16) (status : Status) (value : Int)
  | exposureSet (r : ExposureReport) (merge : Nat)
  | frameSummary (frame : BitVec 32) (slot : Nat) (outcome : FrameOutcome) (torn : Bool)
  | focusState (r : FocusReport)
  | lensEvent (r : LensEvent)
  | captureEvent (r : CaptureReport)
  | pathFault (cause : FaultCause) (count : Nat) (addr : Nat)
  | eventsLost
  deriving DecidableEq, Repr

/-- An entry record (R163). -/
structure EntryRecord where
  cls : ReportClass
  forwarded : Bool
  deriving DecidableEq, Repr

/-- The lost counters (R163). -/
structure LostCounters where
  frame : Nat
  focus : Nat
  lens : Nat
  capture : Nat
  deriving DecidableEq, Repr

/-- The Report Unit (chapter 11).  `waiting` is the waiting order of R165, oldest first: it holds the reports of the
pending queue, the content of each occupied coalescing slot at the place the slot took, and EVENTS LOST while the lost
mark is set.  `entries` runs from the head copy up to the write count.  `statusFirst` is set until the first Status Block
write after a power-on reset has entered the own-traffic queue (R149). -/
structure ReportUnit where
  writeCount : BitVec 16
  headCopy : BitVec 16
  mask : BitVec 8
  entries : List EntryRecord
  highWater : Bool
  waiting : List Report
  lost : LostCounters
  lostMark : Bool
  statusWaiting : Bool
  statusQueued : Bool
  statusFirst : Bool
  attention : Bool
  deriving DecidableEq, Repr

/-! ## The machine -/

/-- The part: its blocks, and the commands that wait, first in, first out. -/
structure State where
  link : PassThrough
  slots : SlotManager
  stats : StatEngine
  exposure : ExposureController
  lens : LensDrive
  zoom : ZoomController
  focus : FocusController
  steady : SteadyController
  capture : CaptureUnit
  command : CommandUnit
  report : ReportUnit
  pending : List Instr
  deriving DecidableEq, Repr

/-! ## Reset values

Where the spec gives no reset value, a register holds zero, none or the first name (DESIGN CHOICE, log entry 42). -/

/-- A lens sample at its reset value (R16). -/
def LensSample.reset : LensSample := { zoom := 0, focus := 0, irisStop := 0, known := false }

/-- The applied exposure set of a record at its reset value (R16). -/
def ExposureSet.reset : ExposureSet :=
  { tl := 0, gl := 0, al := 0, xl := 0, shutter := 0, gainCode := 0, irisStop := 0, quantised := .off,
    flickerExposed := false, lightHigh := false, lightLow := false, lensHeld := false, source := .program, tag := none }

/-- The statistics fields of a record at their reset value (R16). -/
def RecordStatistics.reset : RecordStatistics :=
  { valid := false, uniformFallback := false, y := 0, h := 0,
    det100 := { level := 0, evaluated := false, on := false }, det120 := { level := 0, evaluated := false, on := false },
    focusFigure := 0, windowMeans := [0, 0, 0, 0, 0] }

/-- A frame record with every field at its reset value (R16). -/
def FrameRecord.reset : FrameRecord :=
  { frame := 0, outcome := .notYet, torn := false, bytesStored := 0, startSample := .reset, endSample := .reset,
    moving := { zoom := false, focus := false, iris := false }, focusSettled := false, applied := .reset,
    issueFrame := none, metering := none, statistics := .reset, steady := none, capture := none }

/-- A slot table entry as CONFIGURE FRAME builds it (R18). -/
def Slot.reset : Slot :=
  { state := .free, pins := 0, recordFrame := 0, fillAge := 0, lastFrame := 0, record := .reset }

/-- The capture tracker after power-on reset (R18). -/
def Tracker.reset : Tracker := { inProgress := none, expected := 0, stored := 0, torn := false }

/-- The Slot Manager after power-on reset (R18). -/
def SlotManager.reset : SlotManager :=
  { table := [], seq := 0, tracker := .reset, imageWaiting := [], captureRequest := none, captureAnswer := none,
    pinMessages := [] }

/-- A flicker detector after power-on reset (R39). -/
def Detector.reset : Detector := { on := false, run := 0, level := 0 }

/-- The Statistics Engine after power-on reset (R38, R39). -/
def StatEngine.reset : StatEngine :=
  { params := { saturation := 4032, coring := 32, onThreshold := 96, offThreshold := 48, darkFloor := 32, lineTime := 0 },
    patterns := [], measuring := none, buffer := none, rowReference := none, profileReference := none,
    det100 := .reset, det120 := .reset, lineTimeLatched := 0 }

/-- The PROGRAM values in use before a PROGRAM table is committed (R160). -/
def ProgramTable.reset : ProgramTable := { tlMin := 190, tlMax := 793, glMax := 0, credit := 0, crop := 16 }

/-- The Exposure Controller after power-on reset (R61 to R65). -/
def ExposureController.reset : ExposureController :=
  { params := { target := 2458, hLim := 8, deadBand := 4, gain := 8, stepMax := 64, pattern := 0, compensation := 0,
                mode := .program, manualShutter := 65536, manualGain := 256, manualIris := 0 },
    program := .reset, latches := [], history := [], settled := false, lightHigh := false, lightLow := false,
    settleRun := 0, scene := { valid := false, level := 0, run := 0 },
    held := { focal := 0, alOpen := 0, stops := 0, stepAl := 0 }, firstIssue := true,
    shown := { y := 0, eMeas := 0, skip := .stepped, present := false, mode := .program }, work := [], messages := [],
    irisReached := none }

/-- A motor after power-on reset (R82) with its power-on priority and step period (R80). -/
def MotorRecord.reset (owner : Requester) (priority period : Nat) : MotorRecord :=
  { position := 0, state := .idle, target := 0, owner := owner, priority := priority, period := period, moved := false }

/-- The Lens Drive after power-on reset (R80, R82). -/
def LensDrive.reset : LensDrive :=
  { mode := .unhomed, zoom := .reset .zoom 3 1000, focus := .reset .focus 1 500, iris := .reset .exposure 2 2000,
    stack := [], current := none, segment := none, awaiting := false, zoomBlocked := false, focusBlocked := false,
    lastFocusEnd := none, settleMark := false, arbitration := .preempt, settleTime := 3000, homing := none,
    draining := false, heldEvents := [], fromZoom := [], fromFocus := [], fromExposure := [] }

/-- The Zoom Controller after power-on reset (R94). -/
def ZoomController.reset : ZoomController :=
  { cam := [], derived := none, target := none, moving := false, u := 0, fresh := false, silent := 0, fromLens := [],
    fromFocus := [] }

/-- The Focus Controller after power-on reset (R96, R110, R112). -/
def FocusController.reset : FocusController :=
  { mode := .single, drop := 24, monitorDrop := 64, contrastFloor := 65536, fallback := 96,
    windows := [{ rect := none, enabled := true }, { rect := none, enabled := false }, { rect := none, enabled := false },
                { rect := none, enabled := false }, { rect := none, enabled := false }],
    windowSet := 0, search := .idle, forward := true, coarseStep := 0, fineStep := 0, startPosition := 0, sweep := 1,
    framesUsed := 0, farRun := 0, lastFailure := .noReason, samples := [], best := none, plan := [], peakTarget := 0,
    moveMark := false, lockFigure := 0, baselinePending := false, baselineSet := 0, zoomPause := false, dropRun := 0,
    aeHold := false, lensTold := .unhomed, work := [], fromLens := [], fromZoom := [], fromExposure := [] }

/-- An axis with its accumulator 0 and its panning state clear (R127). -/
def AxisState.reset : AxisState := { o16 := 0, run := 0, panning := false }

/-- The view pass record after power-on reset (R127). -/
def ViewPass.reset : ViewPass :=
  { status := .closed, pinned := none,
    geometry := { width := 0, height := 0, mx := 0, my := 0, slotBase := 0, ox := 0, oy := 0 },
    completions := 0, leftLineZero := false, number := 0 }

/-- The Steady Controller after power-on reset (R127). -/
def SteadyController.reset : SteadyController :=
  { enable := false, mx := 0, my := 0, range := 24, leak := 4, qualityMin := 40, geometryValid := false, latches := [],
    note := none, axisX := .reset, axisY := .reset, pass := .reset, source := none, work := [] }

/-- The Capture Unit after power-on reset (R140). -/
def CaptureUnit.reset : CaptureUnit :=
  { mode := .idle, id := 0, effectiveP := 0, burst := 0, heldList := [], nextIndex := 1, keptCount := 0, skipCount := 0,
    acknowledge := false, bufferHigh := false, work := none, command := none, messages := [] }

/-- The Pass-Through Unit after power-on reset with the sampled strap value (R149). -/
def PassThrough.reset (strap : BitVec 3) : PassThrough :=
  { strap := strap, arrival := [], hostDown := [], readMap := [], ownQueue := [], ownReads := [],
    hostRun := 0, forwarded := [], delivered := [] }

/-- The Command Unit after power-on reset (R162). -/
def CommandUnit.reset : CommandUnit :=
  { tail := 0, head := 0, cycle := .idle, mode := .standby,
    config := { width := 0, height := 0, captureBase := 0, viewBase := 0, poolBase := 0, stride := 0, slotCount := 0,
                latency := 0 },
    valid := false, staging := none, camMark := false, programMark := false, weightsMark := false, inHand := none,
    waitingReads := [], slotWanted := none }

/-- The Report Unit when power-on reset ends: the values of R170, and the Status Block write it then issues, which waits
to enter the own-traffic queue first of all (R149). -/
def ReportUnit.reset : ReportUnit :=
  { writeCount := 0, headCopy := 0, mask := 0, entries := [], highWater := false, waiting := [],
    lost := { frame := 0, focus := 0, lens := 0, capture := 0 }, lostMark := false, statusWaiting := true,
    statusQueued := false, statusFirst := true, attention := false }

/-- The part after a power-on reset that sampled `strap` (R149 and the reset rule of each block). -/
def State.resetWith (strap : BitVec 3) : State :=
  { link := .reset strap, slots := .reset, stats := .reset, exposure := .reset, lens := .reset, zoom := .reset,
    focus := .reset, steady := .reset, capture := .reset, command := .reset, report := .reset, pending := [] }

/-- The part right after reset.  The pins are an input: strap value 0 is a DESIGN CHOICE (log entry 1). -/
def State.reset : State := State.resetWith 0

end Sys2Proof.Machine
end

