-- ==== Sys2Proof/Machine/Codes.lean ====
section
/-!
DEFINITION. The value codes of section 12.7, and the host command codes of section 12.2.
-/
namespace Sys2Proof.Machine

/-- Section 12.7, class. -/
def classCode : ReportClass → Nat
  | .completion => 0 | .exposure => 1 | .frame => 2 | .focus => 3 | .lens => 4 | .capture => 5 | .fault => 6

/-- Section 12.7, status. -/
def statusCode : Status → Nat
  | .done => 0 | .clamped => 1 | .notReady => 2 | .conflict => 3 | .badParameter => 4 | .unknownCommand => 5
  | .memoryError => 6

/-- Section 12.7, slot state; 0 is NONE, for a record position beyond the slot count. -/
def slotStateCode : SlotState → Nat
  | .free => 1 | .filling => 2 | .filled => 3 | .held => 4 | .kept => 5

/-- Section 12.7, outcome. -/
def outcomeCode : FrameOutcome → Nat
  | .notYet => 0 | .complete => 1 | .torn => 2 | .spilled => 3

/-- Section 12.7, exposure mode. -/
def exposureModeCode : ExposureMode → Nat
  | .program => 0 | .manual => 1 | .locked => 2

/-- Section 12.7, source. -/
def sourceCode : SetSource → Nat
  | .program => 0 | .manual => 1 | .held => 2

/-- Section 12.7, quantised period. -/
def periodCode : Period → Nat
  | .off => 0 | .us10000 => 1 | .us8333 => 2

/-- Section 12.7, exposure skip reason. -/
def skipCode : SkipReason → Nat
  | .stepped => 0 | .torn => 1 | .irisMoving => 2 | .focusHold => 3 | .manual => 4 | .locked => 5

/-- Section 12.7, lens state. -/
def lensModeCode : LensMode → Nat
  | .unhomed => 0 | .homing => 1 | .ready => 2 | .parking => 3 | .parked => 4 | .fault => 5

/-- Section 12.7, motor. -/
def motorCode : Motor → Nat
  | .zoom => 0 | .focus => 1 | .iris => 2

/-- Section 12.7, lens event. -/
def lensEventCode : LensEventKind → Nat
  | .homed => 1 | .parked => 2 | .fault => 3 | .stepLoss => 4

/-- Section 12.7, lens fault cause. -/
def lensCauseCode : LensFaultCause → Nat
  | .driverFault => 1 | .timeout => 2 | .noHome => 3

/-- Section 12.7, focus mode. -/
def focusModeCode : FocusMode → Nat
  | .single => 0 | .continuous => 1 | .manual => 2

/-- Section 12.7, search state. -/
def searchCode : SearchState → Nat
  | .idle => 0 | .coarse => 1 | .fine => 2 | .peak => 3 | .locked => 4 | .monitor => 5 | .failed => 6

/-- Section 12.7, focus cause: 1 to 19 in the order of R111. -/
def focusCauseCode : FocusCause → Nat
  | .start => 1 | .restartDrop => 2 | .restartScene => 3 | .peakPassed => 4 | .sweepEnd => 5 | .peakSet => 6
  | .locked => 7 | .baseline => 8 | .lowContrast => 9 | .timeout => 10 | .lensFault => 11 | .cancelled => 12
  | .zoom => 13 | .stepLoss => 14 | .exposure => 15 | .standby => 16 | .mode => 17 | .moved => 18 | .sceneChanged => 19

/-- Section 12.7, focus reason. -/
def focusReasonCode : FocusReason → Nat
  | .noReason => 0 | .torn => 1 | .focusMoving => 2 | .zoomMoving => 3 | .dark => 4

/-- Section 12.7, hold reason. -/
def holdCode : HoldReason → Nat
  | .noHold => 0 | .torn => 1 | .noReference => 2 | .zoomMoving => 3 | .exposureStep => 4 | .lowQuality => 5
  | .atRange => 6

/-- Section 12.7, capture state. -/
def captureModeCode : CaptureMode → Nat
  | .idle => 0 | .armed => 1 | .running => 2

/-- Section 12.7, capture event. -/
def captureEventCode : CaptureEventKind → Nat
  | .triggered => 1 | .triggerIgnored => 2 | .kept => 3 | .skipped => 4 | .ended => 5 | .bufferHigh => 6 | .bufferLow => 7

/-- Section 12.7, skip reason of a capture. -/
def keepSkipCode : KeepSkip → Nat
  | .spilled => 1 | .full => 2 | .gone => 3

/-- Section 12.7, end cause. -/
def endCauseCode : EndCause → Nat
  | .burstDone => 1 | .indexLimit => 2 | .stopped => 3 | .standby => 4

/-- Section 12.7, pass state. -/
def passCode : PassStatus → Nat
  | .closed => 0 | .opened => 1 | .blank => 2

/-- Section 12.7, operating mode. -/
def opModeCode : OpMode → Nat
  | .standby => 0 | .view => 1

/-- Section 12.7, table kind. -/
def tableKindCode : TableKind → Nat
  | .cam => 1 | .program => 2 | .weights => 3

/-- The table kind of a code; no kind for any other code. -/
def tableKindOf (code : Nat) : Option TableKind :=
  match code with
  | 1 => some .cam
  | 2 => some .program
  | 3 => some .weights
  | _ => none

/-- Section 12.7, path-fault cause. -/
def faultCode : FaultCause → Nat
  | .captureOutOfOrder => 1 | .captureOverrun => 2 | .captureRestart => 3 | .viewWrite => 4 | .viewBeyond => 5
  | .viewNoView => 6 | .viewNoFrame => 7 | .viewStale => 8 | .apertureInactive => 9 | .badCommandTail => 10
  | .badReportHead => 11

/-! ## Command codes (section 12.2) -/

/-- SET STATISTICS. -/
def codeSetStatistics : BitVec 16 := 0x0201
/-- SET METERING. -/
def codeSetMetering : BitVec 16 := 0x0301
/-- SET EXPOSURE MODE. -/
def codeSetExposureMode : BitVec 16 := 0x0302
/-- SET COMPENSATION. -/
def codeSetCompensation : BitVec 16 := 0x0303
/-- SET MANUAL EXPOSURE. -/
def codeSetManualExposure : BitVec 16 := 0x0304
/-- HOME LENS. -/
def codeHomeLens : BitVec 16 := 0x0401
/-- PARK LENS. -/
def codeParkLens : BitVec 16 := 0x0402
/-- SET LENS DRIVE. -/
def codeSetLensDrive : BitVec 16 := 0x0403
/-- ZOOM TO. -/
def codeZoomTo : BitVec 16 := 0x0501
/-- ZOOM STOP. -/
def codeZoomStop : BitVec 16 := 0x0502
/-- SET FOCUS MODE. -/
def codeSetFocusMode : BitVec 16 := 0x0601
/-- SET FOCUS WINDOWS. -/
def codeSetFocusWindows : BitVec 16 := 0x0602
/-- START FOCUS. -/
def codeStartFocus : BitVec 16 := 0x0603
/-- CANCEL FOCUS. -/
def codeCancelFocus : BitVec 16 := 0x0604
/-- MOVE FOCUS. -/
def codeMoveFocus : BitVec 16 := 0x0605
/-- SET STEADY. -/
def codeSetSteady : BitVec 16 := 0x0701
/-- RECENTER STEADY. -/
def codeRecenterSteady : BitVec 16 := 0x0702
/-- SET VIEW SOURCE. -/
def codeSetViewSource : BitVec 16 := 0x0703
/-- ARM CAPTURE. -/
def codeArmCapture : BitVec 16 := 0x0801
/-- STOP CAPTURE. -/
def codeStopCapture : BitVec 16 := 0x0802
/-- RELEASE SLOT. -/
def codeReleaseSlot : BitVec 16 := 0x0803
/-- CONFIGURE FRAME. -/
def codeConfigureFrame : BitVec 16 := 0x0A01
/-- SET MODE. -/
def codeSetMode : BitVec 16 := 0x0A02
/-- LOAD TABLE. -/
def codeLoadTable : BitVec 16 := 0x0A03
/-- SOFT RESET. -/
def codeSoftReset : BitVec 16 := 0x0A04

/-- The codes that name a command. -/
def commandCodes : List (BitVec 16) :=
  [codeSetStatistics, codeSetMetering, codeSetExposureMode, codeSetCompensation, codeSetManualExposure, codeHomeLens,
   codeParkLens, codeSetLensDrive, codeZoomTo, codeZoomStop, codeSetFocusMode, codeSetFocusWindows, codeStartFocus,
   codeCancelFocus, codeMoveFocus, codeSetSteady, codeRecenterSteady, codeSetViewSource, codeArmCapture,
   codeStopCapture, codeReleaseSlot, codeConfigureFrame, codeSetMode, codeLoadTable, codeSoftReset]

end Sys2Proof.Machine
end

