-- ==== Sys2Proof/Machine/Numbers.lean ====
section
/-!
DEFINITION. Arithmetic of the part (chapter 0, Numbers and arithmetic): clamps, the logarithm and antilogarithm of
R41 and R42, comparisons of frame sequence numbers (R15), list helpers, and the byte layout of record fields (R171).
-/
namespace Sys2Proof.Machine

/-- `x` clamped to [lo, hi]. -/
def clampInt (lo hi x : Int) : Int := if x < lo then lo else if hi < x then hi else x

/-- `x` clamped to [lo, hi]. -/
def clampNat (lo hi x : Nat) : Nat := if x < lo then lo else if hi < x then hi else x

/-- `x + y`, stopping at `bound`. -/
def satAdd (bound x y : Nat) : Nat := min bound (x + y)

/-- The distance |x - y| of two naturals. -/
def natDist (x y : Nat) : Nat := (x - y) + (y - x)

/-- The logarithm L of R41; 0 is taken as 1. -/
def logL (x : Nat) : Nat :=
  let v := max 1 x
  let e := Nat.log2 v
  32 * e + 32 * (v - 2 ^ e) / 2 ^ e

/-- The antilogarithm A of R42. -/
def antilog (t : Nat) : Nat := (32 + t % 32) * 2 ^ (t / 32) / 32

/-- The gain code of a gain level (R42). -/
def gainCodeOf (gl : Nat) : Nat := (32 + gl % 32) * 2 ^ (gl / 32) * 8

/-- The gain level of a gain code, negative for a code below 256 (R42). -/
def gainLevelOf (code : Nat) : Int := (logL (code / 8) : Int) - 160

/-- How far frame `n` lies behind the present count `seq`, modulo 2^32 (R15): the larger, the older. -/
def behind (seq n : BitVec 32) : Nat := (seq - n).toNat

/-- The element at `i`, or `d` beyond the end. -/
def getAt {α : Type} (d : α) : List α → Nat → α
  | [], _ => d
  | a :: _, 0 => a
  | _ :: l, i + 1 => getAt d l i

/-- The list with `f` applied at `i`; unchanged beyond the end. -/
def updAt {α : Type} (f : α → α) : List α → Nat → List α
  | [], _ => []
  | a :: l, 0 => f a :: l
  | a :: l, i + 1 => a :: updAt f l i

/-- The list with `a` at `i`; unchanged beyond the end. -/
def setAt {α : Type} (l : List α) (i : Nat) (a : α) : List α := updAt (fun _ => a) l i

/-- The list with its elements from `i` replaced by those of `new`, keeping its length. -/
def spliceAt {α : Type} (l : List α) (i : Nat) (new : List α) : List α :=
  l.take i ++ (new.take (l.length - i) ++ l.drop (i + new.length))

/-- The sum of a list. -/
def total (l : List Nat) : Nat := l.foldl (· + ·) 0

/-- The index of the first element that satisfies `p`. -/
def findIndex {α : Type} (p : α → Bool) : List α → Nat → Option Nat
  | [], _ => none
  | a :: l, i => if p a then some i else findIndex p l (i + 1)

/-- The elements that satisfy `p`, with their indices counted from `i`. -/
def indexed {α : Type} (p : α → Bool) : List α → Nat → List (Nat × α)
  | [], _ => []
  | a :: l, i => if p a then (i, a) :: indexed p l (i + 1) else indexed p l (i + 1)

/-! ## Bytes of the link -/

/-- The 16 bytes of a link word, lowest address first. -/
def wordBytes (w : LinkWord) : List Byte := (List.range 16).map (fun i => w.extractLsb' (8 * i) 8)

/-- The bytes of some link words, lowest address first. -/
def dataBytes (ws : List LinkWord) : List Byte := ws.flatMap wordBytes

/-- The value of some bytes, little-endian (R171). -/
def leValue : List Byte → Nat
  | [] => 0
  | b :: l => b.toNat + 256 * leValue l

/-- `n` link words made of the bytes of a record, zeros beyond them. -/
def packWords : Nat → List Byte → List LinkWord
  | 0, _ => []
  | n + 1, l => BitVec.ofNat 128 (leValue (l.take 16)) :: packWords n (l.drop 16)

/-- A field of a record: its offset, its size in bytes, and its value. -/
structure Field where
  off : Nat
  size : Nat
  val : Nat
  deriving DecidableEq, Repr

/-- A signed value in two's complement at a field of `size` bytes (R171). -/
def signedVal (size : Nat) (x : Int) : Nat := (x % (2 ^ (8 * size) : Nat)).toNat

/-- Marks packed from bit 0 (R171). -/
def marks : List Bool → Nat
  | [] => 0
  | b :: l => b.toNat + 2 * marks l

/-- The byte of a record at offset `i`: from the field that covers it, or 0 where it is spare (R171). -/
def recordByte (fields : List Field) (i : Nat) : Byte :=
  match fields.find? (fun f => f.off ≤ i && i < f.off + f.size) with
  | some f => BitVec.ofNat 8 (f.val >>> (8 * (i - f.off)))
  | none => 0

/-- The words of a record of `n` words. -/
def recordWords (n : Nat) (fields : List Field) : List LinkWord :=
  packWords n ((List.range (16 * n)).map (recordByte fields))

end Sys2Proof.Machine
end

