-- ==== Sys2Proof/Decode.lean ====
section
/-!
DEFINITION. The command that a word of the opcode table spells, and the command records of the command ring: which
host command a record holds, and the record of a host command (section 12.2, R153, R171, R172).
-/
namespace Sys2Proof

/-- The command a word of the opcode table spells.  No row of the table gives bits: a command reaches the part as a link
request, an answer, a pin or a step of its own, so no word spells one. -/
def decodeTableWord (_nbits _w : Nat) : Option Instr := none

/-! ## Command records (section 12.2) -/

/-- The value of the `n` bytes of a record at `off` (R171). -/
def recordField (b : List Byte) (off n : Nat) : Nat := Machine.leValue ((b.drop off).take n)

/-- A u8 field. -/
def field8 (b : List Byte) (off : Nat) : BitVec 8 := BitVec.ofNat 8 (recordField b off 1)
/-- A u16 or s16 field. -/
def field16 (b : List Byte) (off : Nat) : BitVec 16 := BitVec.ofNat 16 (recordField b off 2)
/-- A u32 field. -/
def field32 (b : List Byte) (off : Nat) : BitVec 32 := BitVec.ofNat 32 (recordField b off 4)

/-- Window `i` of a SET FOCUS WINDOWS record. -/
def windowArg (b : List Byte) (i : Nat) : WindowArg :=
  let o := 0x04 + 10 * i
  { x := field16 b o, y := field16 b (o + 2), width := field16 b (o + 4), height := field16 b (o + 6),
    enable := field8 b (o + 8) }

/-- The host command that a command record holds (section 12.2); a code that names no command gives UNKNOWN COMMAND
(R153).  SET MODE with the mode byte STANDBY is the row SET_MODE_STANDBY, and with any other SET_MODE_VIEW (R157). -/
def decodeRecord (b : List Byte) : Instr :=
  let tag := field16 b 0x02
  match (field16 b 0x00).toNat with
  | 0x0201 => .setStatistics tag (field16 b 0x04) (field16 b 0x06) (field8 b 0x08) (field8 b 0x09) (field16 b 0x0A)
      (field32 b 0x0C)
  | 0x0301 => .setMetering tag (field16 b 0x04) (field16 b 0x06) (field8 b 0x08) (field8 b 0x09) (field8 b 0x0A)
      (field8 b 0x0B)
  | 0x0302 => .setExposureMode tag (field8 b 0x04)
  | 0x0303 => .setCompensation tag (field16 b 0x04)
  | 0x0304 => .setManualExposure tag (field32 b 0x04) (field16 b 0x08) (field8 b 0x0A)
  | 0x0401 => .homeLens tag
  | 0x0402 => .parkLens tag
  | 0x0403 => .setLensDrive tag (field8 b 0x04) (field8 b 0x05) (field8 b 0x06) (field8 b 0x07) (field16 b 0x08)
      (field16 b 0x0A) (field16 b 0x0C) (field16 b 0x0E)
  | 0x0501 => .zoomTo tag (field16 b 0x04)
  | 0x0502 => .zoomStop tag
  | 0x0601 => .setFocusMode tag (field8 b 0x04) (field8 b 0x05) (field8 b 0x06) (field32 b 0x08) (field16 b 0x0C)
  | 0x0602 => .setFocusWindows tag (windowArg b 0) (windowArg b 1) (windowArg b 2) (windowArg b 3) (windowArg b 4)
  | 0x0603 => .startFocus tag
  | 0x0604 => .cancelFocus tag
  | 0x0605 => .moveFocus tag (field16 b 0x04)
  | 0x0701 => .setSteady tag (field8 b 0x04) (field8 b 0x05) (field8 b 0x06) (field8 b 0x07) (field16 b 0x08)
      (field16 b 0x0A)
  | 0x0702 => .recenterSteady tag
  | 0x0703 => .setViewSource tag (field8 b 0x04)
  | 0x0801 => .armCapture tag (field8 b 0x04) (field8 b 0x05)
  | 0x0802 => .stopCapture tag
  | 0x0803 => .releaseSlot tag (field8 b 0x04)
  | 0x0A01 => .configureFrame tag (field16 b 0x04) (field16 b 0x06) (field32 b 0x08) (field32 b 0x0C) (field32 b 0x10)
      (field32 b 0x14) (field8 b 0x18) (field8 b 0x19)
  | 0x0A02 => if field8 b 0x04 = 0 then .setModeStandby tag else .setModeView tag (field8 b 0x04)
  | 0x0A03 => .loadTable tag (field8 b 0x04) (field32 b 0x08)
  | 0x0A04 => .softReset tag
  | _ => .unknownCommand (field16 b 0x00) tag

/-- The command record's code and tag. -/
def recordHead (code tag : BitVec 16) : List Machine.Field := [⟨0x00, 2, code.toNat⟩, ⟨0x02, 2, tag.toNat⟩]

/-- The fields of window `i` of SET FOCUS WINDOWS. -/
def windowFields (i : Nat) (w : WindowArg) : List Machine.Field :=
  let o := 0x04 + 10 * i
  [⟨o, 2, w.x.toNat⟩, ⟨o + 2, 2, w.y.toNat⟩, ⟨o + 4, 2, w.width.toNat⟩, ⟨o + 6, 2, w.height.toNat⟩,
   ⟨o + 8, 1, w.enable.toNat⟩]

/-- The fields of the command record of a host command, and `none` for a command that no record holds
(section 12.2). -/
def commandFields : Instr → Option (List Machine.Field)
  | .unknownCommand code tag => some (recordHead code tag)
  | .setStatistics tag sat cor on off dark line =>
    some (recordHead Machine.codeSetStatistics tag ++
      [⟨0x04, 2, sat.toNat⟩, ⟨0x06, 2, cor.toNat⟩, ⟨0x08, 1, on.toNat⟩, ⟨0x09, 1, off.toNat⟩, ⟨0x0A, 2, dark.toNat⟩,
       ⟨0x0C, 4, line.toNat⟩])
  | .setMetering tag target hLim dead gain step pattern =>
    some (recordHead Machine.codeSetMetering tag ++
      [⟨0x04, 2, target.toNat⟩, ⟨0x06, 2, hLim.toNat⟩, ⟨0x08, 1, dead.toNat⟩, ⟨0x09, 1, gain.toNat⟩,
       ⟨0x0A, 1, step.toNat⟩, ⟨0x0B, 1, pattern.toNat⟩])
  | .setExposureMode tag mode => some (recordHead Machine.codeSetExposureMode tag ++ [⟨0x04, 1, mode.toNat⟩])
  | .setCompensation tag c => some (recordHead Machine.codeSetCompensation tag ++ [⟨0x04, 2, c.toNat⟩])
  | .setManualExposure tag shutter gain iris =>
    some (recordHead Machine.codeSetManualExposure tag ++
      [⟨0x04, 4, shutter.toNat⟩, ⟨0x08, 2, gain.toNat⟩, ⟨0x0A, 1, iris.toNat⟩])
  | .homeLens tag => some (recordHead Machine.codeHomeLens tag)
  | .parkLens tag => some (recordHead Machine.codeParkLens tag)
  | .setLensDrive tag arb pz pf pi tz tf ti st =>
    some (recordHead Machine.codeSetLensDrive tag ++
      [⟨0x04, 1, arb.toNat⟩, ⟨0x05, 1, pz.toNat⟩, ⟨0x06, 1, pf.toNat⟩, ⟨0x07, 1, pi.toNat⟩, ⟨0x08, 2, tz.toNat⟩,
       ⟨0x0A, 2, tf.toNat⟩, ⟨0x0C, 2, ti.toNat⟩, ⟨0x0E, 2, st.toNat⟩])
  | .zoomTo tag zoom => some (recordHead Machine.codeZoomTo tag ++ [⟨0x04, 2, zoom.toNat⟩])
  | .zoomStop tag => some (recordHead Machine.codeZoomStop tag)
  | .setFocusMode tag mode drop mdrop floor fallback =>
    some (recordHead Machine.codeSetFocusMode tag ++
      [⟨0x04, 1, mode.toNat⟩, ⟨0x05, 1, drop.toNat⟩, ⟨0x06, 1, mdrop.toNat⟩, ⟨0x08, 4, floor.toNat⟩,
       ⟨0x0C, 2, fallback.toNat⟩])
  | .setFocusWindows tag w0 w1 w2 w3 w4 =>
    some (recordHead Machine.codeSetFocusWindows tag ++ windowFields 0 w0 ++ windowFields 1 w1 ++ windowFields 2 w2 ++
      windowFields 3 w3 ++ windowFields 4 w4)
  | .startFocus tag => some (recordHead Machine.codeStartFocus tag)
  | .cancelFocus tag => some (recordHead Machine.codeCancelFocus tag)
  | .moveFocus tag focus => some (recordHead Machine.codeMoveFocus tag ++ [⟨0x04, 2, focus.toNat⟩])
  | .setSteady tag en range leak q mx my =>
    some (recordHead Machine.codeSetSteady tag ++
      [⟨0x04, 1, en.toNat⟩, ⟨0x05, 1, range.toNat⟩, ⟨0x06, 1, leak.toNat⟩, ⟨0x07, 1, q.toNat⟩, ⟨0x08, 2, mx.toNat⟩,
       ⟨0x0A, 2, my.toNat⟩])
  | .recenterSteady tag => some (recordHead Machine.codeRecenterSteady tag)
  | .setViewSource tag source => some (recordHead Machine.codeSetViewSource tag ++ [⟨0x04, 1, source.toNat⟩])
  | .armCapture tag pre burst =>
    some (recordHead Machine.codeArmCapture tag ++ [⟨0x04, 1, pre.toNat⟩, ⟨0x05, 1, burst.toNat⟩])
  | .stopCapture tag => some (recordHead Machine.codeStopCapture tag)
  | .releaseSlot tag slot => some (recordHead Machine.codeReleaseSlot tag ++ [⟨0x04, 1, slot.toNat⟩])
  | .configureFrame tag w h cap view pool stride count latency =>
    some (recordHead Machine.codeConfigureFrame tag ++
      [⟨0x04, 2, w.toNat⟩, ⟨0x06, 2, h.toNat⟩, ⟨0x08, 4, cap.toNat⟩, ⟨0x0C, 4, view.toNat⟩, ⟨0x10, 4, pool.toNat⟩,
       ⟨0x14, 4, stride.toNat⟩, ⟨0x18, 1, count.toNat⟩, ⟨0x19, 1, latency.toNat⟩])
  | .setModeView tag mode => some (recordHead Machine.codeSetMode tag ++ [⟨0x04, 1, mode.toNat⟩])
  | .setModeStandby tag => some (recordHead Machine.codeSetMode tag ++ [⟨0x04, 1, 0⟩])
  | .loadTable tag kind address =>
    some (recordHead Machine.codeLoadTable tag ++ [⟨0x04, 1, kind.toNat⟩, ⟨0x08, 4, address.toNat⟩])
  | .softReset tag => some (recordHead Machine.codeSoftReset tag)
  | .powerOnReset _ | .hostRequest _ | .captureApertureWrite _ | .captureApertureRead | .viewApertureRead | .viewWrite
  | .plainRequest | .commandTail | .triggerToggle | .reportHead | .attentionMask | .downstreamGrant
  | .downstreamReadResponse _ _ _ | .viewStale | .slotImageWrite | .statusBlockWrite | .reportWrite | .commandFetch
  | .memoryError | .tableFetchReturn _ _ _ | .softResetComplete | .statisticsCompletionWork | .exposureCompletionWork
  | .takeReference | .dropReference | .focusCompletionWork | .focusFrameLimit | .exposureAlarm | .sceneChanged
  | .focusMoveEnd | .zoomStarted | .zoomStopped | .focusStepLoss | .lensFault | .steadyCompletionWork
  | .captureCompletion | .captureTrigger | .captureSlotAnswer | .holdRequest | .unholdRequest | .keepRequest
  | .releaseRequest | .pinRequest | .unpinRequest | .targetRequest _ | .stopRequest _ | .lensSegmentDone _ _ _ _
  | .noHome _ _ _ | .faultAnswer _ | .segmentTimeout _ | .trackingAnswer | .zoomPositionHandover | .zoomStart | .zoomEnd
  | .zoomMoveEnd | .zoomStepLoss | .lensStateChange | .setFromPosition | .setFraction => none

/-- The 64 bytes of the command record of a host command, zeros in its spare bytes (section 12.2, R171). -/
def encodeRecord (i : Instr) : Option (List Byte) :=
  (commandFields i).map (fun fs => (List.range 64).map (Machine.recordByte fs))

end Sys2Proof
end

