-- ==== Sys2Proof/Machine/Operands.lean ====
section
/-!
DEFINITION. What the blocks read of one another: the placement of the control region, the frame geometry, the lens
values in force, the standing exposure set, and the counts taken from the slot table.
-/
namespace Sys2Proof.Machine

/-- The control region's base for a strap value (R149). -/
def regionBase (strap : BitVec 3) : Nat := strap.toNat * 0x20000000 + 0x1FF00000

/-- The frame size in bytes (R7). -/
def frameSize (s : State) : Nat := s.command.config.width * s.command.config.height * 2

/-- The base of slot `i` (R1). -/
def slotBase (s : State) (i : Nat) : Nat := s.command.config.poolBase + i * s.command.config.stride

/-- The slot table entry `i`. -/
def slotAt (s : State) (i : Nat) : Slot := getAt Slot.reset s.slots.table i

/-- The number of slot table entries in a state. -/
def countSlots (s : State) (st : SlotState) : Nat := (s.slots.table.filter (fun e => e.state == st)).length

/-- The number of KEPT and HELD slots (R135). -/
def fencedSlots (s : State) : Nat := countSlots s .kept + countSlots s .held

/-- The slot whose record frame is `n`, if a record takes fields for frame `n` (R16): for frame number 0 a FREE slot
does not count.  Of two slots that carry one number, once the count has wrapped, it is the lowest-numbered one (DESIGN
CHOICE, log entry 69). -/
def recordSlot (s : State) (n : BitVec 32) : Option Nat :=
  findIndex (fun e => e.recordFrame == n && (n != 0 || e.state != .free)) s.slots.table 0

/-- The motor's record. -/
def LensDrive.motor (l : LensDrive) : Motor → MotorRecord
  | .zoom => l.zoom
  | .focus => l.focus
  | .iris => l.iris

/-- The Lens Drive with a motor's record replaced. -/
def LensDrive.setMotor (l : LensDrive) (m : Motor) (r : MotorRecord) : LensDrive :=
  match m with
  | .zoom => { l with zoom := r }
  | .focus => { l with focus := r }
  | .iris => { l with iris := r }

/-- The lens is READY. -/
def lensReady (s : State) : Bool := s.lens.mode == .ready

/-- The positions are known: the lens is READY or PARKING (R66). -/
def lensKnown (s : State) : Bool := s.lens.mode == .ready || s.lens.mode == .parking

/-- The largest zoom position of a cam table (R84). -/
def zMax (cam : List CamNode) : Nat :=
  match cam.getLast? with
  | some n => n.zoom
  | none => 0

/-- The lens values of the derived values. -/
def Derived.lensValues (d : Derived) : LensValues :=
  { focal := d.focal, alOpen := d.alOpen, stops := d.stops, stepAl := d.stepAl }

/-- The lens values the Exposure Controller reads (R43, R53, R57): the Zoom Controller's when the lens is READY, the held
values otherwise, and also with the lens READY while no cam table is committed, when the derived values are absent: the spec
gives the initial and the standing set no AL_open then (DESIGN CHOICE, log entry 74). -/
def lensValues (s : State) : LensValues :=
  match lensReady s, s.zoom.derived with
  | true, some d => d.lensValues
  | _, _ => s.exposure.held

/-- The initial set with an open aperture level and a time level (R43, R44).  Its source is PROGRAM (DESIGN CHOICE, log
entry 49). -/
def initialSetAt (tl alOpen : Nat) : ExposureSet :=
  { tl := tl, gl := 0, al := alOpen, xl := (tl : Int) - alOpen, shutter := antilog tl, gainCode := gainCodeOf 0,
    irisStop := 0, quantised := .off, flickerExposed := false, lightHigh := false, lightLow := false, lensHeld := false,
    source := .program, tag := none }

/-- The initial set (R43): TL 512 at the open aperture in force (R45; without derived values: log entry 74). -/
def initialSet (s : State) : ExposureSet := initialSetAt 512 (lensValues s).alOpen

/-- The standing set (R40, R44): the newest entry of the history, or the initial set clamped to the time limits, which the
Status Block shows in STANDBY too (without derived values: DESIGN CHOICE, log entry 74). -/
def standingSet (p : ProgramTable) (s : State) : ExposureSet :=
  match s.exposure.history.getLast? with
  | some e => e
  | none => initialSetAt (clampNat p.tlMin p.tlMax 512) (lensValues s).alOpen

/-- The crop offset of an accumulator (R118): 1/16 quads rounded half away from zero. -/
def roundOffset (o16 : Int) : Int :=
  if o16 < 0 then -(((o16.natAbs + 8) / 16 : Nat) : Int) else (((o16.natAbs + 8) / 16 : Nat) : Int)

/-- The focus position when it is known (R66). -/
def knownFocus (s : State) : Option Nat := if lensKnown s then some s.lens.focus.position else none

/-- The used count of the report ring (R163). -/
def usedCount (r : ReportUnit) : Nat := (r.writeCount - r.headCopy).toNat

/-- The class of a report (R163). -/
def Report.cls : Report → ReportClass
  | .commandDone .. => .completion
  | .exposureSet .. => .exposure
  | .frameSummary .. => .frame
  | .focusState .. => .focus
  | .lensEvent .. => .lens
  | .captureEvent .. => .capture
  | .pathFault .. => .fault
  | .eventsLost => .fault

/-- The report waits in a general place of the pending queue (R165). -/
def Report.general : Report → Bool
  | .frameSummary .. | .focusState .. | .lensEvent .. | .captureEvent .. => true
  | _ => false

/-- The report is a completion (R165). -/
def Report.isCompletion : Report → Bool
  | .commandDone .. => true
  | _ => false

/-- The completions that wait in the pending queue (R152). -/
def waitingCompletions (r : ReportUnit) : Nat := (r.waiting.filter Report.isCompletion).length

end Sys2Proof.Machine
end

