-- ==== Sys2Proof/Machine/Flags.lean ====
section
/-!
DEFINITION. The flags the part derives from its state: high water (R164), the attention line (R168) and buffer high
(R135).
-/
namespace Sys2Proof.Machine

/-- The high-water flag agrees with the used count (R164). -/
def evalHighWater (r : ReportUnit) : ReportUnit :=
  { r with highWater := decide (Config.highWaterLevel ≤ usedCount r) }

/-- A class is enabled in the mask copy (R168, R172). -/
def classEnabled (mask : BitVec 8) (c : ReportClass) : Bool := mask.getLsbD (classCode c)

/-- The attention line is asserted exactly when an unconsumed, forwarded entry has an enabled class (R168). -/
def evalAttention (r : ReportUnit) : ReportUnit :=
  { r with attention := r.entries.any (fun e => e.forwarded && classEnabled r.mask e.cls) }

/-- The buffer-high flag after an evaluation with `c` KEPT and HELD slots of `n` (R135); DEDUCED, log entry 28, for `n`
below 4. -/
def nextBufferHigh (n c : Nat) (flag : Bool) : Bool :=
  if flag then !(decide (c ≤ (n - 3) / 2) && decide (c < n - 4)) else decide (n - 4 ≤ c)

end Sys2Proof.Machine
end

