-- ==== Sys2Proof/Machine/Records.lean ====
section
/-!
DEFINITION. The byte layouts of the records the part writes (R171, sections 12.3 to 12.5): the slot record image, the
report records and the Status Block.
-/
namespace Sys2Proof.Machine

/-- set_flags (section 12.4). -/
def setFlags (e : ExposureSet) : Nat :=
  marks [e.flickerExposed, e.lightHigh, e.lightLow, e.lensHeld] + 16 * periodCode e.quantised + 64 * sourceCode e.source

/-- The 16 bytes of an exposure set at `off` (section 12.4, offsets 0x20 to 0x2F). -/
def setFields (off : Nat) (e : ExposureSet) : List Field :=
  [⟨off, 2, e.tl⟩, ⟨off + 2, 2, e.gl⟩, ⟨off + 4, 2, e.al⟩, ⟨off + 6, 2, signedVal 2 e.xl⟩, ⟨off + 8, 4, e.shutter⟩,
   ⟨off + 12, 2, e.gainCode⟩, ⟨off + 14, 1, e.irisStop⟩, ⟨off + 15, 1, setFlags e⟩]

/-- A lens sample at `off` (section 12.4). -/
def sampleFields (off : Nat) (l : LensSample) : List Field :=
  [⟨off, 2, l.zoom⟩, ⟨off + 2, 2, l.focus⟩, ⟨off + 4, 1, l.irisStop⟩, ⟨off + 5, 1, l.known.toNat⟩]

/-- The fields of slot `i`'s record image (section 12.4). -/
def imageFields (i : Nat) (e : Slot) : List Field :=
  let r := e.record
  [⟨0x00, 1, i⟩, ⟨0x01, 1, slotStateCode e.state⟩, ⟨0x02, 1, e.pins⟩, ⟨0x03, 1, outcomeCode r.outcome⟩,
   ⟨0x04, 4, if e.state == .free then 0 else r.frame.toNat⟩, ⟨0x08, 4, e.lastFrame.toNat⟩, ⟨0x0C, 4, r.bytesStored⟩,
   ⟨0x10, 1, marks [r.torn, r.issueFrame.isNone, r.metering.isSome, r.statistics.valid, r.statistics.uniformFallback,
                    r.steady.isSome, r.capture.isSome, r.focusSettled]⟩,
   ⟨0x11, 1, marks [r.moving.zoom, r.moving.focus, r.moving.iris]⟩]
  ++ sampleFields 0x14 r.startSample ++ sampleFields 0x1A r.endSample ++ setFields 0x20 r.applied ++
  [⟨0x30, 4, (r.issueFrame.getD 0).toNat⟩,
   ⟨0x34, 2, (r.metering.map (·.y)).getD 0⟩, ⟨0x36, 2, signedVal 2 ((r.metering.map (·.eMeas)).getD 0)⟩,
   ⟨0x38, 1, (r.metering.map (skipCode ·.skip)).getD 0⟩,
   ⟨0x3A, 2, r.statistics.y⟩, ⟨0x3C, 2, r.statistics.h⟩,
   ⟨0x3E, 1, r.statistics.det100.level⟩, ⟨0x3F, 1, r.statistics.det120.level⟩,
   ⟨0x40, 1, marks [r.statistics.det100.evaluated, r.statistics.det100.on, r.statistics.det120.evaluated,
                    r.statistics.det120.on]⟩,
   ⟨0x44, 4, r.statistics.focusFigure⟩,
   ⟨0x48, 2, getAt 0 r.statistics.windowMeans 0⟩, ⟨0x4A, 2, getAt 0 r.statistics.windowMeans 1⟩,
   ⟨0x4C, 2, getAt 0 r.statistics.windowMeans 2⟩, ⟨0x4E, 2, getAt 0 r.statistics.windowMeans 3⟩,
   ⟨0x50, 2, getAt 0 r.statistics.windowMeans 4⟩,
   ⟨0x54, 2, signedVal 2 ((r.steady.map (·.dx)).getD 0)⟩, ⟨0x56, 2, signedVal 2 ((r.steady.map (·.dy)).getD 0)⟩,
   ⟨0x58, 1, (r.steady.map (·.quality)).getD 0⟩, ⟨0x59, 1, (r.steady.map (holdCode ·.hold)).getD 0⟩,
   ⟨0x5A, 2, signedVal 2 ((r.steady.map (·.ox)).getD 0)⟩, ⟨0x5C, 2, signedVal 2 ((r.steady.map (·.oy)).getD 0)⟩,
   ⟨0x60, 2, (r.capture.map (·.id)).getD 0⟩, ⟨0x62, 2, signedVal 2 ((r.capture.map (·.index)).getD 0)⟩]

/-- The fields of a record position at or above the slot count: state NONE (R17, R18). -/
def emptyImageFields (i : Nat) : List Field := [⟨0x00, 1, i⟩]

/-- The 8 words of slot position `i`'s image as the table stands (R17). -/
def imageWords (s : State) (i : Nat) : List LinkWord :=
  match s.slots.table[i]? with
  | some e => recordWords 8 (imageFields i e)
  | none => recordWords 8 (emptyImageFields i)

/-- A slot or source field: 0xFF means none or LIVE (R171). -/
def slotField (x : Option Nat) : Nat := x.getD 0xFF

/-- The payload and kind code of a report (section 12.3). -/
def reportPayload (lost : LostCounters) : Report → Nat × List Field
  | .commandDone code tag ring status value =>
    (1, [⟨0x04, 2, code.toNat⟩, ⟨0x06, 2, tag.toNat⟩, ⟨0x08, 2, ring.toNat⟩, ⟨0x0A, 1, statusCode status⟩,
         ⟨0x0C, 4, signedVal 4 value⟩])
  | .exposureSet r merge =>
    (2, [⟨0x04, 4, (r.set.tag.getD 0).toNat⟩, ⟨0x08, 4, r.set.shutter⟩, ⟨0x0C, 2, r.set.tl⟩, ⟨0x0E, 2, r.set.gl⟩,
         ⟨0x10, 2, r.set.al⟩, ⟨0x12, 2, signedVal 2 r.set.xl⟩, ⟨0x14, 2, r.set.gainCode⟩,
         ⟨0x16, 2, signedVal 2 ((r.meter.map (·.1)).getD 0)⟩, ⟨0x18, 2, signedVal 2 ((r.meter.map (·.2)).getD 0)⟩,
         ⟨0x1A, 1, signedVal 1 r.step⟩, ⟨0x1B, 1, r.set.irisStop⟩, ⟨0x1C, 1, setFlags r.set⟩,
         ⟨0x1D, 1, marks [r.settled, r.changed, r.meter.isSome]⟩, ⟨0x1E, 1, skipCode r.skip⟩, ⟨0x1F, 1, merge⟩])
  | .frameSummary frame slot outcome torn =>
    (3, [⟨0x04, 4, frame.toNat⟩, ⟨0x08, 1, slot⟩, ⟨0x09, 1, outcomeCode outcome⟩, ⟨0x0A, 1, torn.toNat⟩])
  | .focusState r =>
    (4, [⟨0x04, 1, searchCode r.state⟩, ⟨0x05, 1, searchCode r.before⟩, ⟨0x06, 1, focusCauseCode r.cause⟩,
         ⟨0x07, 1, focusReasonCode r.reason⟩, ⟨0x08, 2, r.position.getD 0⟩, ⟨0x0A, 2, r.peakOrStep⟩,
         ⟨0x0C, 2, (r.best.map (·.position)).getD 0⟩, ⟨0x0E, 1, r.framesUsed⟩, ⟨0x0F, 1, r.sweep⟩,
         ⟨0x10, 4, (r.best.map (·.figure)).getD 0⟩, ⟨0x14, 4, r.lockFigure⟩, ⟨0x18, 4, r.frame.toNat⟩,
         ⟨0x1C, 1, marks [r.position.isSome, r.best.isSome]⟩])
  | .lensEvent r =>
    (5, [⟨0x04, 1, lensEventCode r.event⟩, ⟨0x05, 1, (r.motor.map motorCode).getD 0⟩,
         ⟨0x06, 1, (r.cause.map lensCauseCode).getD 0⟩, ⟨0x07, 1, (r.before.map lensModeCode).getD 0⟩,
         ⟨0x08, 1, lensModeCode r.after⟩, ⟨0x0A, 2, signedVal 2 r.difference⟩, ⟨0x0C, 2, r.zoom⟩, ⟨0x0E, 2, r.focus⟩,
         ⟨0x10, 2, r.iris⟩])
  | .captureEvent r =>
    (6, [⟨0x04, 1, captureEventCode r.event⟩, ⟨0x05, 1, captureModeCode r.mode⟩, ⟨0x06, 2, r.id⟩,
         ⟨0x08, 1, r.acknowledge.toNat⟩, ⟨0x09, 1, slotField r.slot⟩, ⟨0x0A, 2, signedVal 2 r.index⟩,
         ⟨0x0C, 4, r.frame.toNat⟩, ⟨0x10, 1, r.detail⟩, ⟨0x11, 1, r.torn.toNat⟩, ⟨0x12, 2, r.countA⟩,
         ⟨0x14, 2, r.skipCount⟩, ⟨0x16, 1, r.keptSlots⟩, ⟨0x17, 1, r.heldSlots⟩])
  | .pathFault cause count addr => (7, [⟨0x04, 1, faultCode cause⟩, ⟨0x06, 2, count⟩, ⟨0x08, 4, addr⟩])
  | .eventsLost =>
    (8, [⟨0x04, 2, lost.frame⟩, ⟨0x06, 2, lost.focus⟩, ⟨0x08, 2, lost.lens⟩, ⟨0x0A, 2, lost.capture⟩])

/-- The 2 words of a report placed at ring count `count` (section 12.3). -/
def reportWords (lost : LostCounters) (count : BitVec 16) (r : Report) : List LinkWord :=
  let p := reportPayload lost r
  recordWords 2 ([⟨0x00, 1, p.1⟩, ⟨0x01, 1, classCode r.cls⟩, ⟨0x02, 2, count.toNat⟩] ++ p.2)

/-- The fields of the Status Block (section 12.5), from the values the blocks hold.  While the history is empty the newest set
shown is the initial set clamped to the table in force, without a tag (R60, R169; DESIGN CHOICE, log entry 57).  SETTLED and
the LIGHT marks are shown as they stand, also between issues; the meter, skip and mode fields as the last issue gave them
(DESIGN CHOICE, log entry 31).  skip_reason is shown whether meter_present is set or clear: it is not taken as one of that
mark's optional fields (DESIGN CHOICE, log entry 78). -/
def statusFields (s : State) : List Field :=
  let e := standingSet s.exposure.program s
  [⟨0x00, 1, opModeCode s.command.mode⟩, ⟨0x01, 1, s.command.valid.toNat⟩, ⟨0x02, 2, s.command.head.toNat⟩,
   ⟨0x04, 2, s.report.writeCount.toNat⟩, ⟨0x06, 2, s.report.headCopy.toNat⟩,
   ⟨0x08, 1, marks [s.report.highWater, s.report.attention]⟩,
   ⟨0x0A, 2, s.report.lost.frame⟩, ⟨0x0C, 2, s.report.lost.focus⟩, ⟨0x0E, 2, s.report.lost.lens⟩,
   ⟨0x10, 2, s.report.lost.capture⟩]
  ++ setFields 0x20 e ++
  [⟨0x30, 4, (e.tag.getD 0).toNat⟩, ⟨0x34, 2, s.exposure.shown.y⟩, ⟨0x36, 2, signedVal 2 s.exposure.shown.eMeas⟩,
   ⟨0x38, 1, skipCode s.exposure.shown.skip⟩, ⟨0x39, 1, exposureModeCode s.exposure.shown.mode⟩,
   ⟨0x3A, 1, marks [s.exposure.settled, s.exposure.lightHigh, s.exposure.lightLow, s.exposure.shown.present,
                    e.tag.isSome]⟩,
   ⟨0x40, 1, lensModeCode s.lens.mode⟩, ⟨0x42, 2, s.lens.zoom.position⟩, ⟨0x44, 2, s.lens.focus.position⟩,
   ⟨0x46, 2, s.lens.iris.position⟩, ⟨0x50, 2, s.zoom.target.getD 0xFFFF⟩, ⟨0x52, 1, s.zoom.moving.toNat⟩,
   ⟨0x54, 2, s.zoom.u⟩, ⟨0x56, 2, (s.zoom.derived.map (·.focal)).getD 0⟩,
   ⟨0x60, 1, searchCode s.focus.search⟩, ⟨0x61, 1, focusModeCode s.focus.mode⟩, ⟨0x62, 1, s.focus.best.isSome.toNat⟩,
   ⟨0x64, 4, s.focus.lockFigure⟩, ⟨0x68, 4, (s.focus.best.map (·.figure)).getD 0⟩,
   ⟨0x6C, 2, (s.focus.best.map (·.position)).getD 0⟩, ⟨0x70, 4, (s.focus.best.map (·.frame.toNat)).getD 0⟩,
   ⟨0x80, 1, s.steady.enable.toNat⟩, ⟨0x81, 1, marks [s.steady.axisX.panning, s.steady.axisY.panning]⟩,
   ⟨0x82, 2, signedVal 2 (roundOffset s.steady.axisX.o16)⟩, ⟨0x84, 2, signedVal 2 (roundOffset s.steady.axisY.o16)⟩,
   ⟨0x86, 1, slotField s.steady.source⟩, ⟨0x87, 1, passCode s.steady.pass.status⟩,
   ⟨0x88, 1, slotField s.steady.pass.pinned⟩,
   ⟨0xA0, 1, captureModeCode s.capture.mode⟩, ⟨0xA1, 1, s.capture.acknowledge.toNat⟩, ⟨0xA2, 2, s.capture.id⟩,
   ⟨0xA4, 1, s.capture.effectiveP⟩, ⟨0xA5, 1, s.capture.burst⟩, ⟨0xA6, 1, s.capture.heldList.length⟩,
   ⟨0xA7, 1, s.capture.bufferHigh.toNat⟩, ⟨0xA8, 2, s.capture.keptCount⟩, ⟨0xAA, 2, s.capture.skipCount⟩]

/-- The 16 words of the Status Block as the blocks' values stand (R169). -/
def statusWords (s : State) : List LinkWord := recordWords 16 (statusFields s)

end Sys2Proof.Machine
end

