-- ==== Sys2Proof/Machine/Ops.lean ====
section
/-!
DEFINITION. The operations every family shares: giving a report to the Report Unit, raising a path fault, the writes of
the slot record image and the Status Block that a change causes, and taking and completing a host command.
-/
namespace Sys2Proof.Machine

/-! ## Reports given to the Report Unit (R165 to R167) -/

/-- A lost report of class `c`: its counter rises, and EVENTS LOST takes its place in the waiting order unless the lost
mark is already set (R167; DEDUCED, log entry 34). -/
def loseReport (c : ReportClass) (r : ReportUnit) : ReportUnit :=
  let l := r.lost
  let l' : LostCounters :=
    match c with
    | .frame => { l with frame := satAdd 65535 l.frame 1 }
    | .focus => { l with focus := satAdd 65535 l.focus 1 }
    | .lens => { l with lens := satAdd 65535 l.lens 1 }
    | .capture => { l with capture := satAdd 65535 l.capture 1 }
    | _ => l
  { r with lost := l', lostMark := true,
           waiting := if r.lostMark then r.waiting else r.waiting ++ [.eventsLost] }

/-- A FOCUS STATE, LENS EVENT or CAPTURE EVENT report, or a FRAME SUMMARY while high water is clear, takes a general
place, or is lost when all are full (R165). -/
def giveGeneral (rep : Report) (r : ReportUnit) : ReportUnit :=
  if (r.waiting.filter Report.general).length < Config.generalPlaces then { r with waiting := r.waiting ++ [rep] }
  else loseReport rep.cls r

/-- A FRAME SUMMARY: dropped while the high-water flag is set (R166). -/
def giveSummary (rep : Report) (r : ReportUnit) : ReportUnit :=
  if r.highWater then loseReport .frame r else giveGeneral rep r

/-- A completion takes a reserved place (R165). -/
def giveCompletion (rep : Report) (r : ReportUnit) : ReportUnit := { r with waiting := r.waiting ++ [rep] }

/-- The waiting order with the EXPOSURE SET slot taken or merged (R165). -/
def mergeExposure (rep : ExposureReport) : List Report → List Report
  | [] => [.exposureSet rep 0]
  | .exposureSet _ m :: l => .exposureSet rep (satAdd 255 m 1) :: l
  | r :: l => r :: mergeExposure rep l

/-- The waiting order with the slot of a path-fault cause taken or counted on (R165). -/
def mergeFault (cause : FaultCause) (addr : Nat) : List Report → List Report
  | [] => [.pathFault cause 1 addr]
  | .pathFault c n a :: l =>
    if c = cause then .pathFault c (satAdd 65535 n 1) a :: l else .pathFault c n a :: mergeFault cause addr l
  | r :: l => r :: mergeFault cause addr l

/-- The state with `f` applied to the Report Unit. -/
def State.onReport (s : State) (f : ReportUnit → ReportUnit) : State := { s with report := f s.report }

/-- A path fault with the host address of the request piece that caused it (R165). -/
def raiseFault (cause : FaultCause) (addr : Nat) (s : State) : State :=
  s.onReport (fun r => { r with waiting := mergeFault cause addr r.waiting })

/-- A FOCUS STATE, LENS EVENT or CAPTURE EVENT report is given (R165). -/
def giveReport (rep : Report) (s : State) : State := s.onReport (giveGeneral rep)

/-! ## What a change of state causes -/

/-- The slots whose table entry differs, in rising slot number (R17). -/
def changedSlots : List Slot → List Slot → Nat → List Nat
  | a :: l, b :: m, i => if a = b then changedSlots l m (i + 1) else i :: changedSlots l m (i + 1)
  | _, _, _ => []

/-- The image writes that wait, with the changed slots that do not wait yet behind them (R17). -/
def addWaiting (waiting changed : List Nat) : List Nat := waiting ++ changed.filter (fun i => !waiting.contains i)

/-- The Command Unit's own reads enter the own-traffic queue while it has places, no image write waits before them (R147),
and the first Status Block write after a power-on reset has entered (R149). -/
def enterReads (s : State) : State :=
  if s.slots.imageWaiting.isEmpty && !s.report.statusFirst then
    let room := Config.ownPlaces - s.link.ownQueue.length
    { s with link := { s.link with ownQueue := s.link.ownQueue ++ s.command.waitingReads.take room },
             command := { s.command with waitingReads := s.command.waitingReads.drop room } }
  else s

/-- An image write waits for every slot whose entry differs between `before` and `after`, behind those that wait (R17). -/
def noteImages (before after : State) : State :=
  { after with slots := { after.slots with
      imageWaiting := addWaiting after.slots.imageWaiting (changedSlots before.slots.table after.slots.table 0) } }

/-- A Status Block write waits when a value it shows differs between `before` and `after` (R169). -/
def noteStatus (before after : State) : State :=
  { after with report := { after.report with
      statusWaiting := after.report.statusWaiting || (statusFields before != statusFields after) } }

/-- What a step that turned `before` into `after` causes besides: an image write waits for every slot whose entry
changed (R17), a Status Block write waits when a value it shows changed (R169), and own reads enter the queue (R147).
A step that changes slots, or a value of the Status Block, one change after the other notes each where it is made, with
`noteImages` and `noteStatus`.  DEDUCED, log entry 13. -/
def settle (before after : State) : State := enterReads (noteStatus before (noteImages before after))

/-- The outcome of a step that turned `before` into `after`. -/
def finish (before after : State) : Host.Outcome State Fault Refusal := .next (settle before after)

/-- A step whose event needs something that is not there does not take place: nothing changes (DESIGN CHOICE, log
entry 3). -/
def notDue (s : State) : Host.Outcome State Fault Refusal := .next s

/-- The outcome of a step that takes place only when `after` is some state. -/
def finishIf (before : State) (after : Option State) : Host.Outcome State Fault Refusal :=
  match after with
  | some s => finish before s
  | none => notDue before

/-! ## Host commands (R152, R153) -/

/-- The own read of the command record is in flight. -/
def fetchInFlight (s : State) : Bool := s.link.ownReads.any (fun o => o.purpose == .commandFetch)

/-- The command fetch has returned: its own tag is freed and the record's command is in hand, in EXECUTING (R152).
Nothing is taken when no command fetch is in flight (DEDUCED, log entry 4). -/
def takeRecord (code tag : BitVec 16) (s : State) : Option State :=
  if s.command.cycle = .fetching ∧ fetchInFlight s = true then
    some { s with link := { s.link with ownReads := s.link.ownReads.filter (fun o => o.purpose != .commandFetch) },
                  command := { s.command with cycle := .executing, inHand := some { code := code, tag := tag } } }
  else none

/-- The completion of the command in hand: the Report Unit takes it in its reserved place, the head rises by 1 and the
cycle returns to IDLE (R152, R153). -/
def complete (status : Status) (value : Int) (s : State) : State :=
  let h := s.command.inHand.getD { code := 0, tag := 0xFFFF }
  { s with report := giveCompletion (.commandDone h.code h.tag s.command.head status value) s.report,
           command := { s.command with head := s.command.head + 1, cycle := .idle, inHand := none } }

/-- Completion with DONE. -/
def completeDone (s : State) : State := complete .done 0 s

/-- A host command: the returned record is taken, and its work runs on the state with the command in hand. -/
def runCommand (code tag : BitVec 16) (work : State → State) (s : State) : Host.Outcome State Fault Refusal :=
  finishIf s ((takeRecord code tag s).map work)

/-- The rejected command changes nothing but its completion. -/
def refuse (status : Status) (s : State) : State := complete status 0 s

/-! ## The frame record (R16) -/

/-- The slot table with `f` applied to entry `i`. -/
def State.onSlot (s : State) (i : Nat) (f : Slot → Slot) : State :=
  { s with slots := { s.slots with table := updAt f s.slots.table i } }

/-- Fields supplied for frame `n`: written into the record of the slot whose record frame equals `n`, and discarded when
there is none (R16). -/
def supplyFields (n : BitVec 32) (f : FrameRecord → FrameRecord) (s : State) : State :=
  match recordSlot s n with
  | some i => s.onSlot i (fun e => { e with record := f e.record })
  | none => s

end Sys2Proof.Machine
end

