-- ==== Sys2Proof/Machine/Capture.lean ====
section
/-!
DEFINITION. The Capture Unit (chapter 8): arming, the trigger, the burst, the Slot Manager's answers, buffer high, and
ARM CAPTURE, STOP CAPTURE and RELEASE SLOT.

The unit has at most one slot request outstanding.  `CaptureUnit.work` says what the answer to it continues.
-/
namespace Sys2Proof.Machine

/-- The state with `f` applied to the Capture Unit. -/
def State.onCapture (s : State) (f : CaptureUnit → CaptureUnit) : State := { s with capture := f s.capture }

/-- What a CAPTURE EVENT carries beside the state (R139, section 12.3); absent fields as in log entry 23 (DEDUCED). -/
structure CaptureNote where
  event : CaptureEventKind
  slot : Option Nat := none
  index : Int := 0
  frame : BitVec 32 := 0
  detail : Nat := 0
  torn : Bool := false
  countA : Nat := 0
  skipCount : Nat := 0
  keptSlots : Nat := 0
  heldSlots : Nat := 0
  deriving DecidableEq, Repr

/-- A CAPTURE EVENT is given (R139). -/
def captureEvent (n : CaptureNote) (s : State) : State :=
  giveReport (.captureEvent { event := n.event, mode := s.capture.mode, id := s.capture.id,
                              acknowledge := s.capture.acknowledge, slot := n.slot, index := n.index, frame := n.frame,
                              detail := n.detail, torn := n.torn, countA := n.countA, skipCount := n.skipCount,
                              keptSlots := n.keptSlots, heldSlots := n.heldSlots }) s

/-- The buffer-high flag is evaluated, and a change is reported (R135). -/
def evalBufferHigh (s : State) : State :=
  let flag := nextBufferHigh s.command.config.slotCount (fencedSlots s) s.capture.bufferHigh
  if flag = s.capture.bufferHigh then s
  else captureEvent { event := if flag then .bufferHigh else .bufferLow, keptSlots := countSlots s .kept,
                      heldSlots := countSlots s .held } (s.onCapture (fun c => { c with bufferHigh := flag }))

/-- A request to the Slot Manager is sent, and the work its answer continues is noted (R129). -/
def askSlots (k : SlotRequestKind) (e : HeldEntry) (id : Nat) (index : Int) (w : CaptureWork) (s : State) : State :=
  { s with slots := { s.slots with captureRequest := some { kind := k, slot := e.slot, frame := e.frame, captureId := id,
                                                             index := index } },
           capture := { s.capture with work := some w } }

/-- The number of slots a capture may fence off (R130, R133). -/
def keepLimit (s : State) : Nat := s.command.config.slotCount - 3

/-! ## Arming (R130) -/

/-- The candidate frames, oldest first: the slots other than 0 that are FILLED (R130). -/
def insertByAge (seq : BitVec 32) (x : HeldEntry) : List HeldEntry → List HeldEntry
  | [] => [x]
  | y :: l => if behind seq y.frame < behind seq x.frame then x :: y :: l else y :: insertByAge seq x l

/-- The candidates of ARM CAPTURE, oldest first (R130). -/
def candidates (s : State) : List HeldEntry :=
  (indexed (fun e => e.state == .filled) (s.slots.table.drop 1) 1).foldl
    (fun acc x => insertByAge s.slots.seq { slot := x.1, frame := x.2.recordFrame } acc) []

/-- The last answer of ARM CAPTURE has been taken: the unit is ARMED and the command completes (R130). -/
def armed (clamped : Bool) (burst : Nat) (s : State) : State :=
  let s := s.onCapture (fun c => { c with mode := .armed, nextIndex := 1, keptCount := 0, skipCount := 0, burst := burst,
                                          work := none })
  if clamped then complete .clamped s.capture.effectiveP s else completeDone s

/-- The next hold of ARM CAPTURE, or its end. -/
def armNext (clamped : Bool) (burst : Nat) (l : List HeldEntry) (s : State) : State :=
  match l with
  | e :: rest => askSlots .hold e 0 0 (.arming e rest clamped burst) s
  | [] => armed clamped burst s

/-- The message is a toggle, not a completion announcement. -/
def CaptureMessage.isToggle : CaptureMessage → Bool
  | .toggle _ => true
  | .completion _ => false

/-- The announcements that wait when ARM CAPTURE is taken, of frames that completed before it, do nothing (R131): they leave
the list in the step in which the command is taken, and the toggles among them stay (DESIGN CHOICE, log entry 55). -/
def passAnnouncements (c : CaptureUnit) : CaptureUnit := { c with messages := c.messages.filter CaptureMessage.isToggle }

/-- ARM CAPTURE (R130, R131). -/
def startArm (pre burst : Nat) (s : State) : State :=
  if s.command.mode ≠ .view then refuse .notReady s
  else if s.capture.mode ≠ .idle then refuse .conflict s
  else if 8 < pre ∨ 64 < burst then refuse .badParameter s
  else
    let p := min pre (keepLimit s - countSlots s .kept)
    let all := candidates s
    armNext (decide (p < pre)) burst (all.drop (all.length - p))
      (s.onCapture (fun c => { passAnnouncements c with effectiveP := p }))

/-! ## Ending a capture (R134, R136, R138) -/

/-- The capture state becomes IDLE with an ENDED event (R134). -/
def endCapture (why : EndCause) (s : State) : State :=
  let s := s.onCapture (fun c => { c with mode := .idle, work := none })
  captureEvent { event := .ended, detail := endCauseCode why, countA := s.capture.keptCount,
                 skipCount := s.capture.skipCount } s

/-- The end cause of a stop. -/
def StopReason.cause : StopReason → EndCause
  | .stopCommand => .stopped
  | .modeStandby => .standby

/-- The next unhold of a stopped ARMED capture, or its end: the list is emptied, the unit is IDLE, and the command that
stopped it completes (R136, R138). -/
def stopNext (why : StopReason) (l : List HeldEntry) (s : State) : State :=
  match l with
  | e :: rest => askSlots .unhold e 0 0 (.stopping rest why) s
  | [] => completeDone (endCapture why.cause (s.onCapture (fun c => { c with heldList := [] })))

/-- STOP CAPTURE, and SET MODE STANDBY in this unit (R136, R138). -/
def startStop (why : StopReason) (s : State) : State :=
  match s.capture.mode with
  | .idle => completeDone s
  | .armed => stopNext why s.capture.heldList s
  | .running => completeDone (endCapture why.cause s)

/-! ## RELEASE SLOT (R137) -/

/-- RELEASE SLOT (R137). -/
def startRelease (n : Nat) (s : State) : State :=
  if s.command.valid && decide (n < s.command.config.slotCount) then
    let e := slotAt s n
    if e.state = .kept then askSlots .release { slot := n, frame := e.recordFrame } 0 0 .releasing s
    else refuse .badParameter s
  else refuse .badParameter s

/-- The unit's part of a command begins. -/
def startCommand (c : CaptureCommand) (s : State) : State :=
  match c with
  | .arm pre burst => startArm pre burst s
  | .stop => startStop .stopCommand s
  | .release n => startRelease n s
  | .standby => startStop .modeStandby s

/-- A command is taken: at once when no work is in hand, before the triggers and announcements that wait (DESIGN CHOICE, log
entry 55), and otherwise when that work ends (R129). -/
def takeCommand (c : CaptureCommand) (s : State) : State :=
  match s.capture.work with
  | none => startCommand c s
  | some _ => s.onCapture (fun u => { u with command := some c })

/-- A piece of work has ended: a waiting command begins (R129), before the triggers and announcements that wait, whenever
they came (DESIGN CHOICE, log entry 55); ARM CAPTURE passes over the announcements (R131, `passAnnouncements`). -/
def endWork (s : State) : State :=
  let s := s.onCapture (fun c => { c with work := none })
  match s.capture.command with
  | some c => startCommand c (s.onCapture (fun u => { u with command := none }))
  | none => s

/-! ## Completions (R131, R133) -/

/-- A hold of the completed frame is sent (R131). -/
def askHold (e : HeldEntry) (s : State) : State := askSlots .hold e 0 0 (.holdFrame e) s

/-- A completion taken in ARMED (R131). -/
def armedCompletion (a : Announcement) (s : State) : State :=
  let e : HeldEntry := { slot := a.slot, frame := a.frame }
  if s.capture.effectiveP = 0 ∨ a.outcome = .spilled then s
  else if s.capture.heldList.length < s.capture.effectiveP then askHold e s
  else
    match s.capture.heldList with
    | oldest :: _ => askSlots .unhold oldest 0 0 (.makeRoom e) s
    | [] => s

/-- A completion that is not kept (R133); the event carries no torn flag (DEDUCED, log entry 26). -/
def skipFrame (e : HeldEntry) (why : KeepSkip) (s : State) : State :=
  captureEvent { event := .skipped, slot := some e.slot, frame := e.frame, detail := keepSkipCode why }
    (s.onCapture (fun c => { c with skipCount := satAdd 65535 c.skipCount 1 }))

/-- A completion taken in RUNNING (R133). -/
def runningCompletion (a : Announcement) (s : State) : State :=
  let e : HeldEntry := { slot := a.slot, frame := a.frame }
  if a.outcome = .spilled then skipFrame e .spilled s
  else if keepLimit s ≤ fencedSlots s then skipFrame e .full s
  else askSlots .keep e s.capture.id s.capture.nextIndex (.keepFrame e a.torn) s

/-- The unit takes a completion announcement (R131, R133).  One of a frame that completed before the ARM CAPTURE in force was
taken is not among those that wait (`passAnnouncements`). -/
def captureCompletion (a : Announcement) (s : State) : State :=
  match s.capture.mode with
  | .idle => s
  | .armed => armedCompletion a s
  | .running => runningCompletion a s

/-- No work is in hand, so the unit may take its next message (R129). -/
def captureFree (s : State) : Bool := s.capture.work.isNone && s.capture.command.isNone

/-- The oldest message leaves its queue. -/
def popCapture (s : State) : State := s.onCapture (fun c => { c with messages := c.messages.tail })

/-- CAPTURE_COMPLETION (R131, R133): the oldest message is a completion announcement. -/
def execCaptureCompletion (s : State) : Host.Outcome State Fault Refusal :=
  match captureFree s, s.capture.messages with
  | true, .completion a :: _ => finish s (captureCompletion a (popCapture s))
  | _, _ => notDue s

/-! ## The trigger (R132) -/

/-- The capture runs: the held list is empty and TRIGGERED is reported with `k` pre-capture frames (R132). -/
def runBurst (k : Nat) (s : State) : State :=
  captureEvent { event := .triggered, countA := k } (s.onCapture (fun c => { c with heldList := [], mode := .running }))

/-- The next keep of the held list, `index` being its capture index, or the end of the trigger's work (R132). -/
def keepNext (l : List HeldEntry) (index : Int) (k : Nat) (s : State) : State :=
  match l with
  | e :: rest => askSlots .keep e s.capture.id index (.keepHeld e rest index k) s
  | [] => endWork (runBurst k s)

/-- A trigger taken in ARMED (R132): the capture id counts on from 65535 to 1. -/
def armedTrigger (s : State) : State :=
  let l := s.capture.heldList
  keepNext l (-(l.length : Int)) l.length (s.onCapture (fun c => { c with id := c.id % 65535 + 1 }))

/-- A toggle that differed from the acknowledge when it was handed on is taken (R132).  One that has been acknowledged since
is a rewrite of the value taken before it, and no trigger (section 8.3; DESIGN CHOICE for a third flip, log entry 70). -/
def captureToggle (v : Bool) (s : State) : State :=
  if v = s.capture.acknowledge then s
  else
    let s := s.onCapture (fun c => { c with acknowledge := v })
    match s.capture.mode with
    | .armed => armedTrigger s
    | m => captureEvent { event := .triggerIgnored, detail := captureModeCode m } s

/-- CAPTURE_TRIGGER (R132): the oldest message is a toggle. -/
def execCaptureTrigger (s : State) : Host.Outcome State Fault Refusal :=
  match captureFree s, s.capture.messages with
  | true, .toggle v :: _ => finish s (captureToggle v (popCapture s))
  | _, _ => notDue s

/-! ## The Slot Manager's answers (R129) -/

/-- KEPT is reported (R139). -/
def keptEvent (e : HeldEntry) (index : Int) (torn : Bool) (s : State) : State :=
  captureEvent { event := .kept, slot := some e.slot, index := index, frame := e.frame, torn := torn } s

/-- A burst frame has been kept (R133, R134): the index and the count rise, KEPT is reported, buffer high is evaluated,
and the capture may end. -/
def burstKept (e : HeldEntry) (torn : Bool) (s : State) : State :=
  let used := s.capture.nextIndex
  let s := s.onCapture (fun c => { c with nextIndex := c.nextIndex + 1, keptCount := c.keptCount + 1 })
  let s := evalBufferHigh (keptEvent e used torn s)
  if 1 ≤ s.capture.burst ∧ s.capture.keptCount = s.capture.burst then endCapture .burstDone s
  else if used = 32767 then endCapture .indexLimit s
  else s

/-- The held list with an entry appended. -/
def appendHeld (e : HeldEntry) (s : State) : State := s.onCapture (fun c => { c with heldList := c.heldList ++ [e] })

/-- The torn flag the record of a held slot shows (R139). -/
def heldTorn (s : State) (e : HeldEntry) : Bool := (slotAt s e.slot).record.torn

/-- The work goes on after answer `a` (R129 to R138).  The events of an answer come before the completion that follows it,
and buffer high is evaluated before the capture state changes with a last answer, so that its event carries the state
before: IDLE at the last hold of ARM CAPTURE (DESIGN CHOICE, log entry 20). -/
def continueWork (w : CaptureWork) (a : SlotAnswer) (s : State) : State :=
  match w, a with
  | .arming e rest c b, .done => armNext c b rest (evalBufferHigh (appendHeld e s))
  | .arming _ rest c b, _ => armNext c b rest s
  | .makeRoom e, .done => askHold e (evalBufferHigh (s.onCapture (fun c => { c with heldList := c.heldList.tail })))
  | .makeRoom e, _ => askHold e (s.onCapture (fun c => { c with heldList := c.heldList.tail }))
  | .holdFrame e, .done => endWork (evalBufferHigh (appendHeld e s))
  | .holdFrame _, _ => endWork s
  | .keepHeld e rest i k, .done => keepNext rest (i + 1) k (evalBufferHigh (keptEvent e i (heldTorn s e) s))
  | .keepHeld _ rest i k, _ => keepNext rest (i + 1) k s
  | .keepFrame e t, .done => endWork (burstKept e t s)
  | .keepFrame e _, _ => endWork (skipFrame e .gone s)
  | .stopping rest why, .done => stopNext why rest (evalBufferHigh s)
  | .stopping rest why, _ => stopNext why rest s
  | .releasing, .done => endWork (completeDone (evalBufferHigh s))
  | .releasing, .pinned => endWork (refuse .conflict s)
  | .releasing, .gone => endWork (refuse .badParameter s)

/-- The Slot Manager's answer is taken with the work it belongs to. -/
def takeAnswer (s : State) : Option State :=
  match s.slots.captureAnswer, s.capture.work with
  | some a, some w => some (continueWork w a { s with slots := { s.slots with captureAnswer := none } })
  | _, _ => none

/-- CAPTURE_SLOT_ANSWER (R129). -/
def execCaptureSlotAnswer (s : State) : Host.Outcome State Fault Refusal := finishIf s (takeAnswer s)

/-! ## Commands -/

/-- ARM_CAPTURE (R130). -/
def execArmCapture (tag : BitVec 16) (preDepth burstLength : BitVec 8) (s : State) : Host.Outcome State Fault Refusal :=
  runCommand codeArmCapture tag (takeCommand (.arm preDepth.toNat burstLength.toNat)) s

/-- STOP_CAPTURE (R136). -/
def execStopCapture (tag : BitVec 16) (s : State) : Host.Outcome State Fault Refusal :=
  runCommand codeStopCapture tag (takeCommand .stop) s

/-- RELEASE_SLOT (R137). -/
def execReleaseSlot (tag : BitVec 16) (slot : BitVec 8) (s : State) : Host.Outcome State Fault Refusal :=
  runCommand codeReleaseSlot tag (takeCommand (.release slot.toNat)) s

/-! ## SOFT RESET (R140) -/

/-- SOFT RESET of the unit (R140).  The work in hand, a trigger's or a completion's too, ends without its remaining parts;
toggles and announcements not taken yet stay and find the unit IDLE (DEDUCED, log entry 18). -/
def softResetCapture (c : CaptureUnit) : CaptureUnit :=
  { c with mode := .idle, heldList := [], effectiveP := 0, burst := 0, keptCount := 0, skipCount := 0, nextIndex := 1,
           work := none, command := none }

end Sys2Proof.Machine
end

