-- ==== Sys2Proof/Machine/Cam.lean ====
section
/-!
DEFINITION. The cam table and the values derived from it (R84 to R86), and the subject fraction of a focus position
(R90).
-/
namespace Sys2Proof.Machine

/-- A field between two nodes: `v + trunc((v' - v) * dz / span)` (R85). -/
def interpolate (v v' dz span : Nat) : Nat := ((v : Int) + Int.tdiv (((v' : Int) - v) * dz) span).toNat

/-- The largest stop count not above `c` whose last stop stays at an aperture level of 320 or less, at least 1 (R85). -/
def limitStops (alOpen stepAl : Nat) : Nat → Nat
  | 0 => 1
  | c + 1 => if c = 0 ∨ alOpen + c * stepAl ≤ 320 then c + 1 else limitStops alOpen stepAl c

/-- The derived values at zoom `z` between node `a` and the node `b` after it (R85). -/
def derivedBetween (a b : CamNode) (z : Nat) : Derived :=
  let dz := z - a.zoom
  let span := b.zoom - a.zoom
  let al := interpolate a.alOpen b.alOpen dz span
  let st := interpolate a.stepAl b.stepAl dz span
  let pInf := interpolate a.pInf b.pInf dz span
  let pNear := interpolate a.pNear b.pNear dz span
  { focal := interpolate a.focal b.focal dz span, alOpen := al, stops := limitStops al st a.stops, stepAl := st,
    pInf := pInf, pNear := if pNear ≤ pInf then pInf + 1 else pNear,
    coarse := interpolate a.coarse b.coarse dz span }

/-- The derived values at a node (R85). -/
def derivedAtNode (a : CamNode) : Derived := derivedBetween a a a.zoom

/-- The derived values for zoom `z`: from the last node at or below `z` and the node after it; the last node's at or
above z_max; absent for an empty table (R85, R86). -/
def derive (z : Nat) : List CamNode → Option Derived
  | [] => none
  | [a] => some (derivedAtNode a)
  | a :: b :: l => if z < b.zoom then some (derivedBetween a b z) else derive z (b :: l)

/-- The Zoom Controller with its derived values formed for zoom position `z` (R86). -/
def ZoomController.reform (c : ZoomController) (z : Nat) : ZoomController := { c with derived := derive z c.cam }

/-- The subject fraction of focus position `p` (R90). -/
def fractionOf (d : Derived) (p : Nat) : Nat :=
  (clampInt 0 1024 (((p : Int) - d.pInf) * 1024 / ((d.pNear : Int) - d.pInf))).toNat

/-- The focus position at fraction `v` of the range (R92, R105). -/
def positionAt (d : Derived) (v : Nat) : Nat := d.pInf + v * (d.pNear - d.pInf) / 1024

/-- A cam table image's nodes pass the tests of R84. -/
def camNodeLegal (n : CamNode) : Bool :=
  n.zoom ≤ 1023 && 1 ≤ n.focal && n.focal ≤ 65535 && 64 ≤ n.alOpen && n.alOpen ≤ 320 && 1 ≤ n.stops && n.stops ≤ 6 &&
  8 ≤ n.stepAl && n.stepAl ≤ 64 && n.pInf ≤ 2046 && n.pInf + 1 ≤ n.pNear && n.pNear ≤ 2047 && 8 ≤ n.coarse &&
  n.coarse ≤ 128

/-- The zoom positions strictly increase (R84). -/
def zoomsIncrease : List CamNode → Bool
  | a :: b :: l => a.zoom < b.zoom && zoomsIncrease (b :: l)
  | _ => true

/-- The first node is at zoom position 0 (R84). -/
def startsAtZero : List CamNode → Bool
  | a :: _ => a.zoom == 0
  | [] => false

/-- The whole test of a cam table (R84). -/
def camLegal (l : List CamNode) : Bool :=
  2 ≤ l.length && l.length ≤ 24 && startsAtZero l && zoomsIncrease l && l.all camNodeLegal

end Sys2Proof.Machine
end

