-- ==== Sys2Proof/Machine/Statistics.lean ====
section
/-!
DEFINITION. The Statistics Engine (chapter 2): measuring a frame, the completion work, the flicker detectors, and
SET STATISTICS.
-/
namespace Sys2Proof.Machine

/-- Quads across a frame of a latch. -/
def StatLatch.wq (l : StatLatch) : Nat := l.width / 2
/-- Quads down a frame of a latch. -/
def StatLatch.hq (l : StatLatch) : Nat := l.height / 2

/-! ## Frame start (R22) -/

/-- The automatic centre of a frame of `wq` by `hq` quads (R96). -/
def centreRect (wq hq : Nat) : Rect := { x := 3 * wq / 8, y := 3 * hq / 8, width := wq / 4, height := hq / 4 }

/-- The rectangle lies wholly inside a frame of `wq` by `hq` quads. -/
def Rect.inside (r : Rect) (wq hq : Nat) : Bool := r.x + r.width ≤ wq && r.y + r.height ≤ hq

/-- A window as latched: resolved, and disabled when it is smaller than 16 by 16 quads or not inside the frame (R22). -/
def latchWindow (wq hq : Nat) (w : FocusWindow) : LatchedWindow :=
  let r := w.rect.getD (centreRect wq hq)
  { rect := r, enabled := w.enabled && 16 ≤ r.width && 16 ≤ r.height && r.inside wq hq }

/-- The uniform pattern of 192 weights of 1 (R22). -/
def uniformWeights : List Nat := List.replicate 192 1

/-- The inputs as they stand at a frame start (R22). -/
def statLatchOf (s : State) : StatLatch :=
  let wq := s.command.config.width / 2
  let hq := s.command.config.height / 2
  { params := s.stats.params, weights := s.stats.patterns[s.exposure.params.pattern]?.getD uniformWeights,
    windows := s.focus.windows.map (latchWindow wq hq), windowSet := s.focus.windowSet, mx := s.steady.mx, my := s.steady.my,
    width := s.command.config.width, height := s.command.config.height }

/-- Clear accumulators for a latch (R21, R22). -/
def clearAccumulators (l : StatLatch) : Accumulators :=
  { line := List.replicate l.wq { sum := 0, mark := false }, previous := 0, zoneSum := List.replicate 192 0,
    zoneClip := List.replicate 192 0, rowSum := List.replicate l.hq 0, winContrast := [0, 0, 0, 0, 0],
    winLuma := [0, 0, 0, 0, 0], colProfile := List.replicate (l.wq - 2 * l.mx) 0,
    rowProfile := List.replicate (l.hq - 2 * l.my) 0 }

/-- The engine at the start of frame `n` with its latched inputs; a line time different from the one latched before
resets both detectors (R22, R38). -/
def startMeasuring (n : BitVec 32) (l : StatLatch) (e : StatEngine) : StatEngine :=
  let e := { e with measuring := some { frame := n, torn := false, latch := l, acc := clearAccumulators l } }
  if l.params.lineTime = e.lineTimeLatched then e
  else { e with det100 := .reset, det120 := .reset, lineTimeLatched := l.params.lineTime }

/-! ## Measuring (R23 to R28) -/

/-- The quad lies in the rectangle. -/
def Rect.holds (r : Rect) (x y : Nat) : Bool := r.x ≤ x && x < r.x + r.width && r.y ≤ y && y < r.y + r.height

/-- A window's contrast sum after the quad (x, y) of luma `q` (R27). -/
def addContrast (l : StatLatch) (previous x y q : Nat) (w : LatchedWindow) (c : Nat) : Nat :=
  if w.enabled && w.rect.holds x y && w.rect.x < x then
    satAdd (2 ^ 40 - 1) c (natDist q previous - l.params.coring)
  else c

/-- A window's luma sum after the quad (x, y) of luma `q` (R27). -/
def addLuma (x y q : Nat) (w : LatchedWindow) (c : Nat) : Nat := if w.enabled && w.rect.holds x y then c + q else c

/-- The complete quad (x, y) goes to the zone, row, window and profile accumulation (R24 to R28). -/
def addQuad (l : StatLatch) (x y q : Nat) (clipped : Bool) (a : Accumulators) : Accumulators :=
  let z := y / (l.hq / 12) * 16 + x / (l.wq / 16)
  let region := l.mx ≤ x && x < l.wq - l.mx && l.my ≤ y && y < l.hq - l.my
  { a with
    previous := q,
    zoneSum := updAt (· + q) a.zoneSum z,
    zoneClip := if clipped then updAt (· + 1) a.zoneClip z else a.zoneClip,
    rowSum := updAt (· + q) a.rowSum y,
    winContrast := List.zipWith (addContrast l a.previous x y q) l.windows a.winContrast,
    winLuma := List.zipWith (addLuma x y q) l.windows a.winLuma,
    colProfile := if region then updAt (· + q) a.colProfile (x - l.mx) else a.colProfile,
    rowProfile := if region then updAt (· + q) a.rowProfile (y - l.my) else a.rowProfile }

/-- Two adjacent samples at pixel `p` of the raster: an even row's pair goes into the line buffer, an odd row's pair
completes a quad (R23). -/
def addPair (l : StatLatch) (p s0 s1 : Nat) (a : Accumulators) : Accumulators :=
  let c0 := min 4095 s0
  let c1 := min 4095 s1
  let sat := l.params.saturation ≤ c0 || l.params.saturation ≤ c1
  let row := p / l.width
  let x := p % l.width / 2
  if row % 2 = 0 then { a with line := setAt a.line x { sum := c0 + c1, mark := sat } }
  else
    let b := getAt { sum := 0, mark := false } a.line x
    addQuad l x (row / 2) (b.sum + c0 + c1) (b.mark || sat) a

/-- The eight samples of the link word at aperture offset `off` (R23). -/
def addWord (l : StatLatch) (off : Nat) (w : LinkWord) (a : Accumulators) : Accumulators :=
  (List.range 4).foldl
    (fun a j => addPair l (off / 2 + 2 * j) (w.extractLsb' (32 * j) 16).toNat (w.extractLsb' (32 * j + 16) 16).toNat a) a

/-- The words of a stored write, in order, from aperture offset `off`. -/
def addWords (l : StatLatch) : Nat → List LinkWord → Accumulators → Accumulators
  | _, [], a => a
  | off, w :: ws, a => addWords l (off + 16) ws (addWord l off w a)

/-- The engine takes the data of a stored write, unless its torn mark is set (R23). -/
def measure (off : Nat) (ws : List LinkWord) (e : StatEngine) : StatEngine :=
  match e.measuring with
  | some m => if m.torn then e else { e with measuring := some { m with acc := addWords m.latch off ws m.acc } }
  | none => e

/-- The Slot Manager has set the torn flag (R23). -/
def tearMeasurement (e : StatEngine) : StatEngine :=
  { e with measuring := e.measuring.map (fun m => { m with torn := true }) }

/-- The frame in measurement is abandoned (R37). -/
def abandonMeasurement (e : StatEngine) : StatEngine := { e with measuring := none }

/-- The completion announcement moves the frame in measurement into the completion buffer (R29). -/
def bufferMeasurement (e : StatEngine) : StatEngine := { e with measuring := none, buffer := e.measuring }

/-! ## The statistics record (R25 to R30) -/

/-- Weights whose sum is 0 are taken as 1 (R25). -/
def weightsInUse (l : StatLatch) : List Nat := if total l.weights = 0 then uniformWeights else l.weights

/-- The quads of a zone (R24). -/
def zoneQuads (l : StatLatch) : Nat := l.wq / 16 * (l.hq / 12)

/-- The weighted mean Y (R25). -/
def weightedMean (l : StatLatch) (a : Accumulators) : Nat :=
  let w := weightsInUse l
  total (List.zipWith (fun w sz => w * (sz / zoneQuads l)) w a.zoneSum) / total w

/-- The weighted clip fraction h (R25). -/
def weightedClip (l : StatLatch) (a : Accumulators) : Nat :=
  let w := weightsInUse l
  256 * total (List.zipWith (· * ·) w a.zoneClip) / total (w.map (· * zoneQuads l))

/-- The row-mean series (R26). -/
def rowMeans (l : StatLatch) (a : Accumulators) : List Nat := a.rowSum.map (· / l.wq)

/-- The values of a latched window from its two sums (R27). -/
def windowValue (w : LatchedWindow) (contrast luma : Nat) : WindowValue :=
  if w.enabled then
    let m := luma / (w.rect.width * w.rect.height)
    { enabled := true, contrast := contrast, mean := m, figure := min (2 ^ 32 - 1) (contrast * 4096 / (m + 64)) }
  else { enabled := false, contrast := 0, mean := 0, figure := 0 }

/-- The five windows' values (R27). -/
def windowValues (l : StatLatch) (a : Accumulators) : List WindowValue :=
  List.zipWith (fun w c => windowValue w c.1 c.2) l.windows (List.zip a.winContrast a.winLuma)

/-- The focus figure F (R27). -/
def focusFigure (ws : List WindowValue) : Nat := ws.foldl (fun f w => satAdd (2 ^ 32 - 1) f w.figure) 0

/-- The projection profiles (R28). -/
def profilesOf (l : StatLatch) (a : Accumulators) : Profiles :=
  { cols := a.colProfile.map (· / (l.hq - 2 * l.my)), rows := a.rowProfile.map (· / (l.wq - 2 * l.mx)),
    mx := l.mx, my := l.my, width := l.width, height := l.height }

/-! ## Flicker (R32 to R36) -/

/-- A light period in nanoseconds (R32). -/
def periodNs : Period → Nat
  | .us10000 => 10000000
  | .us8333 => 8333333
  | .off => 0

/-- A period in microseconds (R36). -/
def periodUs : Period → Nat
  | .us10000 => 10000
  | .us8333 => 8333
  | .off => 0

/-- The newest issued set, or the set applied to frame `n`, is quantised to the period (R35).  The newest issued set is the
newest entry of the history: none while the history is empty, also after it was emptied (DESIGN CHOICE, log entry 47). -/
def suppressed (s : State) (n : BitVec 32) (p : Period) : Bool :=
  let newest := s.exposure.history.getLast?.map (·.quantised)
  let applied := (s.exposure.latches.find? (fun l => l.frame == n)).map (·.applied.quantised)
  newest == some p || applied == some p

/-- The level of an evaluation over the difference series `d` with period `p` rows (R33). -/
def flickerLevel (d : List Int) (p : Nat) : Nat :=
  let terms := d.length - p
  let b := total (List.zipWith (fun x y => (x - y).natAbs) (d.take terms) (d.drop p))
  let a := total (List.zipWith (fun x y => (x - y).natAbs) (d.take terms) (d.drop (p / 2)))
  if b < a then 256 * (a - b) / (a + 1) else 0

/-- The hysteresis of R34 at level `lv`. -/
def advanceDetector (ps : StatParams) (lv : Nat) (d : Detector) : Detector :=
  if d.on then
    if lv ≤ ps.offThreshold then
      if d.run + 1 = 6 then { on := false, run := 0, level := lv } else { on := true, run := d.run + 1, level := lv }
    else { on := true, run := 0, level := lv }
  else if ps.onThreshold ≤ lv then
    if d.run + 1 = 3 then { on := true, run := 0, level := lv } else { on := false, run := d.run + 1, level := lv }
  else { on := false, run := 0, level := lv }

/-- The detector of a period is evaluated at this completion (R32); the result says whether it was (R30). -/
def runDetector (s : State) (m : Measurement) (p : Period) (d : Detector) : Detector × Bool :=
  let l := m.latch
  let rows := periodNs p / l.params.lineTime
  match s.stats.rowReference with
  | some ref =>
    if l.params.lineTime ≠ 0 ∧ 8 ≤ rows ∧ 2 * rows ≤ l.hq ∧ m.torn = false ∧ ref.length = l.hq ∧
        suppressed s m.frame p = false then
      let series := List.zipWith (fun (a b : Nat) => (a : Int) - b) (rowMeans l m.acc) ref
      (advanceDetector l.params (flickerLevel series rows) d, true)
    else (d, false)
  | none => (d, false)

/-- The active flicker period (R36). -/
def activePeriod (d100 d120 : Detector) : Period :=
  match d100.on, d120.on with
  | false, false => .off
  | true, false => .us10000
  | false, true => .us8333
  | true, true => if d100.level < d120.level then .us8333 else .us10000

/-- The result of a detector in the record (R30). -/
def detectorResult (d : Detector × Bool) : DetectorResult := { level := d.1.level, evaluated := d.2, on := d.1.on }

/-! ## Completion work (R29) -/

/-- The profile reference handed on: none when its margins or geometry differ from the frame's (R31). -/
def referenceFor (l : StatLatch) (p : Option Profiles) : Option Profiles :=
  match p with
  | some p => if p.mx = l.mx ∧ p.my = l.my ∧ p.width = l.width ∧ p.height = l.height then some p else none
  | none => none

/-- The statistics record of the frame in the completion buffer with the detectors' results (R25 to R30).  A torn
frame's measured values take their reset values; its current profiles are empty, with the latched margins and geometry
(DESIGN CHOICE, log entry 48). -/
def statRecordOf (s : State) (m : Measurement) (d100 d120 : Detector × Bool) : StatRecord :=
  let l := m.latch
  let ws := windowValues l m.acc
  { frame := m.frame, torn := m.torn, valid := !m.torn,
    y := if m.torn then 0 else weightedMean l m.acc,
    h := if m.torn then 0 else weightedClip l m.acc,
    uniformFallback := !m.torn && total l.weights == 0,
    det100 := detectorResult d100, det120 := detectorResult d120, activePeriod := activePeriod d100.1 d120.1,
    windows := if m.torn then l.windows.map (fun w => { enabled := w.enabled, contrast := 0, mean := 0, figure := 0 })
               else ws,
    focusFigure := if m.torn then 0 else focusFigure ws,
    windowSet := l.windowSet, darkFloor := l.params.darkFloor,
    current := if m.torn then { cols := [], rows := [], mx := l.mx, my := l.my, width := l.width, height := l.height }
               else profilesOf l m.acc,
    reference := referenceFor l s.stats.profileReference }

/-- The statistics fields of the frame record (R30). -/
def recordStatisticsOf (r : StatRecord) : RecordStatistics :=
  { valid := r.valid, uniformFallback := r.uniformFallback, y := r.y, h := r.h, det100 := r.det100, det120 := r.det120,
    focusFigure := r.focusFigure, windowMeans := r.windows.map (·.mean) }

/-- The controller's outstanding work for the record's frame now holds the record (R29). -/
def attachRecord (r : StatRecord) (w : List WorkItem) : List WorkItem :=
  w.map (fun i => if i.notice.frame = r.frame then { i with stats := some r } else i)

/-- Step 3 of R29: the record goes to the frame record and to the three controllers. -/
def handRecord (r : StatRecord) (s : State) : State :=
  let s := supplyFields r.frame (fun f => { f with statistics := recordStatisticsOf r }) s
  { s with exposure := { s.exposure with work := attachRecord r s.exposure.work },
           focus := { s.focus with work := attachRecord r s.focus.work },
           steady := { s.steady with work := attachRecord r s.steady.work } }

/-- Step 4 of R29: the references after the frame (R31). -/
def updateReferences (m : Measurement) (e : StatEngine) : StatEngine :=
  if m.torn then { e with rowReference := none }
  else { e with rowReference := some (rowMeans m.latch m.acc), profileReference := some (profilesOf m.latch m.acc) }

/-- The completion work of the frame in the completion buffer (R29).  Work of an earlier VIEW period's frame that is taken after
VIEW has been entered again does step 4 too, so the references become valid by R31, and the first frame of the new period is
compared with that frame, where R39 says that it is compared with nothing (DESIGN CHOICE, log entry 76). -/
def statisticsWork (m : Measurement) (s : State) : State :=
  let d100 := runDetector s m .us10000 s.stats.det100
  let d120 := runDetector s m .us8333 s.stats.det120
  let s' := handRecord (statRecordOf s m d100 d120) s
  { s' with stats := { updateReferences m { s'.stats with det100 := d100.1, det120 := d120.1 } with buffer := none } }

/-- STATISTICS_COMPLETION_WORK (R29): nothing is due while the completion buffer is empty. -/
def execStatisticsCompletionWork (s : State) : Host.Outcome State Fault Refusal :=
  finishIf s (s.stats.buffer.map (fun m => statisticsWork m s))

/-! ## Resets (R39) -/

/-- Both references are invalid. -/
def dropReferences (e : StatEngine) : StatEngine := { e with rowReference := none, profileReference := none }

/-- Both detectors are OFF with run count and level 0. -/
def resetDetectors (e : StatEngine) : StatEngine := { e with det100 := .reset, det120 := .reset }

/-- SOFT RESET of the engine (R39). -/
def softResetStatistics (e : StatEngine) : StatEngine := dropReferences { e with measuring := none, buffer := none }

/-! ## SET STATISTICS (R38) -/

/-- The values are in the ranges of R38. -/
def statParamsLegal (p : StatParams) : Bool :=
  1 ≤ p.saturation && p.saturation ≤ 4095 && p.coring ≤ 1023 && 1 ≤ p.onThreshold && p.onThreshold ≤ 255 &&
  p.offThreshold ≤ 254 && p.darkFloor ≤ 16380 && (p.lineTime == 0 || (1000 ≤ p.lineTime && p.lineTime ≤ 1000000)) &&
  p.offThreshold < p.onThreshold

/-- The work of SET STATISTICS (R38). -/
def setStatisticsWork (p : StatParams) (s : State) : State :=
  if statParamsLegal p then completeDone { s with stats := { s.stats with params := p } } else refuse .badParameter s

/-- SET_STATISTICS (R38). -/
def execSetStatistics (tag saturation coring : BitVec 16) (onThreshold offThreshold : BitVec 8) (darkFloor : BitVec 16)
    (lineTime : BitVec 32) (s : State) : Host.Outcome State Fault Refusal :=
  runCommand codeSetStatistics tag
    (setStatisticsWork { saturation := saturation.toNat, coring := coring.toNat, onThreshold := onThreshold.toNat,
                         offThreshold := offThreshold.toNat, darkFloor := darkFloor.toNat, lineTime := lineTime.toNat }) s

end Sys2Proof.Machine
end

