-- ==== Sys2Proof/Machine/Focus.lean ====
section
/-!
DEFINITION. The Focus Controller (chapter 6): the validity chain, the search, lock and monitor, the notices it takes,
and the focus commands.
-/
namespace Sys2Proof.Machine

/-- The state with `f` applied to the Focus Controller. -/
def State.onFocus (s : State) (f : FocusController → FocusController) : State := { s with focus := f s.focus }

/-- The states COARSE, FINE and PEAK (R95). -/
def SearchState.sweeping : SearchState → Bool
  | .coarse | .fine | .peak => true
  | _ => false

/-- LOCKED or MONITOR. -/
def SearchState.holding : SearchState → Bool
  | .locked | .monitor => true
  | _ => false

/-- A request of the Focus Controller to the Lens Drive. -/
def focusAsksLens (m : LensMessage) (s : State) : State :=
  { s with lens := { s.lens with fromFocus := s.lens.fromFocus ++ [m] } }

/-- A request of the Focus Controller to the Zoom Controller (R91). -/
def focusAsksZoom (m : FractionMessage) (s : State) : State :=
  { s with zoom := { s.zoom with fromFocus := s.zoom.fromFocus ++ [m] } }

/-- A request of the Focus Controller to the Exposure Controller (R51). -/
def focusAsksExposure (m : ReferenceMessage) (s : State) : State :=
  { s with exposure := { s.exposure with messages := s.exposure.messages ++ [m] } }

/-! ## Targets and reports (R99, R111) -/

/-- A focus position clamped to the range of the present zoom position (R99). -/
def clampFocus (s : State) (p : Int) : Nat :=
  match s.zoom.derived with
  | some d => (clampInt d.pInf d.pNear p).toNat
  | none => p.toNat

/-- A focus target is sent and the move mark set (R99). -/
def sendFocus (p : Nat) (purpose : RequestPurpose) (s : State) : State :=
  focusAsksLens (.target .focus p purpose) (s.onFocus (fun f => { f with moveMark := true }))

/-- The controller's own move is stopped if its move mark is set (R99, R106). -/
def stopOwnMove (s : State) : State :=
  if s.focus.moveMark then focusAsksLens (.stop .focus .plain) (s.onFocus (fun f => { f with moveMark := false })) else s

/-- What a FOCUS STATE report carries beside the state (R111). -/
structure FocusNote where
  cause : FocusCause
  reason : FocusReason := .noReason
  peakOrStep : Nat := 0
  frame : BitVec 32 := 0
  deriving DecidableEq, Repr

/-- The FOCUS STATE report of an event that left state `before`, with the best record it names (R111). -/
def focusReport (before : SearchState) (n : FocusNote) (best : Option BestRecord) (s : State) : Report :=
  .focusState { state := s.focus.search, before := before, cause := n.cause, reason := n.reason,
                position := knownFocus s, peakOrStep := n.peakOrStep, best := best, framesUsed := s.focus.framesUsed,
                sweep := s.focus.sweep, lockFigure := s.focus.lockFigure, frame := n.frame }

/-- A FOCUS STATE report is given. -/
def reportFocus (before : SearchState) (n : FocusNote) (s : State) : State :=
  giveReport (focusReport before n s.focus.best s) s

/-- The sample list, the best record and the fine plan are cleared, and the AE hold and the move mark with them, on
entering IDLE or FAILED (R95, R99, R107). -/
def FocusController.settleIn (f : FocusController) (st : SearchState) : FocusController :=
  { f with search := st, aeHold := false, samples := [], best := none, plan := [], moveMark := false }

/-! ## The search (R100 to R103) -/

/-- The steps of START FOCUS and of a restart (R100). -/
def startSearch (n : FocusNote) (s : State) : State :=
  let before := s.focus.search
  let s := s.onFocus (fun f =>
    { f with samples := [], best := none, plan := [], framesUsed := 0, farRun := 0, lastFailure := .noReason,
             forward := decide (s.zoom.u ≤ 512), coarseStep := (s.zoom.derived.map (·.coarse)).getD 0, sweep := 1,
             startPosition := s.lens.focus.position, lockFigure := 0, baselinePending := false, baselineSet := 0,
             zoomPause := false, dropRun := 0, aeHold := true, search := .coarse })
  reportFocus before n s

/-- A sweeping search ends FAILED with cause TIMEOUT or LOW_CONTRAST (R105).  Step 1's stop clears the move mark and step 2's
target sets it again, so the REACHED with which a PENDING own move answers the stop finds the fallback's mark and clears it
(`focusMoveEndWork`; DESIGN CHOICE, log entry 75). -/
def failSearch (n : FocusNote) (s : State) : State :=
  let before := s.focus.search
  let best := s.focus.best
  let s := stopOwnMove s
  let s := s.onFocus (fun f => f.settleIn .failed)
  let target := (s.zoom.derived.map (fun d => positionAt d s.focus.fallback)).getD 0
  let s := sendFocus (clampFocus s target) .plain s
  let s := focusAsksZoom (.fraction s.focus.fallback) s
  giveReport (focusReport before n best s) s

/-- A sweeping search is abandoned (R106); `stops` says whether its own move is stopped. -/
def abandonSearch (stops : Bool) (n : FocusNote) (s : State) : State :=
  let before := s.focus.search
  let s := if stops then stopOwnMove s else s
  reportFocus before n (s.onFocus (fun f => f.settleIn .idle))

/-- A sample is appended to the list, which keeps its newest 64, and the best record is updated (R95, R98). -/
def appendSample (p : FocusSample) (f : FocusController) : FocusController :=
  let best := match f.best with
    | none => some { position := p.position, figure := p.figure, frame := p.frame }
    | some b => if b.figure < p.figure then some { position := p.position, figure := p.figure, frame := p.frame } else some b
  { f with samples := (f.samples ++ [p]).drop ((f.samples.length + 1) - Config.sampleListPlaces), best := best }

/-- The direction d (R95). -/
def FocusController.direction (f : FocusController) : Int := if f.forward then 1 else -1

/-- A coarse sample lies beyond the best position and has fallen by `drop` (R101). -/
def pastPeak (f : FocusController) (b : BestRecord) (p : FocusSample) : Bool :=
  decide (0 < ((p.position : Int) - b.position) * f.direction) && decide (p.figure < b.figure * (256 - f.drop) / 256)

/-- The last two valid samples of the present sweep have passed the peak (R101, case 1). -/
def peakPassed (f : FocusController) : Bool :=
  match f.best, (f.samples.filter (fun p => p.sweep == f.sweep)).reverse with
  | some b, p :: q :: _ => pastPeak f b p && pastPeak f b q
  | _, _ => false

/-- The fine plan: each position once, in visiting order (R102). -/
def buildPlan (ps : List Nat) : List PlanEntry :=
  (ps.foldl (fun acc p => if acc.contains p then acc else acc ++ [p]) []).map (fun p => { position := p, figure := none })

/-- FINE is entered (R102). -/
def enterFine (n : FocusNote) (s : State) : State :=
  let before := s.focus.search
  let sf := max 1 (s.focus.coarseStep / 4)
  let pb : Int := (s.focus.best.map (·.position)).getD 0
  let plan := buildPlan ([pb - 2 * sf, pb - sf, pb, pb + sf, pb + 2 * sf].map (clampFocus s))
  let s := s.onFocus (fun f => { f with search := .fine, fineStep := sf, plan := plan })
  let s := match plan with
    | e :: _ => sendFocus e.position .plain s
    | [] => s
  reportFocus before { n with peakOrStep := sf } s

/-- The second sweep has ended (R101, case 4). -/
def sweepEnded (frame : BitVec 32) (s : State) : State :=
  match s.focus.best with
  | some b =>
    if s.focus.contrastFloor ≤ b.figure then enterFine { cause := .sweepEnd, frame := frame } s
    else failSearch { cause := .lowContrast, frame := frame } s
  | none => failSearch { cause := .lowContrast, frame := frame } s

/-- A valid sample in COARSE (R101). -/
def coarseSample (p : FocusSample) (s : State) : State :=
  let s := s.onFocus (appendSample p)
  if peakPassed s.focus then enterFine { cause := .peakPassed, frame := p.frame } s
  else
    let next := clampFocus s ((p.position : Int) + s.focus.direction * s.focus.coarseStep)
    if next ≠ p.position then sendFocus next .plain s
    else if s.focus.sweep = 1 then
      let s := s.onFocus (fun f => { f with sweep := 2, forward := !f.forward })
      let back := clampFocus s ((s.focus.startPosition : Int) + s.focus.direction * s.focus.coarseStep)
      if back = p.position then sweepEnded p.frame s else sendFocus back .plain s
    else sweepEnded p.frame s

/-- The plan position with the highest figure, the earliest among equals (R103). -/
def planBest (l : List PlanEntry) : Option (Nat × Nat) :=
  l.foldl (fun b e =>
    match b, e.figure with
    | none, some g => some (e.position, g)
    | some b, some g => if b.2 < g then some (e.position, g) else some b
    | b, none => b) none

/-- The figure of a plan position, if it is in the plan (R103).  An outer position that the clamp of R99 moved closer than
S_f, without merging it, is not found (DESIGN CHOICE, log entry 73). -/
def planFigure (l : List PlanEntry) (p : Int) : Option Nat :=
  (l.find? (fun e => (e.position : Int) == p)).bind (·.figure)

/-- The vertex p* before the clamp of R99 (R103). -/
def vertex (l : List PlanEntry) (sf b fb : Nat) : Int :=
  match planFigure l ((b : Int) - sf), planFigure l ((b : Int) + sf) with
  | some lo, some hi =>
    let den : Int := (lo : Int) - 2 * fb + hi
    if den < 0 then
      clampInt ((b : Int) - sf) ((b : Int) + sf) ((b : Int) + Int.tdiv (sf * ((lo : Int) - hi)) (2 * den))
    else b
  | _, _ => b

/-- PEAK is entered (R103, R111).  The report carries p*, and as its best figure the F_b of the plan's best position, beside
the best record's position (DESIGN CHOICE, log entry 54). -/
def enterPeak (frame : BitVec 32) (s : State) : State :=
  let before := s.focus.search
  let bf := (planBest s.focus.plan).getD (0, 0)
  let p := clampFocus s (vertex s.focus.plan s.focus.fineStep bf.1 bf.2)
  let s := sendFocus p .plain (s.onFocus (fun f => { f with search := .peak, peakTarget := p }))
  giveReport (focusReport before { cause := .peakSet, peakOrStep := p, frame := frame }
    (s.focus.best.map (fun b => { b with figure := bf.2 })) s) s

/-- The plan position being visited: the first without a figure (R102). -/
def visiting (l : List PlanEntry) : Option Nat := (l.find? (fun e => e.figure.isNone)).map (·.position)

/-- The plan with the figure of the visited position entered (R102). -/
def fillPlan (p g : Nat) (l : List PlanEntry) : List PlanEntry :=
  l.map (fun e => if e.position = p then { e with figure := some g } else e)

/-- A valid sample in FINE (R102). -/
def fineSample (p : FocusSample) (s : State) : State :=
  let s := s.onFocus (appendSample p)
  let s := if visiting s.focus.plan = some p.position then
      s.onFocus (fun f => { f with plan := fillPlan p.position p.figure f.plan }) else s
  match visiting s.focus.plan with
  | some next => sendFocus next .plain s
  | none => enterPeak p.frame s

/-- The search has ended at p* (R103). -/
def lockFocus (s : State) : State :=
  let before := s.focus.search
  let p := s.focus.peakTarget
  let s := s.onFocus (fun f =>
    { f with search := if f.mode = .continuous then .monitor else .locked, aeHold := false, baselinePending := true,
             zoomPause := false, dropRun := 0, samples := [], plan := [] })
  reportFocus before { cause := .locked, peakOrStep := p } (focusAsksZoom (.position p) s)

/-! ## Taking a frame (R97, R98, R104, R105, R108) -/

/-- The largest window mean over the windows latched as enabled, if any (R98). -/
def brightestWindow (ws : List WindowValue) : Option Nat :=
  ws.foldl (fun b w => if w.enabled then some (max (b.getD 0) w.mean) else b) none

/-- The reason the validity chain names, `noReason` for a valid sample (R98). -/
def focusFailure (a : Announcement) (r : StatRecord) : FocusReason :=
  if a.torn then .torn
  else if a.moving.focus || !a.focusSettled then .focusMoving
  else if a.moving.zoom then .zoomMoving
  else
    match brightestWindow r.windows with
    | some m => if m < r.darkFloor then .dark else .noReason
    | none => .dark

/-- The conditions of START FOCUS whose failure is NOT_READY (R100). -/
def searchReady (s : State) : Bool :=
  s.command.mode == .view && lensReady s && s.zoom.derived.isSome && s.focus.mode != .manual

/-- A restart needs what START FOCUS needs (R108). -/
def restartSearch (n : FocusNote) (s : State) : State :=
  if searchReady s && !s.zoom.moving then startSearch n s else s

/-- The baseline (R104). -/
def takeBaseline (p : FocusSample) (r : StatRecord) (s : State) : State :=
  let s := s.onFocus (fun f => { f with lockFigure := p.figure, baselinePending := false, baselineSet := 0 })
  reportFocus s.focus.search { cause := .baseline, frame := p.frame } (focusAsksExposure (.take p.frame r.y) s)

/-- A valid monitor sample is compared with F_lock (R108); the drop run stops at 3 (DEDUCED, log entry 33). -/
def monitorSample (p : FocusSample) (s : State) : State :=
  if p.figure < s.focus.lockFigure * (256 - s.focus.monitorDrop) / 256 then
    let s := s.onFocus (fun f => { f with dropRun := satAdd 3 f.dropRun 1 })
    if s.focus.dropRun = 3 then restartSearch { cause := .restartDrop, frame := p.frame } s else s
  else s.onFocus (fun f => { f with dropRun := 0 })

/-- A valid sample in LOCKED or MONITOR (R104, R108).  A baseline that SET FOCUS WINDOWS made pending waits for a sample
measured with the new windows (R96; DEDUCED, log entry 53). -/
def holdingSample (p : FocusSample) (r : StatRecord) (s : State) : State :=
  if s.focus.zoomPause then s
  else if s.focus.baselinePending then
    if s.focus.baselineSet ≤ r.windowSet then takeBaseline p r s else s
  else if s.focus.search = .monitor then monitorSample p s
  else s

/-- The sample of a frame (R98). -/
def sampleOf (s : State) (a : Announcement) (r : StatRecord) : FocusSample :=
  { position := a.endSample.focus, figure := r.focusFigure, frame := a.frame, sweep := s.focus.sweep }

/-- A frame in a sweeping state that the frame limit has let pass (R97). -/
def sweepFrame (a : Announcement) (r : StatRecord) (s : State) : State :=
  if s.focus.moveMark then s
  else
    match focusFailure a r with
    | .noReason =>
      match s.focus.search with
      | .coarse => coarseSample (sampleOf s a r) s
      | .fine => fineSample (sampleOf s a r) s
      | _ => s
    | why => s.onFocus (fun f => { f with lastFailure := why })

/-- A frame in a sweeping state: it is counted, and the limit applied (R97, R105). -/
def countFrame (a : Announcement) (r : StatRecord) (s : State) : State :=
  let s := s.onFocus (fun f => { f with framesUsed := f.framesUsed + 1 })
  if Config.frameLimit ≤ s.focus.framesUsed then
    failSearch { cause := .timeout, reason := s.focus.lastFailure, frame := a.frame } s
  else sweepFrame a r s

/-- The completion work of a frame (R97). -/
def focusWork (a : Announcement) (r : StatRecord) (s : State) : State :=
  if s.command.mode = .standby then s
  else if s.focus.search.sweeping then countFrame a r s
  else if s.focus.search.holding && !s.focus.moveMark then
    match focusFailure a r with
    | .noReason => holdingSample (sampleOf s a r) r s
    | _ => s
  else s

/-- FOCUS_COMPLETION_WORK (R97): the oldest outstanding frame whose statistics record is held, also one of an earlier VIEW period
(DESIGN CHOICE, log entry 76). -/
def execFocusCompletionWork (s : State) : Host.Outcome State Fault Refusal :=
  match s.focus.work with
  | ⟨a, some r⟩ :: rest => finish s (focusWork a r (s.onFocus (fun f => { f with work := rest })))
  | _ => notDue s

/-- FOCUS_FRAME_LIMIT (R105): the completion work whose frame brings frames used to 97 (DEDUCED, log entry 39). -/
def execFocusFrameLimit (s : State) : Host.Outcome State Fault Refusal :=
  match s.focus.work with
  | ⟨a, some r⟩ :: rest =>
    if s.command.mode = .view ∧ s.focus.search.sweeping = true ∧ Config.frameLimit ≤ s.focus.framesUsed + 1 then
      finish s (countFrame a r (s.onFocus (fun f => { f with work := rest })))
    else notDue s
  | _ => notDue s

/-! ## Notices of the Exposure Controller (R106, R108) -/

/-- The far run after an alarm taken while sweeping, and the abandonment at 2 (R106). -/
def alarmWork (v : Alarm) (n : BitVec 32) (s : State) : State :=
  if s.focus.search.sweeping then
    match v with
    | .far =>
      let s := s.onFocus (fun f => { f with farRun := f.farRun + 1 })
      if 2 ≤ s.focus.farRun then abandonSearch true { cause := .exposure, frame := n } s else s
    | .near => s.onFocus (fun f => { f with farRun := 0 })
    | .unmeasured => s
  else s

/-- The oldest notice of the Exposure Controller is taken. -/
def popFocusExposure (s : State) : State := s.onFocus (fun f => { f with fromExposure := f.fromExposure.tail })

/-- EXPOSURE_ALARM (R106). -/
def execExposureAlarm (s : State) : Host.Outcome State Fault Refusal :=
  match s.focus.fromExposure with
  | .alarm v n :: _ => finish s (alarmWork v n (popFocusExposure s))
  | _ => notDue s

/-- The action on "scene changed" (R108). -/
def sceneWork (n : BitVec 32) (s : State) : State :=
  if s.focus.zoomPause then s
  else
    match s.focus.search with
    | .monitor => restartSearch { cause := .restartScene, frame := n } s
    | .locked => reportFocus .locked { cause := .sceneChanged, frame := n } s
    | _ => s

/-- SCENE_CHANGED (R108). -/
def execSceneChanged (s : State) : Host.Outcome State Fault Refusal :=
  match s.focus.fromExposure with
  | .sceneChanged n :: _ => finish s (sceneWork n (popFocusExposure s))
  | _ => notDue s

/-! ## Notices of the Lens Drive (R99, R103, R106) -/

/-- The oldest notice of the Lens Drive is taken. -/
def popFocusLens (s : State) : State := s.onFocus (fun f => { f with fromLens := f.fromLens.tail })

/-- The action on a move-end notice (R99): ignored when the move mark is clear.  A notice does not say which own move it ends:
the REACHED of step 1's stop of R105 clears the mark of the fallback move (DESIGN CHOICE, log entry 75). -/
def focusMoveEndWork (reached : Bool) (s : State) : State :=
  if s.focus.moveMark then
    let s := s.onFocus (fun f => { f with moveMark := false })
    if reached && s.focus.search == .peak then lockFocus s else s
  else s

/-- FOCUS_MOVE_END (R99, R103). -/
def execFocusMoveEnd (s : State) : Host.Outcome State Fault Refusal :=
  match s.focus.fromLens with
  | .moveEnd reached _ :: _ => finish s (focusMoveEndWork reached (popFocusLens s))
  | _ => notDue s

/-- FOCUS_STEP_LOSS (R106). -/
def execFocusStepLoss (s : State) : Host.Outcome State Fault Refusal :=
  match s.focus.fromLens with
  | .stepLoss _ :: _ =>
    let s' := popFocusLens s
    finish s (if s.focus.search.sweeping then abandonSearch true { cause := .stepLoss } s' else s')
  | _ => notDue s

/-- The action on a lens fault (R106). -/
def lensFaultWork (s : State) : State :=
  let before := s.focus.search
  if before = .idle then s
  else reportFocus before { cause := .lensFault } (s.onFocus (fun f => f.settleIn .failed))

/-- LENS_FAULT (R106). -/
def execLensFault (s : State) : Host.Outcome State Fault Refusal :=
  match s.focus.fromLens with
  | .fault :: _ => finish s (lensFaultWork (popFocusLens s))
  | _ => notDue s

/-! ## Notices of the Zoom Controller (R99, R106, R108) -/

/-- The oldest notice of the Zoom Controller is taken. -/
def popFocusZoom (s : State) : State := s.onFocus (fun f => { f with fromZoom := f.fromZoom.tail })

/-- The action on "zoom started": the move mark is cleared in every state (R99). -/
def zoomStartedWork (s : State) : State :=
  if s.focus.search.sweeping then abandonSearch false { cause := .zoom } s
  else if s.focus.search.holding then
    focusAsksExposure .drop (s.onFocus (fun f => { f with moveMark := false, zoomPause := true, dropRun := 0 }))
  else s.onFocus (fun f => { f with moveMark := false })

/-- ZOOM_STARTED (R106, R108). -/
def execZoomStarted (s : State) : Host.Outcome State Fault Refusal :=
  match s.focus.fromZoom with
  | .started :: _ => finish s (zoomStartedWork (popFocusZoom s))
  | _ => notDue s

/-- The action on "zoom stopped" (R108). -/
def zoomStoppedWork (s : State) : State :=
  if s.focus.search.holding then s.onFocus (fun f => { f with zoomPause := false, baselinePending := true }) else s

/-- ZOOM_STOPPED (R108). -/
def execZoomStopped (s : State) : Host.Outcome State Fault Refusal :=
  match s.focus.fromZoom with
  | .stopped :: _ => finish s (zoomStoppedWork (popFocusZoom s))
  | _ => notDue s

/-! ## Commands (R96, R100, R109, R110)

A command's FOCUS STATE report is given before its completion (DESIGN CHOICE, log entry 61). -/

/-- START FOCUS's work (R100): the FOCUS STATE report is given before the completion (DESIGN CHOICE, log entry 61). -/
def startFocusWork (s : State) : State :=
  if searchReady s then
    if s.zoom.moving then refuse .conflict s else completeDone (startSearch { cause := .start } s)
  else refuse .notReady s

/-- START_FOCUS (R100). -/
def execStartFocus (tag : BitVec 16) (s : State) : Host.Outcome State Fault Refusal :=
  runCommand codeStartFocus tag startFocusWork s

/-- The lock values are cleared (R95, R109). -/
def FocusController.clearLock (f : FocusController) : FocusController :=
  { f with lockFigure := 0, baselinePending := false, baselineSet := 0, zoomPause := false, dropRun := 0 }

/-- LOCKED, MONITOR or FAILED is left for IDLE with a drop-reference request (R106, R109). -/
def leaveLock (n : FocusNote) (s : State) : State :=
  let before := s.focus.search
  reportFocus before n (focusAsksExposure .drop (s.onFocus (fun f => f.settleIn .idle)))

/-- CANCEL FOCUS's work (R109); the report goes before the completion (DESIGN CHOICE, log entry 61). -/
def cancelFocusWork (s : State) : State :=
  completeDone
    (if s.focus.search.sweeping then abandonSearch true { cause := .cancelled } s
     else if s.focus.search = .idle then s
     else leaveLock { cause := .cancelled } ((stopOwnMove s).onFocus FocusController.clearLock))

/-- CANCEL_FOCUS (R109). -/
def execCancelFocus (tag : BitVec 16) (s : State) : Host.Outcome State Fault Refusal :=
  runCommand codeCancelFocus tag cancelFocusWork s

/-- MOVE FOCUS's work up to its request (R109); steps 3 and 4 and the completion follow the Lens Drive's answer. -/
def moveFocusWork (p : Nat) (s : State) : State :=
  if lensReady s && s.zoom.derived.isSome then
    if s.focus.search.sweeping then refuse .conflict s
    else
      let c := clampFocus s p
      sendFocus c (.moveFocus c (decide (c ≠ p))) s
  else refuse .notReady s

/-- MOVE_FOCUS (R109). -/
def execMoveFocus (tag focus : BitVec 16) (s : State) : Host.Outcome State Fault Refusal :=
  runCommand codeMoveFocus tag (moveFocusWork focus.toNat) s

/-- Steps 3 and 4 of MOVE FOCUS and its completion, once the Lens Drive has taken the target (R109); the FOCUS STATE report
goes before the completion (DESIGN CHOICE, log entry 61). -/
def moveFocusTaken (c : Nat) (clamped : Bool) (s : State) : State :=
  let s := focusAsksZoom (.position c) s
  let s := match s.focus.search with
    | .locked | .monitor | .failed => leaveLock { cause := .moved } (s.onFocus FocusController.clearLock)
    | _ => s
  if clamped then complete .clamped c s else completeDone s

/-- The focus mode of a code; none for any other value (R110). -/
def focusModeOf (code : Nat) : Option FocusMode :=
  match code with
  | 0 => some .single
  | 1 => some .continuous
  | 2 => some .manual
  | _ => none

/-- The values of SET FOCUS MODE are in range (R110). -/
def focusParamsLegal (drop monitorDrop fallback : Nat) : Bool :=
  1 ≤ drop && drop ≤ 128 && 1 ≤ monitorDrop && monitorDrop ≤ 128 && fallback ≤ 1024

/-- What a new focus mode does to the search state (R110). -/
def applyFocusMode (m : FocusMode) (s : State) : State :=
  match s.focus.search, m with
  | .locked, .continuous =>
    reportFocus .locked { cause := .mode } (s.onFocus (fun f => { f with search := .monitor, dropRun := 0 }))
  | .monitor, .single => reportFocus .monitor { cause := .mode } (s.onFocus (fun f => { f with search := .locked }))
  | .locked, .manual => leaveLock { cause := .mode } s
  | .monitor, .manual => leaveLock { cause := .mode } s
  | .failed, .manual => reportFocus .failed { cause := .mode } (s.onFocus (fun f => f.settleIn .idle))
  | _, _ => s

/-- SET FOCUS MODE's work (R110); the report goes before the completion (DESIGN CHOICE, log entry 61). -/
def setFocusModeWork (mode drop monitorDrop contrastFloor fallback : Nat) (s : State) : State :=
  if s.focus.search.sweeping then refuse .conflict s
  else
    match focusModeOf mode, focusParamsLegal drop monitorDrop fallback with
    | some m, true =>
      completeDone (applyFocusMode m (s.onFocus (fun f =>
        { f with mode := m, drop := drop, monitorDrop := monitorDrop, contrastFloor := contrastFloor,
                 fallback := fallback })))
    | _, _ => refuse .badParameter s

/-- SET_FOCUS_MODE (R110). -/
def execSetFocusMode (tag : BitVec 16) (mode drop monitorDrop : BitVec 8) (contrastFloor : BitVec 32)
    (fallback : BitVec 16) (s : State) : Host.Outcome State Fault Refusal :=
  runCommand codeSetFocusMode tag
    (setFocusModeWork mode.toNat drop.toNat monitorDrop.toNat contrastFloor.toNat fallback.toNat) s

/-- A window as SET FOCUS WINDOWS carries it: width and height both 0 give the automatic centre (R96). -/
def windowOf (w : WindowArg) : FocusWindow :=
  { rect := if w.width = 0 ∧ w.height = 0 then none
            else some { x := w.x.toNat, y := w.y.toNat, width := w.width.toNat, height := w.height.toNat },
    enabled := decide (w.enable ≠ 0) }

/-- The test of one entry (R96). -/
def windowLegal (s : State) (w : FocusWindow) : Bool :=
  match w.enabled, w.rect with
  | true, some r =>
    16 ≤ r.width && 16 ≤ r.height &&
    (!s.command.valid || r.inside (s.command.config.width / 2) (s.command.config.height / 2))
  | _, _ => true

/-- SET FOCUS WINDOWS's work (R96). -/
def setFocusWindowsWork (ws : List FocusWindow) (s : State) : State :=
  if s.focus.search.sweeping then refuse .conflict s
  else if ws.all (windowLegal s) then
    completeDone (s.onFocus (fun f =>
      { f with windows := ws, windowSet := f.windowSet + 1, baselinePending := f.baselinePending || f.search.holding,
               baselineSet := if f.search.holding then f.windowSet + 1 else f.baselineSet }))
  else refuse .badParameter s

/-- SET_FOCUS_WINDOWS (R96). -/
def execSetFocusWindows (tag : BitVec 16) (w0 w1 w2 w3 w4 : WindowArg) (s : State) :
    Host.Outcome State Fault Refusal :=
  runCommand codeSetFocusWindows tag (setFocusWindowsWork ([w0, w1, w2, w3, w4].map windowOf)) s

/-! ## Leaving VIEW and SOFT RESET (R106, R112) -/

/-- SET MODE STANDBY returns every state to IDLE (R106). -/
def leaveViewFocus (s : State) : State :=
  if s.focus.search.sweeping then abandonSearch false { cause := .standby } s
  else if s.focus.search = .idle then s
  else leaveLock { cause := .standby } s

/-- SOFT RESET of the controller (R112). -/
def softResetFocus (f : FocusController) : FocusController :=
  { FocusController.reset with mode := f.mode, drop := f.drop, monitorDrop := f.monitorDrop,
                               contrastFloor := f.contrastFloor, fallback := f.fallback, windows := f.windows,
                               lensTold := f.lensTold }

end Sys2Proof.Machine
end

