-- ==== Sys2Proof/Machine/Lens.lean ====
section
/-!
DEFINITION. The Lens Drive (chapter 4): segments and their answers, the arbiter, edge checks, homing, parking, faults,
the frame samples, and the commands HOME LENS, PARK LENS and SET LENS DRIVE.
-/
namespace Sys2Proof.Machine

/-- The highest position of a motor (R66). -/
def motorTop : Motor → Nat
  | .zoom => 1023 | .focus => 2047 | .iris => 40

/-- The home index of a motor (R66). -/
def homeIndex : Motor → Nat
  | .zoom => 64 | .focus => 1024 | .iris => 0

/-- The seek limit of a motor (R76). -/
def seekLimit : Motor → Nat
  | .zoom => 1088 | .focus => 2112 | .iris => 0

/-- The state with `f` applied to the Lens Drive. -/
def State.onLens (s : State) (f : LensDrive → LensDrive) : State := { s with lens := f s.lens }

/-- A notice to the Zoom Controller. -/
def tellZoom (n : ZoomNotice) (s : State) : State := { s with zoom := { s.zoom with fromLens := s.zoom.fromLens ++ [n] } }

/-- A notice to the Focus Controller. -/
def tellFocus (n : FocusLensNotice) (s : State) : State :=
  { s with focus := { s.focus with fromLens := s.focus.fromLens ++ [n] } }

/-- The Focus Controller is told of a lens state (R67): it holds the state at once, and FAULT, the one it acts on, waits
for LENS_FAULT (DEDUCED, log entry 29). -/
def tellFocusMode (m : LensMode) (s : State) : State :=
  let s := { s with focus := { s.focus with lensTold := m } }
  if m = .fault then tellFocus .fault s else s

/-- The lens state changes, and the Zoom Controller and the Focus Controller are told (R67); the Report Unit reads the state
into the Status Block. -/
def changeLens (m : LensMode) (s : State) : State :=
  tellFocusMode m (tellZoom (.lensState m) (s.onLens (fun l => { l with mode := m })))

/-- A LENS EVENT is given; the event of the last segment under a SOFT RESET waits for its completion (R81, R82). -/
def giveLensEvent (e : LensEvent) (s : State) : State :=
  if s.lens.draining then s.onLens (fun l => { l with heldEvents := l.heldEvents ++ [e] })
  else giveReport (.lensEvent e) s

/-- The LENS EVENT that carries the three positions (HOMED, PARKED). -/
def positionsEvent (k : LensEventKind) (s : State) : LensEvent :=
  { event := k, motor := none, cause := none, before := none, after := s.lens.mode, difference := 0,
    zoom := s.lens.zoom.position, focus := s.lens.focus.position, iris := s.lens.iris.position }

/-! ## Motors and moves -/

/-- A motor's state changes; the Zoom Controller is told when the zoom motor leaves IDLE and returns to it (R73). -/
def setMotorState (m : Motor) (st : MotorState) (s : State) : State :=
  let was := (s.lens.motor m).state
  let s := s.onLens (fun l => l.setMotor m { l.motor m with state := st })
  if m = .zoom then
    if was = .idle ∧ st ≠ .idle then tellZoom .start s
    else if was ≠ .idle ∧ st = .idle then tellZoom .finish s
    else s
  else s

/-- REACHED for the iris is given to the Exposure Controller, which holds the position it carries (R70; DEDUCED, log
entry 29). -/
def tellIrisReached (p : Nat) (s : State) : State := { s with exposure := { s.exposure with irisReached := some p } }

/-- The move-end notice to the owner of the motor's move (R70, R73); DROPPED is sent for FOCUS and ZOOM moves only (R69,
R77). -/
def noticeEnd (m : Motor) (reached : Bool) (s : State) : State :=
  let r := s.lens.motor m
  match m with
  | .iris => if reached then tellIrisReached r.position s else s
  | .zoom => tellZoom (.moveEnd .zoom reached r.position) s
  | .focus =>
    match r.owner with
    | .focus => tellFocus (.moveEnd reached r.position) s
    | _ => tellZoom (.moveEnd .focus reached r.position) s

/-- A move ends: the notice goes to its owner and the motor becomes IDLE (R71). -/
def endMove (m : Motor) (reached : Bool) (s : State) : State := setMotorState m .idle (noticeEnd m reached s)

/-- A segment is sent (R68, R69, R78). -/
def sendSegment (m : Motor) (up : Bool) (steps : Nat) (s : State) : State :=
  s.onLens (fun l =>
    let r := l.motor m
    { l.setMotor m { r with moved := true } with
      segment := some { motor := m, up := up, steps := steps, period := r.period, timeout := steps * r.period + 5000,
                        homing := l.mode == .homing } })

/-- The next segment of a move: toward the target, of min(16, |target - position|) steps (R71). -/
def sendMoveSegment (m : Motor) (s : State) : State :=
  let r := s.lens.motor m
  sendSegment m (r.position < r.target) (min 16 (natDist r.target r.position)) s

/-! ## The grant decision (R71, R72) -/

/-- The order FOCUS, IRIS, ZOOM that breaks ties. -/
def motorRank : Motor → Nat
  | .focus => 0 | .iris => 1 | .zoom => 2

/-- Priority `p` of motor `m` beats priority `p'` of motor `m'` (R72). -/
def beats (p : Nat) (m : Motor) (p' : Nat) (m' : Motor) : Bool := p < p' || (p == p' && motorRank m < motorRank m')

/-- The best PENDING motor (R71). -/
def bestPending (l : LensDrive) : Option Motor :=
  [Motor.focus, Motor.iris, Motor.zoom].foldl
    (fun b m =>
      if (l.motor m).state = .pending then
        match b with
        | none => some m
        | some b => if (l.motor m).priority < (l.motor b).priority then some m else some b
      else b) none

/-- The best PENDING move rather than the stack top is the next move (R72). -/
def takesPending (l : LensDrive) (p : Motor) (e : StackEntry) : Bool :=
  l.arbitration == .sequential || beats (l.motor p).priority p e.priority e.motor

/-- The move of motor `m` becomes the current move, RUNNING; its segment is sent unless it already stands at its
target, in which case it ends at once. The result says whether it ended. -/
def startMove (m : Motor) (s : State) : State × Bool :=
  let r := s.lens.motor m
  if r.target = r.position then (endMove m true s, true)
  else (sendMoveSegment m ((setMotorState m .running s).onLens (fun l => { l with current := some m })), false)

/-- The stack top is popped with its remaining target (R72). -/
def popStack (e : StackEntry) (rest : List StackEntry) (s : State) : State :=
  s.onLens (fun l => { l.setMotor e.motor { l.motor e.motor with target := e.target } with stack := rest })

/-- The choice of the next move (R72); each move that ends at once makes the choice run again, at most `fuel` times. -/
def chooseNext : Nat → State → State
  | 0, s => s
  | fuel + 1, s =>
    match bestPending s.lens, s.lens.stack with
    | none, [] => s
    | some p, [] => let r := startMove p s; if r.2 then chooseNext fuel r.1 else r.1
    | none, e :: rest => let r := startMove e.motor (popStack e rest s); if r.2 then chooseNext fuel r.1 else r.1
    | some p, e :: rest =>
      let r := if takesPending s.lens p e then startMove p s else startMove e.motor (popStack e rest s)
      if r.2 then chooseNext fuel r.1 else r.1

/-- More choices than moves can wait: three pending motors and the stacked moves. -/
def choiceFuel (l : LensDrive) : Nat := 4 + l.stack.length

/-- The current move of motor `m` is pushed onto the stack with its present priority (R72). -/
def pushCurrent (m : Motor) (s : State) : State :=
  (setMotorState m .preempted s).onLens (fun l =>
    { l with stack := { motor := m, target := (l.motor m).target, priority := (l.motor m).priority } :: l.stack,
             current := none })

/-- The PENDING motor that preempts the current move of motor `m`: strictly higher priority, in PREEMPT mode (R71). -/
def preemptor (l : LensDrive) (m : Motor) : Option Motor :=
  match l.arbitration, bestPending l with
  | .preempt, some p => if (l.motor p).priority < (l.motor m).priority then some p else none
  | _, _ => none

/-- The grant decision, with the bus free in READY (R71).  A preempting move that already stands at its target ends at once
after the current move has been pushed, and the choice of R72 follows (DESIGN CHOICE, log entry 58). -/
def grant (s : State) : State :=
  match s.lens.current with
  | none => chooseNext (choiceFuel s.lens) s
  | some m =>
    if (s.lens.motor m).position = (s.lens.motor m).target then
      chooseNext (choiceFuel s.lens) ((endMove m true s).onLens (fun l => { l with current := none }))
    else
      match preemptor s.lens m with
      | some p =>
        let pushed := pushCurrent m s
        let r := startMove p pushed
        if r.2 then chooseNext (choiceFuel pushed.lens) r.1 else r.1
      | none => sendMoveSegment m s

/-! ## Faults (R69) -/

/-- Every move is dropped: each motor that is not IDLE becomes IDLE, with DROPPED to the owner, except under a SOFT
RESET (R69, R82). -/
def dropMove (m : Motor) (s : State) : State :=
  if (s.lens.motor m).state = .idle then s
  else if s.lens.draining then setMotorState m .idle s
  else endMove m false s

/-- The current move, the stack and the pending targets are dropped; of two DROPPED notices FOCUS's goes first (R69, R77;
DESIGN CHOICE, log entry 59). -/
def dropAllMoves (s : State) : State :=
  (dropMove .iris (dropMove .zoom (dropMove .focus s))).onLens (fun l => { l with current := none, stack := [] })

/-- The lens goes to FAULT (R69, R76): the segment ends, moves are dropped, the event is given and the state change is
told. -/
def failLens (m : Motor) (cause : LensFaultCause) (s : State) : State :=
  let before := s.lens.mode
  let s := dropAllMoves (s.onLens (fun l => { l with segment := none, awaiting := false, homing := none }))
  let s := giveLensEvent { event := .fault, motor := some m, cause := some cause, before := some before, after := .fault,
                           difference := 0, zoom := 0, focus := 0, iris := 0 } s
  (changeLens .fault s).onLens (fun l => { l with draining := false })

/-- The time at which the last focus segment ended (R68, R69). -/
def noteFocusEnd (g : Segment) (now : Nat) (s : State) : State :=
  if g.motor = .focus then s.onLens (fun l => { l with lastFocusEnd := some now }) else s

/-- A FAULT answer or a timeout ends the segment in flight (R69). -/
def failSegment (cause : LensFaultCause) (now : Nat) (s : State) : Option State :=
  s.lens.segment.map (fun g => failLens g.motor cause (noteFocusEnd g now s))

/-! ## Homing and parking (R75 to R77) -/

/-- A seek segment: 16 steps, cut so that the count does not pass the limit (R76). -/
def sendSeek (m : Motor) (up : Bool) (sent : Nat) (s : State) : State :=
  let n := min 16 (seekLimit m - sent)
  sendSegment m up n (s.onLens (fun l => { l with homing := some (.seek m up (sent + n)) }))

/-- The last reported level of a motor's home sensor is BLOCKED. -/
def sensorBlocked (l : LensDrive) : Motor → Bool
  | .zoom => l.zoomBlocked
  | .focus => l.focusBlocked
  | .iris => false

/-- The seek of a motor begins: down when its sensor is BLOCKED, up when it is CLEAR (R76). -/
def startSeek (m : Motor) (s : State) : State := sendSeek m (!sensorBlocked s.lens m) 0 s

/-- The position of a motor is set. -/
def setPosition (m : Motor) (p : Nat) (s : State) : State := s.onLens (fun l => l.setMotor m { l.motor m with position := p })

/-- Homing has ended: the lens is READY (R76). -/
def endHoming (s : State) : State :=
  let s := changeLens .ready (s.onLens (fun l => { l with homing := none }))
  giveLensEvent (positionsEvent .homed s) s

/-- The position where a seek ended: the edge found `past` steps before the segment's end (R76). -/
def seekPosition (m : Motor) (up : Bool) (past : Nat) : Nat :=
  if up then homeIndex m + past else homeIndex m - 1 - past

/-- A DONE of a homing segment `g` with transition step `t` (R75, R76). -/
def homingDone (g : Segment) (t : Nat) (s : State) : State :=
  match s.lens.homing with
  | some (.iris k) =>
    if k + 1 < 3 then sendSegment .iris false 16 (s.onLens (fun l => { l with homing := some (.iris (k + 1)) }))
    else startSeek .zoom (setPosition .iris 0 s)
  | some (.seek m up sent) =>
    if 0 < t then
      let s := setPosition m (seekPosition m up (g.steps - t)) s
      if m = .zoom then startSeek .focus s else endHoming s
    else if sent < seekLimit m then sendSeek m up sent s
    else failLens m .noHome s
  | none => s

/-- The next parking segment: focus to 0, then zoom to 0, then PARKED (R77). -/
def parkNext (s : State) : State :=
  if s.lens.focus.position ≠ 0 then sendSegment .focus false (min 16 s.lens.focus.position) s
  else if s.lens.zoom.position ≠ 0 then sendSegment .zoom false (min 16 s.lens.zoom.position) s
  else
    let s := changeLens .parked s
    giveLensEvent (positionsEvent .parked s) s

/-! ## Answers of the driver chip (R68, R74) -/

/-- The position after a DONE without correction (R68). -/
def movedPosition (g : Segment) (p : Nat) : Nat := if g.up then p + g.steps else p - g.steps

/-- The difference d of the edge check at transition step `t` from position `p` (R74). -/
def edgeDifference (g : Segment) (t p : Nat) : Int :=
  let h : Int := homeIndex g.motor
  if g.up then (p : Int) + t - h else (p : Int) - t - (h - 1)

/-- The segment's position change in READY or PARKING, with the edge check (R68, R74).  STEP_LOSS carries the lens state in
which the DONE is taken, also where the step ends in another one (DESIGN CHOICE, log entry 71). -/
def segmentMoved (g : Segment) (t : Nat) (s : State) : State :=
  let p := (s.lens.motor g.motor).position
  let d := edgeDifference g t p
  if g.motor ≠ .iris ∧ 0 < t ∧ 2 < d.natAbs then
    let q := seekPosition g.motor g.up (g.steps - t)
    let s := giveLensEvent { event := .stepLoss, motor := some g.motor, cause := none, before := none,
                             after := s.lens.mode, difference := d, zoom := if g.motor = .zoom then q else 0,
                             focus := if g.motor = .focus then q else 0, iris := 0 }
      (setPosition g.motor q s)
    tellFocus (.stepLoss g.motor) (tellZoom (.stepLoss g.motor) s)
  else setPosition g.motor (movedPosition g p) s

/-- The lens state after the last segment under a SOFT RESET (R82). -/
def drainedMode : LensMode → LensMode
  | .homing => .unhomed
  | .parking => .ready
  | m => m

/-- The last segment under a SOFT RESET has ended, or none was in flight: the current move is dropped, the lens state
settles, and the derived values are formed when the lens is READY (R82, R94).  A tracking answer that is awaited still
comes (R92). -/
def endDrain (s : State) : State :=
  let s := dropAllMoves s
  let m := drainedMode s.lens.mode
  let s := if m = s.lens.mode then s else changeLens m s
  let s := s.onLens (fun l => { l with draining := false, homing := none })
  if m = .ready then { s with zoom := s.zoom.reform s.lens.zoom.position } else s

/-- A DONE of a zoom segment in READY gives the Zoom Controller the new position and waits for its tracking answer (R73). -/
def handOver (s : State) : State :=
  tellZoom (.handover s.lens.zoom.position) (s.onLens (fun l => { l with awaiting := true }))

/-- The DONE of the last segment under a SOFT RESET: in READY a zoom segment's position is handed over here too (R73, R92), to
be answered without a target, and then the current move is dropped (R82; DEDUCED, log entry 18).  In HOMING the position
stays as it stood (DESIGN CHOICE, log entry 66). -/
def drainDone (g : Segment) (s : State) : State :=
  endDrain (if g.motor = .zoom ∧ lensReady s then
    let s := handOver s
    { s with zoom := { s.zoom with silent := s.zoom.silent + 1 } }
  else s)

/-- A DONE for the segment in flight `g` (R68). -/
def segmentDone (g : Segment) (zoomBlocked focusBlocked : Bool) (t now : Nat) (s : State) : State :=
  let s := noteFocusEnd g now
    (s.onLens (fun l => { l with segment := none, zoomBlocked := zoomBlocked, focusBlocked := focusBlocked }))
  let s := if g.homing then s else segmentMoved g t s
  if s.lens.draining then drainDone g s
  else
    match s.lens.mode with
    | .homing => homingDone g t s
    | .parking =>
      match s.lens.current with
      | some m => parkNext ((endMove m false s).onLens (fun l => { l with current := none }))
      | none => parkNext s
    | .ready =>
      if g.motor = .zoom then handOver s else grant s
    | _ => s

/-- LENS_SEGMENT_DONE (R68): an answer that arrives while no segment is in flight is ignored.  One that arrives while a segment
is in flight is that segment's, also the late answer of a segment that has timed out, which R69 says is ignored: an answer
names no segment (DESIGN CHOICE, log entry 77). -/
def execLensSegmentDone (zoomBlocked focusBlocked : Bool) (transition now : Nat) (s : State) :
    Host.Outcome State Fault Refusal :=
  finishIf s (s.lens.segment.map (fun g => segmentDone g zoomBlocked focusBlocked transition now s))

/-- The segment in flight is the last one a seek may send (R76). -/
def seekAtLimit (l : LensDrive) : Bool :=
  match l.homing with
  | some (.seek m _ sent) => l.mode == .homing && !l.draining && sent == seekLimit m
  | _ => false

/-- NO_HOME (R76): the DONE of the last seek segment, with no transition (DEDUCED, log entry 39); which segment a late DONE
answers is not told apart (DESIGN CHOICE, log entry 77). -/
def execNoHome (zoomBlocked focusBlocked : Bool) (now : Nat) (s : State) : Host.Outcome State Fault Refusal :=
  if seekAtLimit s.lens then
    finishIf s (s.lens.segment.map (fun g => segmentDone g zoomBlocked focusBlocked 0 now s))
  else notDue s

/-- FAULT_ANSWER (R69): ignored while no segment is in flight; which segment a late one answers is not told apart (DESIGN
CHOICE, log entry 77). -/
def execFaultAnswer (now : Nat) (s : State) : Host.Outcome State Fault Refusal :=
  finishIf s (failSegment .driverFault now s)

/-- SEGMENT_TIMEOUT (R69): nothing expires while no segment is in flight. -/
def execSegmentTimeout (now : Nat) (s : State) : Host.Outcome State Fault Refusal :=
  finishIf s (failSegment .timeout now s)

/-- TRACKING_ANSWER (R73): the grant decision runs if an answer is awaited; which hand-over it answers is not told apart
(DESIGN CHOICE, log entry 52). -/
def execTrackingAnswer (s : State) : Host.Outcome State Fault Refusal :=
  match s.lens.fromZoom with
  | .trackingAnswer :: rest =>
    let s' := s.onLens (fun l => { l with fromZoom := rest })
    if s.lens.awaiting && lensReady s then finish s (grant (s'.onLens (fun l => { l with awaiting := false })))
    else finish s s'
  | _ => notDue s

/-! ## Commands -/

/-- HOME LENS's work (R75). -/
def homeLensWork (s : State) : State :=
  match s.lens.mode with
  | .unhomed | .parked | .fault =>
    let s := changeLens .homing (s.onLens (fun l => { l with homing := some (.iris 0) }))
    completeDone (sendSegment .iris false 16 s)
  | _ => refuse .notReady s

/-- HOME_LENS (R75). -/
def execHomeLens (tag : BitVec 16) (s : State) : Host.Outcome State Fault Refusal :=
  runCommand codeHomeLens tag homeLensWork s

/-- A motor that is PENDING or PREEMPTED loses its move (R77, R82). -/
def dropWaiting (m : Motor) (s : State) : State :=
  match (s.lens.motor m).state with
  | .pending | .preempted => dropMove m s
  | _ => s

/-- Every PENDING target and every stacked move is dropped, FOCUS's notice first (log entry 59). -/
def dropWaitingMoves (s : State) : State :=
  (dropWaiting .iris (dropWaiting .zoom (dropWaiting .focus s))).onLens (fun l => { l with stack := [] })

/-- Parking begins (R77): with a segment in flight the current move ends with it.  Without one, a tracking answer that is
awaited is awaited no more, the current move is dropped and the first parking segment sent at once (DESIGN CHOICE, log
entry 52). -/
def startParking (s : State) : State :=
  let s := dropWaitingMoves (s.onLens (fun l => { l with awaiting := false }))
  match s.lens.segment with
  | some _ => changeLens .parking s
  | none => parkNext (changeLens .parking (dropAllMoves s))

/-- PARK LENS's work (R77).  When the lens already stands at 0, PARKED is reported before the completion (DESIGN CHOICE, log
entry 51). -/
def parkLensWork (s : State) : State :=
  if s.command.mode = .view then refuse .notReady s
  else
    match s.lens.mode with
    | .ready => completeDone (startParking s)
    | .parked => completeDone s
    | _ => refuse .notReady s

/-- PARK_LENS (R77). -/
def execParkLens (tag : BitVec 16) (s : State) : Host.Outcome State Fault Refusal :=
  runCommand codeParkLens tag parkLensWork s

/-- A step period is in range (R80). -/
def periodLegal (p : Nat) : Bool := 100 ≤ p && p ≤ 20000

/-- SET LENS DRIVE's work (R80). -/
def setLensDriveWork (arbitration prioZoom prioFocus prioIris periodZoom periodFocus periodIris settleUs : Nat)
    (s : State) : State :=
  if arbitration ≤ 1 && prioZoom ≤ 7 && prioFocus ≤ 7 && prioIris ≤ 7 && periodLegal periodZoom &&
      periodLegal periodFocus && periodLegal periodIris && settleUs ≤ 20000 then
    completeDone (s.onLens (fun l =>
      { l with arbitration := if arbitration = 0 then .preempt else .sequential, settleTime := settleUs,
               zoom := { l.zoom with priority := prioZoom, period := periodZoom },
               focus := { l.focus with priority := prioFocus, period := periodFocus },
               iris := { l.iris with priority := prioIris, period := periodIris } }))
  else refuse .badParameter s

/-- SET_LENS_DRIVE (R80). -/
def execSetLensDrive (tag : BitVec 16) (arbitration prioZoom prioFocus prioIris : BitVec 8)
    (periodZoom periodFocus periodIris settleUs : BitVec 16) (s : State) : Host.Outcome State Fault Refusal :=
  runCommand codeSetLensDrive tag
    (setLensDriveWork arbitration.toNat prioZoom.toNat prioFocus.toNat prioIris.toNat periodZoom.toNat
      periodFocus.toNat periodIris.toNat settleUs.toNat) s

/-- SOFT RESET of the Lens Drive (R82): waiting moves are dropped without notices, and the segment in flight runs to its
end.  Of the requests not taken only a tracking answer stays (log entry 18). -/
def softResetLens (s : State) : State :=
  let s := dropWaitingMoves (s.onLens (fun l =>
    { l with draining := true, fromZoom := l.fromZoom.filter (· == .trackingAnswer), fromFocus := [], fromExposure := [] }))
  match s.lens.segment with
  | some _ => s
  | none => endDrain s

/-! ## What each frame is told (R78, R79) -/

/-- The sample of the lens at a moment (R78). -/
def lensSample (s : State) : LensSample :=
  if lensKnown s then
    { zoom := s.lens.zoom.position, focus := s.lens.focus.position, irisStop := s.lens.iris.position / 8, known := true }
  else LensSample.reset

/-- A segment of the motor is in flight. -/
def inFlight (l : LensDrive) (m : Motor) : Bool :=
  match l.segment with
  | some g => g.motor == m
  | none => false

/-- The settle time has passed since the last focus segment ended (R79). -/
def settledBy (l : LensDrive) (now : Nat) : Bool :=
  match l.lastFocusEnd with
  | some t => t + l.settleTime ≤ now
  | none => true

/-- The marks the Lens Drive sets at a frame start (R78, R79). -/
def markFrameStart (now : Nat) (l : LensDrive) : LensDrive :=
  { l with zoom := { l.zoom with moved := inFlight l .zoom }, focus := { l.focus with moved := inFlight l .focus },
           iris := { l.iris with moved := inFlight l .iris },
           settleMark := !inFlight l .focus && settledBy l now }

/-- The three moved marks (R78). -/
def movedMarks (l : LensDrive) : MotorFlags := { zoom := l.zoom.moved, focus := l.focus.moved, iris := l.iris.moved }

/-- The focus-settled flag of a frame whose samples are given (R79). -/
def focusSettled (l : LensDrive) (start finish : LensSample) : Bool :=
  l.settleMark && !l.focus.moved && start.known && finish.known

end Sys2Proof.Machine
end

