-- ==== Sys2Proof/Machine/Zoom.lean ====
section
/-!
DEFINITION. The Zoom Controller (chapter 5): the notices it takes, focus tracking, the subject fraction, the commit of
a cam table, and ZOOM TO and ZOOM STOP.
-/
namespace Sys2Proof.Machine

/-- The state with `f` applied to the Zoom Controller. -/
def State.onZoom (s : State) (f : ZoomController → ZoomController) : State := { s with zoom := f s.zoom }

/-- A request of the Zoom Controller to the Lens Drive. -/
def zoomAsksLens (m : LensMessage) (s : State) : State :=
  { s with lens := { s.lens with fromZoom := s.lens.fromZoom ++ [m] } }

/-- A notice of the Zoom Controller to the Focus Controller (R90). -/
def zoomTellsFocus (n : FocusZoomNotice) (s : State) : State :=
  { s with focus := { s.focus with fromZoom := s.focus.fromZoom ++ [n] } }

/-- The oldest notice of the Lens Drive is taken. -/
def popZoomNotice (s : State) : State := s.onZoom (fun z => { z with fromLens := z.fromLens.tail })

/-- The zoom end (R90): carried out once, when the moving mark is set (R93). -/
def endZoom (s : State) : State :=
  if s.zoom.moving then zoomTellsFocus .stopped (s.onZoom (fun z => { z with moving := false })) else s

/-! ## Tracking (R92) -/

/-- The focus motor's target in force, or its position when it is IDLE (R92). -/
def focusGoal (l : LensDrive) : Nat := if l.focus.state = .idle then l.focus.position else l.focus.target

/-- The tracking target is sent when it differs from where focus is heading (R92). -/
def sendTracking (s : State) : State :=
  match s.zoom.derived with
  | some d =>
    let p := positionAt d s.zoom.u
    if p = focusGoal s.lens then s else zoomAsksLens (.target .focus p .plain) s
  | none => s

/-- The hand-over of zoom position `z` (R92).  One that a SOFT RESET was taken before is answered without a target. -/
def handover (z : Nat) (s : State) : State :=
  let s := (popZoomNotice s).onZoom (fun c => c.reform z)
  zoomAsksLens .trackingAnswer
    (if s.zoom.silent = 0 then sendTracking s else s.onZoom (fun c => { c with silent := c.silent - 1 }))

/-- ZOOM_POSITION_HANDOVER (R92). -/
def execZoomPositionHandover (s : State) : Host.Outcome State Fault Refusal :=
  match s.zoom.fromLens with
  | .handover z :: _ => finish s (handover z s)
  | _ => notDue s

/-! ## Zoom start and end (R90) -/

/-- The work of the zoom start (R90), with the focus position as the Lens Drive holds it, also once a fault has made it
unknown (DESIGN CHOICE, log entry 72). -/
def zoomStartWork (s : State) : State :=
  let u := match s.zoom.fresh, s.zoom.derived with
    | false, some d => fractionOf d s.lens.focus.position
    | _, _ => s.zoom.u
  zoomTellsFocus .started (s.onZoom (fun z => { z with u := u, fresh := false, moving := true }))

/-- ZOOM_START (R90). -/
def execZoomStart (s : State) : Host.Outcome State Fault Refusal :=
  match s.zoom.fromLens with
  | .start :: _ => finish s (zoomStartWork (popZoomNotice s))
  | _ => notDue s

/-- ZOOM_END (R90). -/
def execZoomEnd (s : State) : Host.Outcome State Fault Refusal :=
  match s.zoom.fromLens with
  | .finish :: _ => finish s (endZoom (popZoomNotice s))
  | _ => notDue s

/-! ## Other notices (R93) -/

/-- The action on a move-end notice (R93). -/
def zoomMoveEndWork (m : Motor) (reached : Bool) (s : State) : State :=
  match m, reached with
  | .zoom, false => endZoom (s.onZoom (fun z => { z with target := none }))
  | _, _ => s

/-- ZOOM_MOVE_END (R93). -/
def execZoomMoveEnd (s : State) : Host.Outcome State Fault Refusal :=
  match s.zoom.fromLens with
  | .moveEnd m reached _ :: _ => finish s (zoomMoveEndWork m reached (popZoomNotice s))
  | _ => notDue s

/-- ZOOM_STEP_LOSS (R93): the derived values are formed anew for the zoom motor; no action for the focus motor. -/
def execZoomStepLoss (s : State) : Host.Outcome State Fault Refusal :=
  match s.zoom.fromLens with
  | .stepLoss .zoom :: _ => finish s ((popZoomNotice s).onZoom (fun z => z.reform s.lens.zoom.position))
  | .stepLoss _ :: _ => finish s (popZoomNotice s)
  | _ => notDue s

/-- The action on a lens state change (R93).  The READY that a SOFT RESET makes from PARKING (R82) acts as that of homing
(DESIGN CHOICE, log entry 67). -/
def zoomLensState (m : LensMode) (s : State) : State :=
  match m with
  | .fault => endZoom (s.onZoom (fun z => { z with target := none }))
  | .ready => s.onZoom (fun z => { z.reform s.lens.zoom.position with fresh := false, target := none })
  | _ => s

/-- LENS_STATE_CHANGE (R93). -/
def execLensStateChange (s : State) : Host.Outcome State Fault Refusal :=
  match s.zoom.fromLens with
  | .lensState m :: _ => finish s (zoomLensState m (popZoomNotice s))
  | _ => notDue s

/-! ## The subject fraction (R91) -/

/-- The oldest request of the Focus Controller is taken. -/
def popFraction (s : State) : State := s.onZoom (fun z => { z with fromFocus := z.fromFocus.tail })

/-- u is set, with the fresh mark; ignored while the cam table is empty (R91). -/
def setSubject (u : Nat) (s : State) : State :=
  if s.zoom.cam.isEmpty then s else s.onZoom (fun z => { z with u := u, fresh := true })

/-- SET_FROM_POSITION (R91). -/
def execSetFromPosition (s : State) : Host.Outcome State Fault Refusal :=
  match s.zoom.fromFocus with
  | .position p :: _ =>
    finish s (setSubject ((s.zoom.derived.map (fun d => fractionOf d p)).getD s.zoom.u) (popFraction s))
  | _ => notDue s

/-- SET_FRACTION (R91). -/
def execSetFraction (s : State) : Host.Outcome State Fault Refusal :=
  match s.zoom.fromFocus with
  | .fraction v :: _ => finish s (setSubject (min v 1024) (popFraction s))
  | _ => notDue s

/-! ## Cam table commit and SOFT RESET (R87, R94) -/

/-- A cam table is committed (R87). -/
def commitCam (l : List CamNode) (s : State) : State :=
  let s := s.onZoom (fun z => { z with cam := l }.reform s.lens.zoom.position)
  let s := match s.zoom.target with
    | some t =>
      if zMax l < t then
        zoomAsksLens (.target .zoom (zMax l) .camCommit) (s.onZoom (fun z => { z with target := some (zMax l) }))
      else s
    | none => s
  s.onZoom (fun z => { z with fresh := false })

/-- A notice is a hand-over. -/
def ZoomNotice.isHandover : ZoomNotice → Bool
  | .handover _ => true
  | _ => false

/-- SOFT RESET of the Zoom Controller (R94): an outstanding hand-over is still answered (R92). -/
def softResetZoom (z : ZoomController) : ZoomController :=
  { z with target := none, moving := false, fresh := false, fromFocus := [],
           fromLens := z.fromLens.filter ZoomNotice.isHandover, silent := z.fromLens.countP ZoomNotice.isHandover }

/-! ## Commands (R88, R89) -/

/-- The zoom commands are refused while the cam table is empty or the lens is not READY. -/
def zoomReady (s : State) : Bool := !s.zoom.cam.isEmpty && lensReady s

/-- ZOOM TO's work (R88): the completion follows the Lens Drive's answer to the request. -/
def zoomToWork (z : Nat) (s : State) : State :=
  if zoomReady s then
    let c := min z (zMax s.zoom.cam)
    let before := s.zoom.target
    zoomAsksLens (.target .zoom c (.zoomTo before (decide (c ≠ z)))) (s.onZoom (fun k => { k with target := some c }))
  else refuse .notReady s

/-- ZOOM_TO (R88). -/
def execZoomTo (tag zoom : BitVec 16) (s : State) : Host.Outcome State Fault Refusal :=
  runCommand codeZoomTo tag (zoomToWork zoom.toNat) s

/-- ZOOM STOP's work (R89): the completion follows the Lens Drive's answer to the request. -/
def zoomStopWork (s : State) : State :=
  if zoomReady s then zoomAsksLens (.stop .zoom .zoomStop) s else refuse .notReady s

/-- ZOOM_STOP (R89). -/
def execZoomStop (tag : BitVec 16) (s : State) : Host.Outcome State Fault Refusal :=
  runCommand codeZoomStop tag zoomStopWork s

end Sys2Proof.Machine
end

