-- ==== Sys2Proof/Machine/LensRequests.lean ====
section
/-!
DEFINITION. The target and stop requests of the controllers to the Lens Drive (R70), and what the requester does with
the Lens Drive's answer (R59, R87 to R89, R92, R99, R109).
-/
namespace Sys2Proof.Machine

/-- The requests that wait from a requester. -/
def LensDrive.channel (l : LensDrive) : Requester → List LensMessage
  | .zoom => l.fromZoom
  | .focus => l.fromFocus
  | .exposure => l.fromExposure

/-- The oldest request of a requester leaves its channel. -/
def popChannel (r : Requester) (l : LensDrive) : LensDrive :=
  match r with
  | .zoom => { l with fromZoom := l.fromZoom.tail }
  | .focus => { l with fromFocus := l.fromFocus.tail }
  | .exposure => { l with fromExposure := l.fromExposure.tail }

/-- A motor's target and owner are replaced (R70). -/
def setTarget (m : Motor) (p : Nat) (owner : Requester) (s : State) : State :=
  s.onLens (fun l => l.setMotor m { l.motor m with target := p, owner := owner })

/-- The remaining target of a motor's stack entry is replaced in place (R70). -/
def setStackTarget (m : Motor) (p : Nat) (s : State) : State :=
  s.onLens (fun l => { l with stack := l.stack.map (fun e => if e.motor = m then { e with target := p } else e) })

/-- The bus is free for a target request: no segment is in flight and no tracking answer is awaited (R71). -/
def busFree (l : LensDrive) : Bool := l.segment.isNone && !l.awaiting

/-- A target request taken in READY, by the motor's state (R70); `p` has been clamped. -/
def takeTarget (m : Motor) (p : Nat) (owner : Requester) (s : State) : State :=
  match (s.lens.motor m).state with
  | .idle =>
    let s := setTarget m p owner s
    if p = (s.lens.motor m).position then noticeEnd m true s
    else
      let s := setMotorState m .pending s
      if busFree s.lens then grant s else s
  | .preempted => setStackTarget m p (setTarget m p owner s)
  | _ => setTarget m p owner s

/-- The position a RUNNING motor will have at the end of the segment in flight, or its present one (R70). -/
def restingPosition (l : LensDrive) (m : Motor) : Nat :=
  match l.segment with
  | some g => if g.motor = m then movedPosition g (l.motor m).position else (l.motor m).position
  | none => (l.motor m).position

/-- A stop request taken in READY, by the motor's state (R70). -/
def takeStop (m : Motor) (s : State) : State :=
  let r := s.lens.motor m
  match r.state with
  | .idle => s
  | .pending => endMove m true s
  | .running => setTarget m (restingPosition s.lens m) r.owner s
  | .preempted => setStackTarget m r.position (setTarget m r.position r.owner s)

/-- The requester takes the Lens Drive's answer to a target request: taken (R88, R109), or refused (R87, R88, R99, R109).  A
refused ZOOM TO restores the target it found, also when the notice of FAULT (R93) came in between (DESIGN CHOICE, log
entry 68). -/
def targetAnswered (r : Requester) (p : Nat) (purpose : RequestPurpose) (taken : Bool) (s : State) : State :=
  match purpose, taken with
  | .zoomTo _ clamped, true => if clamped then complete .clamped p s else completeDone s
  | .zoomTo before _, false => refuse .notReady (s.onZoom (fun z => { z with target := before }))
  | .camCommit, false => s.onZoom (fun z => { z with target := none })
  | .moveFocus c clamped, true => moveFocusTaken c clamped s
  | .moveFocus _ _, false => refuse .notReady (s.onFocus (fun f => { f with moveMark := false }))
  | .plain, false => if r = .focus then s.onFocus (fun f => { f with moveMark := false }) else s
  | _, _ => s

/-- The zoom target after a stop request that was taken (R89): as it stood for an IDLE motor. -/
def stoppedTarget (l : LensDrive) (before : Option Nat) : Option Nat :=
  match l.zoom.state with
  | .idle => before
  | .running => some (restingPosition l .zoom)
  | _ => some l.zoom.position

/-- The requester takes the Lens Drive's answer to a stop request (R89); `target` is the zoom target it leaves. -/
def stopAnswered (purpose : RequestPurpose) (target : Option Nat) (taken : Bool) (s : State) : State :=
  match purpose, taken with
  | .zoomStop, true => completeDone (s.onZoom (fun z => { z with target := target }))
  | .zoomStop, false => refuse .notReady s
  | _, _ => s

/-- A target request is taken or refused (R70), and answered. -/
def targetRequest (r : Requester) (m : Motor) (p : Nat) (purpose : RequestPurpose) (s : State) : State :=
  if lensReady s then targetAnswered r p purpose true (takeTarget m (min p (motorTop m)) r s)
  else targetAnswered r p purpose false s

/-- A stop request is taken or refused (R70), and answered. -/
def stopRequest (m : Motor) (purpose : RequestPurpose) (s : State) : State :=
  if lensReady s then stopAnswered purpose (stoppedTarget s.lens s.zoom.target) true (takeStop m s)
  else stopAnswered purpose none false s

/-- TARGET_REQUEST (R70): the oldest waiting request of the requester is a target request. -/
def execTargetRequest (r : Requester) (s : State) : Host.Outcome State Fault Refusal :=
  match s.lens.channel r with
  | .target m p purpose :: _ => finish s (targetRequest r m p purpose (s.onLens (popChannel r)))
  | _ => notDue s

/-- STOP_REQUEST (R70): the oldest waiting request of the requester is a stop request. -/
def execStopRequest (r : Requester) (s : State) : Host.Outcome State Fault Refusal :=
  match s.lens.channel r with
  | .stop m purpose :: _ => finish s (stopRequest m purpose (s.onLens (popChannel r)))
  | _ => notDue s

end Sys2Proof.Machine
end

