-- ==== Sys2Proof/Machine/Reports.lean ====
section
/-!
DEFINITION. The Report Unit (chapter 11) and the writes the part issues to memory: slot record images (R17), the Status
Block (R169) and reports (R163 to R167); the report head and mask (R164, R168), and the resynchronisation of a SOFT RESET
(R170).
-/
namespace Sys2Proof.Machine

/-- The own-traffic queue has a free place (R147). -/
def ownRoom (s : State) : Bool := decide (s.link.ownQueue.length < Config.ownPlaces)

/-- An own request enters the own-traffic queue (R147). -/
def pushOwn (o : OwnRequest) (s : State) : State := { s with link := { s.link with ownQueue := s.link.ownQueue ++ [o] } }

/-- The control region base of the part (R149). -/
def controlBase (s : State) : Nat := regionBase s.link.strap

/-! ## Slot record images (R17) -/

/-- The image write of slot `i`, carrying the record as it stands (R17). -/
def imageRequest (s : State) (i : Nat) : OwnRequest :=
  { purpose := .image i, addr := controlBase s + Config.imageOffset + i * Config.imageBytes, words := 8,
    data := imageWords s i }

/-- SLOT_IMAGE_WRITE (R17): the image write that waits longest enters the queue when a place is free. -/
def execSlotImageWrite (s : State) : Host.Outcome State Fault Refusal :=
  match ownRoom s, s.slots.imageWaiting with
  | true, i :: rest =>
    finish s (pushOwn (imageRequest s i) { s with slots := { s.slots with imageWaiting := rest } })
  | _, _ => notDue s

/-! ## The Status Block (R169) -/

/-- No issuer with a higher claim on a queue place waits (R147). -/
def reportTurn (s : State) : Bool := ownRoom s && s.slots.imageWaiting.isEmpty && s.command.waitingReads.isEmpty

/-- A Status Block write may enter: the first one after a power-on reset goes before the Command Unit's reads, as the
part's first own request (R149; DEDUCED, log entry 41). -/
def statusTurn (s : State) : Bool :=
  ownRoom s && s.slots.imageWaiting.isEmpty && (s.report.statusFirst || s.command.waitingReads.isEmpty)

/-- The Status Block write with the values as they stand (R169). -/
def statusRequest (s : State) : OwnRequest :=
  { purpose := .status, addr := controlBase s + Config.statusOffset, words := 16, data := statusWords s }

/-- STATUS_BLOCK_WRITE (R169): a waiting write enters the queue once the previous one has been forwarded. -/
def execStatusBlockWrite (s : State) : Host.Outcome State Fault Refusal :=
  if s.report.statusWaiting && !s.report.statusQueued && statusTurn s then
    finish s (pushOwn (statusRequest s)
      { s with report := { s.report with statusWaiting := false, statusQueued := true, statusFirst := false } })
  else notDue s

/-! ## Reports (R163 to R167) -/

/-- A waiting report is eligible (R165, R166). -/
def eligible (highWater : Bool) (r : Report) : Bool :=
  match r with
  | .exposureSet .. | .pathFault .. | .eventsLost => !highWater
  | _ => true

/-- The oldest eligible waiting report with the waiting order without it (R165). -/
def takeEligible (highWater : Bool) : List Report → Option (Report × List Report)
  | [] => none
  | r :: l =>
    if eligible highWater r then some (r, l)
    else (takeEligible highWater l).map (fun x => (x.1, r :: x.2))

/-- The address of the ring entry of a count (R163). -/
def ringAddress (s : State) (count : BitVec 16) : Nat :=
  controlBase s + Config.reportRingOffset + count.toNat % Config.reportEntries * 32

/-- The write of a report placed at the present write count (R163). -/
def reportRequest (s : State) (r : Report) : OwnRequest :=
  { purpose := .report (some s.report.writeCount), addr := ringAddress s s.report.writeCount, words := 2,
    data := reportWords s.report.lost s.report.writeCount r }

/-- The Report Unit after a report of class `c` has been placed (R163, R164). -/
def placed (c : ReportClass) (r : ReportUnit) : ReportUnit :=
  evalHighWater { r with entries := r.entries ++ [{ cls := c, forwarded := false }], writeCount := r.writeCount + 1 }

/-- EVENTS LOST has been written: the counters are 0 and the lost mark is clear (R167). -/
def clearLost (r : ReportUnit) : ReportUnit :=
  { r with lost := { frame := 0, focus := 0, lens := 0, capture := 0 }, lostMark := false }

/-- A report whose turn it is: a FRAME SUMMARY under high water is shed, any other is placed and its write enters the
queue (R163, R165 to R167).  `rest` is the waiting order without it. -/
def writeReport (r : Report) (rest : List Report) (s : State) : State :=
  let s' := s.onReport (fun u => { u with waiting := rest })
  match r, s.report.highWater with
  | .frameSummary .., true => s'.onReport (loseReport .frame)
  | .eventsLost, _ => (pushOwn (reportRequest s r) s').onReport (fun u => placed r.cls (clearLost u))
  | _, _ => (pushOwn (reportRequest s r) s').onReport (placed r.cls)

/-- A report may be placed: the ring has room, and no write with a higher claim waits (R147, R163, R169). -/
def reportDue (s : State) : Bool :=
  decide (usedCount s.report < Config.reportEntries) && reportTurn s && !s.report.statusWaiting

/-- REPORT_WRITE (R165): one report is placed, or one FRAME SUMMARY shed (DEDUCED, log entry 30). -/
def execReportWrite (s : State) : Host.Outcome State Fault Refusal :=
  match reportDue s, takeEligible s.report.highWater s.report.waiting with
  | true, some (r, rest) => finish s (writeReport r rest s)
  | _, _ => notDue s

/-! ## Forwarded notices (R147, R163, R168) -/

/-- The forwarded mark of the entry of ring count `count` is set, and the attention line is evaluated (R163, R168).  A notice
for an entry that the head has consumed changes nothing. -/
def markForwarded (count : BitVec 16) (r : ReportUnit) : ReportUnit :=
  let i := (count - r.headCopy).toNat
  if i < r.entries.length then
    evalAttention { r with entries := updAt (fun e => { e with forwarded := true }) r.entries i }
  else r

/-- An own write has been forwarded downstream (R147). -/
def writeForwarded (p : OwnPurpose) (r : ReportUnit) : ReportUnit :=
  match p with
  | .report (some count) => markForwarded count r
  | .status => { r with statusQueued := false }
  | _ => r

/-! ## The report head and the mask (R164, R168) -/

/-- A report head handed over (R164); `addr` is the host address of the Control Block write. -/
def takeHead (h : BitVec 16) (addr : Nat) (s : State) : State :=
  if h = s.report.headCopy then s
  else if (s.report.writeCount - h).toNat ≤ usedCount s.report then
    s.onReport (fun r => evalAttention (evalHighWater
      { r with headCopy := h, entries := r.entries.drop (h - r.headCopy).toNat }))
  else raiseFault .badReportHead addr s

/-- An attention mask handed over (R168). -/
def takeMask (m : BitVec 8) (s : State) : State := s.onReport (fun r => evalAttention { r with mask := m })

/-! ## Resynchronisation (R161, R170) -/

/-- The Report Unit's part of the resynchronisation, before the SOFT RESET completion is given (R170). -/
def resyncReports (r : ReportUnit) : ReportUnit :=
  evalAttention { clearLost r with writeCount := r.headCopy, entries := [], highWater := false,
                                   waiting := r.waiting.filter Report.isCompletion, statusWaiting := true }

/-- A report write that is in the queue at a resynchronisation: its forwarded notice will be ignored (R170; DEDUCED, log
entry 35). -/
def orphanReport (o : OwnRequest) : OwnRequest :=
  match o.purpose with
  | .report _ => { o with purpose := .report none }
  | _ => o

end Sys2Proof.Machine
end

