-- ==== Sys2Proof/Machine/Exposure.lean ====
section
/-!
DEFINITION. The Exposure Controller (chapter 3): the applied set of a frame, metering, the loop, the program line, the
issue of a set, the scene reference, and the four exposure commands.
-/
namespace Sys2Proof.Machine

/-! ## Frame start (R45) -/

/-- The lens values are read; with the lens READY they are copied into the held lens values (R53, R86). -/
def copyHeld (s : State) : State := { s with exposure := { s.exposure with held := lensValues s } }

/-- The entry of the history tagged `n - k` (R45). -/
def historyEntry (s : State) (n : BitVec 32) : Option ExposureSet :=
  s.exposure.history.find? (fun e => e.tag == some (n - BitVec.ofNat 32 s.command.config.latency))

/-- The applied set of frame `n` and its issue frame, `none` for "initial" (R45). -/
def appliedSet (s : State) (n : BitVec 32) : ExposureSet × Option (BitVec 32) :=
  match historyEntry s n with
  | some e => (e, some (n - BitVec.ofNat 32 s.command.config.latency))
  | none => (initialSet s, none)

/-- The controller latches its inputs for frame `n` with the applied set (R45). -/
def latchExposure (n : BitVec 32) (s : State) : State :=
  let a := (appliedSet s n).1
  let s := if (historyEntry s n).isNone then copyHeld s else s
  { s with exposure := { s.exposure with
      latches := s.exposure.latches ++
        [{ frame := n, params := s.exposure.params, program := s.exposure.program, steady := s.steady.enable, applied := a }] } }

/-- The latches of frame `n` are discarded (R45, R46). -/
def dropExposureLatch (n : BitVec 32) (e : ExposureController) : ExposureController :=
  { e with latches := e.latches.filter (fun l => l.frame != n) }

/-! ## Metering (R47 to R50) -/

/-- The highlight bias B_h (R47). -/
def highlightBias (h hLim : Nat) : Nat := if hLim < h then min 64 (2 * (h - hLim)) else 0

/-- The meter reading E_meas (R47). -/
def meterReading (p : ExposureParams) (r : StatRecord) : Int :=
  (logL r.y : Int) - logL p.target - p.compensation + highlightBias r.h p.hLim

/-- The skip reason of the validity chain (R48). -/
def skipReason (torn irisMoving aeHold : Bool) (mode : ExposureMode) : SkipReason :=
  if torn then .torn
  else if irisMoving then .irisMoving
  else if aeHold then .focusHold
  else
    match mode with
    | .program => .stepped
    | .manual => .manual
    | .locked => .locked

/-- The loop step for a corrected error `e` (R49). -/
def loopStep (p : ExposureParams) (e : Int) : Int :=
  if e.natAbs ≤ p.deadBand then 0 else clampInt (-(p.stepMax : Int)) p.stepMax (-(Int.tdiv (e * p.gain) 16))

/-- What the first step of the completion work forms for a frame (R46 to R49). -/
structure Reading where
  eMeas : Option Int
  e : Option Int
  skip : SkipReason
  measured : Bool
  step : Int
  xIss : Int
  deriving DecidableEq, Repr

/-- The meter reading, the corrected error, the skip reason and the step of a frame (R46 to R49). -/
def readFrame (s : State) (l : ExposureLatch) (a : Announcement) (r : StatRecord) : Reading :=
  let xIss := (standingSet l.program s).xl
  let em := if r.valid then some (meterReading l.params r) else none
  let e := em.map (fun m => m + (xIss - l.applied.xl))
  let skip := skipReason a.torn a.moving.iris s.focus.aeHold l.params.mode
  { eMeas := em, e := e, skip := skip, measured := !a.torn && !a.moving.iris, xIss := xIss,
    step := match skip, e with
      | .stepped, some e => loopStep l.params e
      | _, _ => 0 }

/-- SETTLED and the settle run after a measured frame with corrected error `e` (R50). -/
def updateSettled (e : Int) (c : ExposureController) : ExposureController :=
  if c.settled then
    if 12 < e.natAbs then { c with settled := false, settleRun := 0 } else c
  else if e.natAbs ≤ 4 then
    if c.settleRun + 1 = 2 then { c with settled := true, settleRun := 0 } else { c with settleRun := c.settleRun + 1 }
  else { c with settleRun := 0 }

/-- A notice to the Focus Controller. -/
def tellFocusExposure (n : FocusExposureNotice) (s : State) : State :=
  { s with focus := { s.focus with fromExposure := s.focus.fromExposure ++ [n] } }

/-- The scene reference run at a measured frame with luma `y` (R51). -/
def updateScene (n : BitVec 32) (y : Nat) (s : State) : State :=
  let c := s.exposure.scene
  if c.valid then
    if 48 < natDist (logL y) c.level then
      if c.run + 1 = 3 then
        tellFocusExposure (.sceneChanged n)
          { s with exposure := { s.exposure with scene := { c with valid := false, run := 0 } } }
      else { s with exposure := { s.exposure with scene := { c with run := c.run + 1 } } }
    else { s with exposure := { s.exposure with scene := { c with run := 0 } } }
  else s

/-- Step 2 of the completion work: settle run, SETTLED and the scene reference run, at a measured frame (R46). -/
def measuredUpdates (n : BitVec 32) (y : Nat) (rd : Reading) (s : State) : State :=
  if rd.measured then
    let s := { s with exposure := updateSettled (rd.e.getD 0) s.exposure }
    updateScene n y s
  else s

/-- The exposure alarm of a frame (R52). -/
def alarmOf (rd : Reading) : Alarm :=
  if rd.measured then (if 96 < (rd.e.getD 0).natAbs then .far else .near) else .unmeasured

/-! ## The program line (R53 to R57) -/

/-- The handheld limit TL_hand (R53). -/
def handheldLimit (p : ProgramTable) (steady : Bool) (focal : Nat) : Nat :=
  let fEq := max 1 (focal * p.crop / 160)
  clampNat p.tlMin p.tlMax (logL (1000000 / fEq) + if steady then p.credit else 0)

/-- The while-step of R54: the iris closes until TL reaches TL_min or the last stop is reached, at most `fuel` times.
The result is the stop and AL. -/
def closeIris (target : Int) (tlMin stepAl last : Nat) : Nat → Nat → Nat → Nat × Nat
  | 0, st, al => (st, al)
  | fuel + 1, st, al =>
    if target + al < tlMin ∧ st < last then closeIris target tlMin stepAl last fuel (st + 1) (al + stepAl) else (st, al)

/-- The iris stop and AL the program line starts the time from (R54, R57): the standing set's stop with the lens not
READY, the while-step's otherwise. -/
def irisPart (p : ProgramTable) (v : LensValues) (held : Bool) (standingStop : Nat) (target : Int) : Nat × Nat :=
  if held then
    let st := min standingStop (v.stops - 1)
    (st, v.alOpen + st * v.stepAl)
  else closeIris target p.tlMin v.stepAl (v.stops - 1) v.stops 0 v.alOpen

/-- TL and GL after the gain part (R55), with LIGHT_LOW. -/
def gainPart (p : ProgramTable) (hand tl : Nat) : Nat × Nat × Bool :=
  let gl := tl - hand
  let tl := min tl hand
  let tl' := tl + (gl - p.glMax)
  if p.tlMax < tl' then (p.tlMax, min gl p.glMax, true) else (tl', min gl p.glMax, false)

/-- TL, GL, the shutter time, the quantised period and FLICKER_EXPOSED after the flicker part (R56). -/
def flickerPart (p : ProgramTable) (period : Period) (tl gl : Nat) : Nat × Nat × Nat × Period × Bool :=
  if period = .off then (tl, gl, antilog tl, .off, false)
  else if antilog tl < periodUs period then (tl, gl, antilog tl, .off, true)
  else
    let tq := periodUs period * (antilog tl / periodUs period)
    let tl' := logL tq
    if tl' < p.tlMin then (tl, gl, antilog tl, .off, true)
    else (tl', min (gl + (tl - tl')) p.glMax, tq, period, false)

/-- The set of the program line for the exposure target X* (R53 to R57). -/
def programSet (s : State) (l : ExposureLatch) (period : Period) (target : Int) (n : BitVec 32) : ExposureSet :=
  let p := l.program
  let v := lensValues s
  let held := !lensReady s
  let st := irisPart p v held (standingSet p s).irisStop target
  let high := decide (target + st.2 < p.tlMin)
  let tl0 := if high then p.tlMin else (target + st.2).toNat
  let g := gainPart p (handheldLimit p l.steady v.focal) tl0
  let f := flickerPart p period g.1 g.2.1
  { tl := f.1, gl := f.2.1, al := st.2, xl := (f.1 : Int) + f.2.1 - st.2, shutter := f.2.2.1, gainCode := gainCodeOf f.2.1,
    irisStop := st.1, quantised := f.2.2.2.1, flickerExposed := f.2.2.2.2, lightHigh := high, lightLow := g.2.2,
    lensHeld := held, source := .program, tag := some n }

/-- The manual set (R64). -/
def manualSet (s : State) (l : ExposureLatch) (period : Period) (n : BitVec 32) : ExposureSet :=
  let p := l.program
  let v := lensValues s
  let held := !lensReady s
  let rawTl := logL l.params.manualShutter
  let tl := clampNat p.tlMin p.tlMax rawTl
  let shutter := if tl = rawTl then l.params.manualShutter else antilog tl
  let rawGl := gainLevelOf l.params.manualGain
  let gl := (clampInt 0 p.glMax rawGl).toNat
  let code := if (gl : Int) = rawGl then l.params.manualGain else gainCodeOf gl
  let st := min (if held then (standingSet p s).irisStop else l.params.manualIris) (v.stops - 1)
  let al := v.alOpen + st * v.stepAl
  { tl := tl, gl := gl, al := al, xl := (tl : Int) + gl - al, shutter := shutter, gainCode := code, irisStop := st,
    quantised := .off, flickerExposed := decide (period ≠ .off) && decide (shutter < periodUs period), lightHigh := false,
    lightLow := false, lensHeld := held, source := .manual, tag := some n }

/-! ## Issuing a set (R58 to R60) -/

/-- A copy of the standing set (R58). -/
def heldCopy (p : ProgramTable) (s : State) (n : BitVec 32) : ExposureSet :=
  { standingSet p s with source := .held, tag := some n }

/-- The set the completion work of frame `n` issues (R58). -/
def issuedSet (s : State) (l : ExposureLatch) (period : Period) (rd : Reading) (n : BitVec 32) : ExposureSet :=
  if s.focus.aeHold then heldCopy l.program s n
  else
    match l.params.mode with
    | .program => programSet s l period (rd.xIss + rd.step) n
    | .manual => manualSet s l period n
    | .locked => heldCopy l.program s n

/-- The history with a set added at its newest end (R44). -/
def pushHistory (h : List ExposureSet) (e : ExposureSet) : List ExposureSet :=
  (h ++ [e]).drop ((h.length + 1) - Config.historyPlaces)

/-- The changed mark's comparison of two sets (R60). -/
def setChanged (a b : ExposureSet) : Bool :=
  a.tl != b.tl || a.gl != b.gl || a.al != b.al || a.irisStop != b.irisStop || a.shutter != b.shutter ||
  a.gainCode != b.gainCode || a.quantised != b.quantised

/-- An IRIS request is called for (R59). -/
def irisWanted (s : State) (issued standing : ExposureSet) : Bool :=
  issued.source != .held && lensReady s && (issued.irisStop != standing.irisStop || s.exposure.firstIssue)

/-- Steps 4 and 5 of the completion work: the set is pushed and the IRIS request sent (R58, R59).  A set that is no copy was
computed from the lens values, which are copied (R53, R64); the AL_open that a HELD copy of the initial set reads was copied
as the work was taken (`readStanding`). -/
def issue (issued standing : ExposureSet) (s : State) : State :=
  let want := irisWanted s issued standing
  let s := if issued.source = .held then s else copyHeld s
  let s := { s with exposure := { s.exposure with history := pushHistory s.exposure.history issued,
                                                  lightHigh := issued.lightHigh, lightLow := issued.lightLow,
                                                  firstIssue := s.exposure.firstIssue && !want } }
  if want then
    { s with lens := { s.lens with
        fromExposure := s.lens.fromExposure ++ [.target .iris (8 * issued.irisStop) .plain] } }
  else s

/-- Step 6: the metering outcome goes to the frame record (R46, R48). -/
def supplyMetering (n : BitVec 32) (r : StatRecord) (rd : Reading) (s : State) : State :=
  supplyFields n (fun f => { f with metering := some { y := r.y, eMeas := rd.eMeas.getD 0, skip := rd.skip } }) s

/-- Step 7: the issued set is reported, and the Status Block's exposure fields are refreshed (R60; kept
until the next issue: DESIGN CHOICE, log entry 31).  A torn frame clears meter_present and shows its skip reason TORN, where
R171 writes 0 to an optional field whose mark is clear: the skip reason is taken as no such field (DESIGN CHOICE, log entry
78). -/
def reportIssue (issued : ExposureSet) (changed : Bool) (mode : ExposureMode) (r : StatRecord) (rd : Reading) (s : State) :
    State :=
  let rep : ExposureReport :=
    { set := issued, skip := rd.skip, meter := rd.eMeas.bind (fun m => rd.e.map (fun e => (m, e))), step := rd.step,
      settled := s.exposure.settled, changed := changed }
  { s with report := { s.report with waiting := mergeExposure rep s.report.waiting },
           exposure := { s.exposure with
             shown := { y := r.y, eMeas := rd.eMeas.getD 0, skip := rd.skip, present := rd.eMeas.isSome, mode := mode } } }

/-- The whole completion work of a frame in VIEW (R46). -/
def exposureViewWork (l : ExposureLatch) (a : Announcement) (r : StatRecord) (s : State) : State :=
  let n := a.frame
  let rd := readFrame s l a r
  let s := measuredUpdates n r.y rd s
  let s := tellFocusExposure (.alarm (alarmOf rd) n) s
  let standing := standingSet l.program s
  let issued := issuedSet s l r.activePeriod rd n
  let changed := s.exposure.firstIssue || setChanged issued standing
  let s := issue issued standing s
  let s := supplyMetering n r rd s
  reportIssue issued changed l.params.mode r rd s

/-- The completion work reads the standing set, for X_iss and for a HELD copy (R49, R58).  While the history is empty that is
a read of AL_open, so the lens values are copied into the held ones (R40, R53, R58, R86; DEDUCED, log entry 50). -/
def readStanding (s : State) : State := if s.exposure.history.isEmpty then copyHeld s else s

/-- The completion work of a frame, by the operating mode when it is taken (R46), also of an earlier VIEW period's frame after
VIEW has been entered again (DESIGN CHOICE, log entry 76); the frame's latches are discarded. -/
def exposureWork (l : ExposureLatch) (a : Announcement) (r : StatRecord) (s : State) : State :=
  let s := readStanding s
  let s := match s.command.mode with
    | .view => exposureViewWork l a r s
    | .standby => supplyMetering a.frame r (readFrame s l a r) s
  { s with exposure := dropExposureLatch a.frame s.exposure }

/-- The oldest completed frame whose work is outstanding is taken, when its statistics record is held (R46). -/
def takeExposureWork (s : State) : Option State :=
  match s.exposure.work with
  | ⟨a, some r⟩ :: rest =>
    let s := { s with exposure := { s.exposure with work := rest } }
    match s.exposure.latches.find? (fun l => l.frame == a.frame) with
    | some l => some (exposureWork l a r s)
    | none => some s
  | _ => none

/-- EXPOSURE_COMPLETION_WORK (R46). -/
def execExposureCompletionWork (s : State) : Host.Outcome State Fault Refusal := finishIf s (takeExposureWork s)

/-! ## The scene reference (R51) -/

/-- TAKE_REFERENCE (R51): the oldest waiting request is a take-reference. -/
def execTakeReference (s : State) : Host.Outcome State Fault Refusal :=
  match s.exposure.messages with
  | .take _ y :: rest =>
    finish s { s with exposure := { s.exposure with messages := rest, scene := { valid := true, level := logL y, run := 0 } } }
  | _ => notDue s

/-- DROP_REFERENCE (R51): the oldest waiting request is a drop-reference. -/
def execDropReference (s : State) : Host.Outcome State Fault Refusal :=
  match s.exposure.messages with
  | .drop :: rest =>
    finish s { s with exposure := { s.exposure with messages := rest,
                                                    scene := { s.exposure.scene with valid := false, run := 0 } } }
  | _ => notDue s

/-! ## Resets (R65) -/

/-- SOFT RESET of the controller (R65). -/
def softResetExposure (c : ExposureController) : ExposureController :=
  { c with history := [], firstIssue := true, latches := [], work := [], messages := [], settled := false,
           lightHigh := false, lightLow := false, settleRun := 0, scene := { c.scene with valid := false, run := 0 } }

/-- Entering VIEW (R65): the scene reference is invalid, its level and run stay (DEDUCED, log entry 36). -/
def enterViewExposure (s : State) : State :=
  let s := copyHeld s
  { s with exposure := { s.exposure with history := [], firstIssue := true, settled := false, settleRun := 0,
                                         scene := { s.exposure.scene with valid := false } } }

/-! ## Commands (R61 to R64) -/

/-- The state with `f` applied to the parameter record. -/
def onParams (f : ExposureParams → ExposureParams) (s : State) : State :=
  { s with exposure := { s.exposure with params := f s.exposure.params } }

/-- SET METERING's work (R61). -/
def setMeteringWork (target hLim deadBand gain stepMax pattern : Nat) (s : State) : State :=
  if 1 ≤ target && target ≤ 16380 && hLim ≤ 256 && deadBand ≤ 16 && 1 ≤ gain && gain ≤ 16 && 1 ≤ stepMax &&
      stepMax ≤ 64 && pattern ≤ 3 then
    completeDone (onParams (fun p => { p with target := target, hLim := hLim, deadBand := deadBand, gain := gain,
                                              stepMax := stepMax, pattern := pattern }) s)
  else refuse .badParameter s

/-- SET_METERING (R61). -/
def execSetMetering (tag target hLim : BitVec 16) (deadBand loopGain stepMax pattern : BitVec 8) (s : State) :
    Host.Outcome State Fault Refusal :=
  runCommand codeSetMetering tag
    (setMeteringWork target.toNat hLim.toNat deadBand.toNat loopGain.toNat stepMax.toNat pattern.toNat) s

/-- The exposure mode of a code; none for any other value (R63). -/
def exposureModeOf (code : Nat) : Option ExposureMode :=
  match code with
  | 0 => some .program
  | 1 => some .manual
  | 2 => some .locked
  | _ => none

/-- SET EXPOSURE MODE's work (R63). -/
def setExposureModeWork (mode : Nat) (s : State) : State :=
  match exposureModeOf mode with
  | some m => completeDone (onParams (fun p => { p with mode := m }) s)
  | none => refuse .badParameter s

/-- SET_EXPOSURE_MODE (R63). -/
def execSetExposureMode (tag : BitVec 16) (mode : BitVec 8) (s : State) : Host.Outcome State Fault Refusal :=
  runCommand codeSetExposureMode tag (setExposureModeWork mode.toNat) s

/-- SET COMPENSATION's work (R62). -/
def setCompensationWork (v : Int) (s : State) : State :=
  let c := clampInt (-96) 96 v
  let s := onParams (fun p => { p with compensation := c }) s
  if c = v then completeDone s else complete .clamped c s

/-- SET_COMPENSATION (R62). -/
def execSetCompensation (tag compensation : BitVec 16) (s : State) : Host.Outcome State Fault Refusal :=
  runCommand codeSetCompensation tag (setCompensationWork compensation.toInt) s

/-- One of the manual values would be clamped against the PROGRAM table and the stop count in force (R64, R86);
DEDUCED, log entry 37. -/
def manualClamps (shutter gain iris : Nat) (s : State) : Bool :=
  let p := s.exposure.program
  let stops := (s.zoom.derived.map (·.stops)).getD 1
  clampNat p.tlMin p.tlMax (logL shutter) != logL shutter || clampInt 0 p.glMax (gainLevelOf gain) != gainLevelOf gain ||
  stops - 1 < iris

/-- SET MANUAL EXPOSURE's work (R64). -/
def setManualExposureWork (shutter : BitVec 32) (gain : BitVec 16) (iris : BitVec 8) (s : State) : State :=
  let clamps := manualClamps shutter.toNat gain.toNat iris.toNat s
  let s := onParams (fun p => { p with manualShutter := shutter.toNat, manualGain := gain.toNat,
                                       manualIris := iris.toNat }) s
  if clamps then complete .clamped (Config.manualValueWritten shutter gain iris).toInt s else completeDone s

/-- SET_MANUAL_EXPOSURE (R64). -/
def execSetManualExposure (tag : BitVec 16) (shutter : BitVec 32) (gainCode : BitVec 16) (irisStop : BitVec 8)
    (s : State) : Host.Outcome State Fault Refusal :=
  runCommand codeSetManualExposure tag (setManualExposureWork shutter gainCode irisStop) s

end Sys2Proof.Machine
end

