-- ==== Sys2Proof/Machine/Steady.lean ====
section
/-!
DEFINITION. The Steady Controller (chapter 7): the motion estimate, the crop offset, the view pass, the view source, and
SET STEADY, RECENTER STEADY and SET VIEW SOURCE.
-/
namespace Sys2Proof.Machine

/-- The state with `f` applied to the Steady Controller. -/
def State.onSteady (s : State) (f : SteadyController → SteadyController) : State := { s with steady := f s.steady }

/-! ## Frame start (R115) -/

/-- The latch of frame `n` with the XL of its applied set (R115). -/
def latchSteady (n : BitVec 32) (xl : Int) (c : SteadyController) : SteadyController :=
  { c with latches := c.latches ++ [{ frame := n, enable := c.enable, range := c.range, leak := c.leak,
                                      qualityMin := c.qualityMin, xl := xl }] }

/-- The latch of frame `n` is discarded (R115). -/
def dropSteadyLatch (n : BitVec 32) (c : SteadyController) : SteadyController :=
  { c with latches := c.latches.filter (fun l => l.frame != n) }

/-! ## Motion (R116) -/

/-- A profile with its integer mean removed (step 1 of R116). -/
def centred (p : List Nat) : List Int := p.map (fun (v : Nat) => (v : Int) - ((total p / p.length : Nat) : Int))

/-- SAD(s) of two centred profiles (step 2 of R116): the sum runs over the indices i with both i and i + s inside. -/
def sadOf (c r : List Int) (s : Int) : Nat :=
  let a := s.natAbs
  let pairs := if s < 0 then List.zip (c.drop a) r else List.zip c (r.drop a)
  1024 * total (pairs.map (fun x => (x.1 - x.2).natAbs)) / (c.length - a)

/-- The shifts 0, -1, 1, -2, 2, … up to ±`n`: the order in which equal SADs are preferred (step 3 of R116). -/
def shifts (n : Nat) : List Int := 0 :: (List.range n).flatMap (fun (k : Nat) => [-((k : Int) + 1), (k : Int) + 1])

/-- The first shift with the least SAD, from `best` on. -/
def leastSad : Int × Nat → List (Int × Nat) → Int × Nat
  | best, [] => best
  | best, x :: l => leastSad (if x.2 < best.2 then x else best) l

/-- The motion of one axis, its quality and its at-range mark (R116). -/
def axisMotion (range : Nat) (current reference : List Nat) : Int × Nat × Bool :=
  let c := centred current
  let r := centred reference
  let table := (shifts range).map (fun s => (s, sadOf c r s))
  let best := leastSad (getAt (0, 0) table 0) table
  let mean := total (table.map (·.2)) / (2 * range + 1)
  (-best.1, 256 * (mean - best.2) / (mean + 1), best.1.natAbs == range)

/-- What a frame's estimate gives: the motion used, the recorded quality and the hold reason (R116, R117). -/
structure Estimate where
  dx : Int
  dy : Int
  quality : Nat
  hold : HoldReason
  deriving DecidableEq, Repr

/-- A held frame: motion (0, 0) (R117). -/
def heldEstimate (why : HoldReason) (quality : Nat) : Estimate := { dx := 0, dy := 0, quality := quality, hold := why }

/-- The frame that passed tests 1 to 4 is matched, and test 5 applied (R116, R117). -/
def matchFrame (l : SteadyLatch) (current reference : Profiles) : Estimate :=
  let x := axisMotion l.range current.cols reference.cols
  let y := axisMotion l.range current.rows reference.rows
  let q := min x.2.1 y.2.1
  if q < l.qualityMin then heldEstimate .lowQuality q
  else { dx := x.1, dy := y.1, quality := q, hold := if x.2.2 || y.2.2 then .atRange else .noHold }

/-- The hold chain (R117). -/
def estimate (l : SteadyLatch) (a : Announcement) (r : StatRecord) (note : Option ReferenceNote) : Estimate :=
  if a.torn then heldEstimate .torn 0
  else
    match r.reference, note with
    | some reference, some n =>
      if a.moving.zoom || n.zoomMoving then heldEstimate .zoomMoving 0
      else if 16 < (l.xl - n.xl).natAbs then heldEstimate .exposureStep 0
      else matchFrame l r.current reference
    | _, _ => heldEstimate .noReference 0

/-! ## Offset (R118, R119) -/

/-- The leak an axis uses (R119). -/
def leakOf (leak : Nat) (x : AxisState) : Nat := if x.panning then min 128 (2 * leak) else leak

/-- Steps 1 and 2 of R118. -/
def leaked (d : Int) (leak : Nat) (x : AxisState) : Int :=
  let o := x.o16 + 16 * d
  o - Int.tdiv (o * leakOf leak x) 256

/-- The three steps of R118 with the clamp run and the panning mark of R119. -/
def advanceAxis (d : Int) (leak margin : Nat) (x : AxisState) : AxisState :=
  let o := leaked d leak x
  let o' := clampInt (-(16 * margin : Nat)) (16 * margin : Nat) o
  let run := if o' = o then 0 else satAdd 4 x.run 1
  let set := x.panning || run == 4
  { o16 := o', run := run, panning := set && !decide (o'.natAbs < 8 * margin) }

/-! ## Completion work (R115) -/

/-- The offset, and the steady fields of the frame record, of an estimated frame (R115, R118). -/
def steadyFrame (l : SteadyLatch) (a : Announcement) (r : StatRecord) (s : State) : State :=
  let e := estimate l a r s.steady.note
  let x := advanceAxis e.dx l.leak r.current.mx s.steady.axisX
  let y := advanceAxis e.dy l.leak r.current.my s.steady.axisY
  supplyFields a.frame
    (fun f => { f with steady := some { dx := e.dx, dy := e.dy, quality := e.quality, hold := e.hold,
                                        ox := roundOffset x.o16, oy := roundOffset y.o16 } })
    (s.onSteady (fun c => { c with axisX := x, axisY := y }))

/-- Both accumulators become 0 and the panning state is cleared. -/
def centreSteady (c : SteadyController) : SteadyController := { c with axisX := .reset, axisY := .reset }

/-- The reference note after the frame (R115), also of an earlier VIEW period's frame whose work is taken after VIEW has been
entered again (DESIGN CHOICE, log entry 76). -/
def updateNote (l : SteadyLatch) (a : Announcement) (c : SteadyController) : SteadyController :=
  if a.torn then c else { c with note := some { xl := l.xl, zoomMoving := a.moving.zoom } }

/-- The completion work of a frame, by the operating mode and the latched enable mark (R115). -/
def steadyWork (l : SteadyLatch) (a : Announcement) (r : StatRecord) (s : State) : State :=
  let s := match s.command.mode, l.enable with
    | .view, true => steadyFrame l a r s
    | .view, false => s.onSteady centreSteady
    | .standby, _ => s
  s.onSteady (fun c => dropSteadyLatch a.frame (updateNote l a c))

/-- The oldest frame whose work is outstanding is taken, when its statistics record is held (R115). -/
def takeSteadyWork (s : State) : Option State :=
  match s.steady.work with
  | ⟨a, some r⟩ :: rest =>
    let s := s.onSteady (fun c => { c with work := rest })
    match s.steady.latches.find? (fun l => l.frame == a.frame) with
    | some l => some (steadyWork l a r s)
    | none => some s
  | _ => none

/-- STEADY_COMPLETION_WORK (R115). -/
def execSteadyCompletionWork (s : State) : Host.Outcome State Fault Refusal := finishIf s (takeSteadyWork s)

/-! ## The view pass (R121 to R125) -/

/-- The pitch of the view in bytes (R114). -/
def PassGeometry.pitch (g : PassGeometry) : Nat := (g.width - 4 * g.mx) * 2

/-- The size of the view in bytes (R114). -/
def PassGeometry.size (g : PassGeometry) : Nat := g.pitch * (g.height - 4 * g.my)

/-- The geometry a pass would open with: the margins and the configuration as they stand (R122). -/
def presentGeometry (s : State) : PassGeometry :=
  { width := s.command.config.width, height := s.command.config.height, mx := s.steady.mx, my := s.steady.my,
    slotBase := 0, ox := 0, oy := 0 }

/-- The geometry a view read is judged by: the latched one in an open pass, the present one otherwise (R121). -/
def viewGeometry (s : State) : PassGeometry :=
  match s.steady.pass.status with
  | .closed => presentGeometry s
  | _ => s.steady.pass.geometry

/-- A slot can be shown: it is FILLED, HELD or KEPT and not slot 0 (R3, R122). -/
def showable (s : State) (i : Nat) : Bool :=
  i != 0 && decide (i < s.slots.table.length) &&
  match (slotAt s i).state with
  | .filled | .held | .kept => true
  | _ => false

/-- The newest COMPLETE frame among the showable slots (R122). -/
def liveSlot (s : State) : Option Nat :=
  ((List.range s.slots.table.length).filter (fun i => showable s i && (slotAt s i).record.outcome == .complete)).foldl
    (fun best i =>
      match best with
      | none => some i
      | some b =>
        if behind s.slots.seq (slotAt s i).recordFrame < behind s.slots.seq (slotAt s b).recordFrame then some i else some b)
    none

/-- The slot the view source resolves to (R122). -/
def resolveSource (s : State) : Option Nat :=
  match s.steady.source with
  | none => liveSlot s
  | some n => if showable s n then some n else none

/-- A pin request for slot `n`: the pin count rises by one, or the request is refused (R3). -/
def pinSlot (n : Nat) (s : State) : Option State :=
  if showable s n then some (s.onSlot n (fun e => { e with pins := e.pins + 1 })) else none

/-- An unpin request for slot `n`: without effect at 0 (R3). -/
def unpinSlot (n : Nat) (s : State) : State := s.onSlot n (fun e => { e with pins := e.pins - 1 })

/-- A message to the Slot Manager about pins. -/
def sendPin (m : PinMessage) (s : State) : State :=
  { s with slots := { s.slots with pinMessages := s.slots.pinMessages ++ [m] } }

/-- The offset a pass latches from the record of its slot (R122). -/
def latchedOffset (mx my : Nat) (r : FrameRecord) : Int × Int :=
  match r.steady with
  | some f => (clampInt (-(mx : Int)) mx f.ox, clampInt (-(my : Int)) my f.oy)
  | none => (0, 0)

/-- An open pass closes: an OPEN one sends the unpin of its slot (R125). -/
def closePass (s : State) : State :=
  let p := s.steady.pass
  match p.status with
  | .closed => s
  | _ =>
    let s := match p.pinned with
      | some n => sendPin (.unpin n) s
      | none => s
    s.onSteady (fun c => { c with pass := { c.pass with status := .closed, pinned := none, completions := 0 } })

/-- A pass opens with status `st` (R122). -/
def openPass (st : PassStatus) (pinned : Option Nat) (g : PassGeometry) (c : SteadyController) : SteadyController :=
  { c with pass := { status := st, pinned := pinned, geometry := g, completions := 0, leftLineZero := false,
                     number := c.pass.number + 1 } }

/-- A pass opens BLANK with VIEW_NO_FRAME; `addr` is the read's host address (R122).  Its geometry is the present one, with
base and offset 0 (DEDUCED, log entry 15). -/
def openBlank (addr : Nat) (s : State) : State :=
  raiseFault .viewNoFrame addr (s.onSteady (openPass .blank none (presentGeometry s)))

/-- The open chain from its second test on (R122); the geometry-valid mark is set. -/
def openChain (addr : Nat) (s : State) : State :=
  match resolveSource s with
  | some n =>
    match pinSlot n s with
    | some s' =>
      let o := latchedOffset s.steady.mx s.steady.my (slotAt s n).record
      s'.onSteady (openPass .opened (some n)
        { presentGeometry s with slotBase := slotBase s n, ox := o.1, oy := o.2 })
    | none => openBlank addr s
  | none => openBlank addr s

/-- The physical address of the view byte at offset `a` (R123). -/
def viewAddress (g : PassGeometry) (a : Nat) : Nat :=
  ((g.slotBase : Int) + ((a / g.pitch : Nat) + 2 * ((g.my : Int) + g.oy)) * (g.width * 2 : Nat)
    + (a % g.pitch : Nat) + 4 * ((g.mx : Int) + g.ox)).toNat

/-- The runs of view bytes from offset `a`, `n` bytes long: cut where the read crosses a view line (R123).  Each run
has its place in the piece, its physical address and its length. -/
def viewRuns (g : PassGeometry) (a n : Nat) : List (Nat × Nat × Nat) :=
  let first := min n (g.pitch - a % g.pitch)
  if first = n then [(0, viewAddress g a, n)]
  else [(0, viewAddress g a, first), (first, viewAddress g (a + first), n - first)]

/-- The counted completion of a frame in an open pass (R125). -/
def countCompletion (c : SteadyController) : SteadyController :=
  match c.pass.status with
  | .closed => c
  | _ => { c with pass := { c.pass with completions := satAdd Config.staleCompletions c.pass.completions 1 } }

/-- VIEW_STALE (R125).  The spec states no address for this fault, which no request causes: a free value. -/
def execViewStale (s : State) : Host.Outcome State Fault Refusal :=
  if s.steady.pass.status ≠ .closed ∧ s.steady.pass.completions = Config.staleCompletions then
    finish s (raiseFault .viewStale (Config.staleAddress s.steady.pass.number).toNat (closePass s))
  else notDue s

/-! ## SET STEADY and RECENTER STEADY (R114, R120) -/

/-- A margin rounded down to a multiple of 4 and clamped (R114); the clamped value need not be a multiple of 4 (DEDUCED, log
entry 38). -/
def marginOf (m quads : Nat) : Nat := min (m / 4 * 4) (quads / 8)

/-- SET STEADY's work (R114). -/
def setSteadyWork (enable : Bool) (range leak qualityMin marginX marginY : Nat) (s : State) : State :=
  if !s.command.valid then refuse .notReady s
  else if 1 ≤ range && range ≤ 48 && leak ≤ 64 && qualityMin ≤ 255 then
    let mx := marginOf marginX (s.command.config.width / 2)
    let my := marginOf marginY (s.command.config.height / 2)
    let s := s.onSteady (fun c => { c with enable := enable, mx := mx, my := my, range := range, leak := leak,
                                           qualityMin := qualityMin, geometryValid := true })
    if mx = marginX ∧ my = marginY then completeDone s else complete .clamped ((mx + 65536 * my : Nat) : Int) s
  else refuse .badParameter s

/-- SET_STEADY (R114). -/
def execSetSteady (tag : BitVec 16) (enable searchRange leak qualityMin : BitVec 8) (marginX marginY : BitVec 16)
    (s : State) : Host.Outcome State Fault Refusal :=
  runCommand codeSetSteady tag
    (setSteadyWork (decide (enable ≠ 0)) searchRange.toNat leak.toNat qualityMin.toNat marginX.toNat marginY.toNat) s

/-- RECENTER STEADY's work (R120). -/
def recenterSteadyWork (s : State) : State := completeDone (s.onSteady centreSteady)

/-- RECENTER_STEADY (R120). -/
def execRecenterSteady (tag : BitVec 16) (s : State) : Host.Outcome State Fault Refusal :=
  runCommand codeRecenterSteady tag recenterSteadyWork s

/-! ## SET VIEW SOURCE (R126) -/

/-- The unpin request for the review pin of the source, if the source is a slot (R126). -/
def unpinSource (s : State) : State :=
  match s.steady.source with
  | some old => sendPin (.unpin old) s
  | none => s

/-- The view source is replaced. -/
def setSource (x : Option Nat) (s : State) : State := s.onSteady (fun c => { c with source := x })

/-- SET VIEW SOURCE's work (R126, R172): for a new slot the completion follows the Slot Manager's answer to the pin. -/
def setViewSourceWork (n : Nat) (s : State) : State :=
  if n = 0xFF then completeDone (setSource none (unpinSource s))
  else if s.command.valid && showable s n then
    if s.steady.source = some n then completeDone s
    else sendPin (.reviewPin n) { s with command := { s.command with slotWanted := some n } }
  else refuse .badParameter s

/-- SET_VIEW_SOURCE (R126). -/
def execSetViewSource (tag : BitVec 16) (source : BitVec 8) (s : State) : Host.Outcome State Fault Refusal :=
  runCommand codeSetViewSource tag (setViewSourceWork source.toNat) s

/-- The Slot Manager has answered the review pin: the source changes and the command completes (R126). -/
def reviewAnswered (n : Nat) (answer : Option State) (s : State) : State :=
  let clear := fun (s : State) => { s with command := { s.command with slotWanted := none } }
  match answer with
  | some s' => completeDone (setSource (some n) (unpinSource (clear s')))
  | none => refuse .badParameter (clear s)

/-- A message about pins is taken by the Slot Manager (R3).  The answer to a review pin that no command waits for any
more is without effect. -/
def takePinMessage (m : PinMessage) (s : State) : State :=
  match m with
  | .unpin n => unpinSlot n s
  | .reviewPin n => if s.command.slotWanted = some n then reviewAnswered n (pinSlot n s) s else s

/-- The oldest message about pins leaves its queue. -/
def popPin (s : State) : State := { s with slots := { s.slots with pinMessages := s.slots.pinMessages.tail } }

/-- PIN_REQUEST (R3, R126): the oldest message is the review pin of SET VIEW SOURCE. -/
def execPinRequest (s : State) : Host.Outcome State Fault Refusal :=
  match s.slots.pinMessages with
  | .reviewPin n :: _ => finish s (takePinMessage (.reviewPin n) (popPin s))
  | _ => notDue s

/-- UNPIN_REQUEST (R3): the oldest message is an unpin. -/
def execUnpinRequest (s : State) : Host.Outcome State Fault Refusal :=
  match s.slots.pinMessages with
  | .unpin n :: _ => finish s (takePinMessage (.unpin n) (popPin s))
  | _ => notDue s

/-- The waiting messages about pins are taken, oldest first, at most `fuel` of them; the pin of a view pass, which is
answered within its step, comes behind them, so that a review pin of SET VIEW SOURCE that waits is answered, with its change
of the source and its completion, before the pass resolves the source (DESIGN CHOICE, log entry 14).  Each change of a slot is
noted where it is made (R17). -/
def flushPins : Nat → State → State
  | 0, s => s
  | fuel + 1, s =>
    match s.slots.pinMessages with
    | [] => s
    | m :: _ => flushPins fuel (noteImages s (takePinMessage m (popPin s)))

/-! ## Mode changes, configuration and SOFT RESET (R114, R128) -/

/-- Entering VIEW (R128). -/
def enterViewSteady (c : SteadyController) : SteadyController := { centreSteady c with note := none }

/-- A CONFIGURE FRAME that changes W or H (R114). -/
def clearGeometry (c : SteadyController) : SteadyController :=
  { centreSteady c with geometryValid := false, enable := false, mx := 0, my := 0 }

/-- SOFT RESET (R128): the unpins find counts of 0. -/
def softResetSteady (s : State) : State :=
  (setSource none (unpinSource (closePass s))).onSteady
    (fun c => { centreSteady c with latches := [], work := [], note := none })

end Sys2Proof.Machine
end

