-- ==== Sys2Proof/Machine/Slots.lean ====
section
/-!
DEFINITION. The Slot Manager (chapter 1): the requests of the Capture Unit, the fill choice, and the start, the
completion and the abandonment of a frame.
-/
namespace Sys2Proof.Machine

/-- The state with `f` applied to the Slot Manager. -/
def State.onSlots (s : State) (f : SlotManager → SlotManager) : State := { s with slots := f s.slots }

/-! ## Requests of the Capture Unit (R5, R6) -/

/-- The request names a slot other than 0 whose record frame is the named frame (R5). -/
def requestMatches (s : State) (r : SlotRequest) : Bool :=
  r.slot != 0 && decide (r.slot < s.slots.table.length) && (slotAt s r.slot).recordFrame == r.frame

/-- The Slot Manager's answer is given, and the request is gone. -/
def answerRequest (a : SlotAnswer) (s : State) : State :=
  s.onSlots (fun m => { m with captureRequest := none, captureAnswer := some a })

/-- A request that is carried out. -/
def carryOut (r : SlotRequest) (f : Slot → Slot) (s : State) : State := answerRequest .done (s.onSlot r.slot f)

/-- A hold request (R5): FILLED becomes HELD. -/
def holdSlot (r : SlotRequest) (s : State) : State :=
  if requestMatches s r && (slotAt s r.slot).state == .filled then carryOut r (fun e => { e with state := .held }) s
  else answerRequest .gone s

/-- An unhold request (R5): HELD becomes FILLED. -/
def unholdSlot (r : SlotRequest) (s : State) : State :=
  if requestMatches s r && (slotAt s r.slot).state == .held then carryOut r (fun e => { e with state := .filled }) s
  else answerRequest .gone s

/-- An entry that is kept, with the capture fields of the request (R5, R16). -/
def keptEntry (r : SlotRequest) (e : Slot) : Slot :=
  { e with state := .kept, record := { e.record with capture := some { id := r.captureId, index := r.index } } }

/-- A keep request (R5): HELD or FILLED becomes KEPT. -/
def keepSlot (r : SlotRequest) (s : State) : State :=
  if requestMatches s r && ((slotAt s r.slot).state == .filled || (slotAt s r.slot).state == .held) then
    carryOut r (keptEntry r) s
  else answerRequest .gone s

/-- An entry that becomes FREE with its data and record intact (R6, R19). -/
def freedEntry (e : Slot) : Slot := { e with state := .free, lastFrame := e.recordFrame, recordFrame := 0 }

/-- A release request (R5, R6): an unpinned KEPT slot becomes FREE. -/
def releaseSlot (r : SlotRequest) (s : State) : State :=
  if requestMatches s r && (slotAt s r.slot).state == .kept then
    if (slotAt s r.slot).pins = 0 then carryOut r freedEntry s else answerRequest .pinned s
  else answerRequest .gone s

/-- The waiting request, when it is of kind `k`. -/
def requestOf (k : SlotRequestKind) (s : State) : Option SlotRequest := s.slots.captureRequest.filter (fun r => r.kind == k)

/-- HOLD_REQUEST (R5). -/
def execHoldRequest (s : State) : Host.Outcome State Fault Refusal :=
  finishIf s ((requestOf .hold s).map (fun r => holdSlot r s))

/-- UNHOLD_REQUEST (R5). -/
def execUnholdRequest (s : State) : Host.Outcome State Fault Refusal :=
  finishIf s ((requestOf .unhold s).map (fun r => unholdSlot r s))

/-- KEEP_REQUEST (R5). -/
def execKeepRequest (s : State) : Host.Outcome State Fault Refusal :=
  finishIf s ((requestOf .keep s).map (fun r => keepSlot r s))

/-- RELEASE_REQUEST (R6). -/
def execReleaseRequest (s : State) : Host.Outcome State Fault Refusal :=
  finishIf s ((requestOf .release s).map (fun r => releaseSlot r s))

/-! ## The fill choice (R4) -/

/-- Test 1 of R4: the lowest-numbered FREE slot other than 0. -/
def freeSlot (table : List Slot) : Option Nat := findIndex (fun e => e.state == .free) (table.drop 1) 1

/-- Test 2 of R4: the FILLED unpinned slot with the oldest fill-order age, `n` being the present count. -/
def oldestFilled (n : BitVec 32) (table : List Slot) : Option Nat :=
  ((indexed (fun e => e.state == .filled && e.pins == 0) (table.drop 1) 1).foldl
    (fun best x =>
      match best with
      | none => some x
      | some b => if behind n b.2.fillAge < behind n x.2.fillAge then some x else some b)
    (none : Option (Nat × Slot))).map (·.1)

/-- The filling slot of frame `n` (R4). -/
def chooseFill (n : BitVec 32) (table : List Slot) : Nat :=
  match freeSlot table with
  | some i => i
  | none => (oldestFilled n table).getD 0

/-! ## Frame start (R8) -/

/-- The entry of the slot that starts to fill with frame `n` (R8, steps 2 to 5). -/
def fillingEntry (n : BitVec 32) (sample : LensSample) (applied : ExposureSet × Option (BitVec 32)) (e : Slot) : Slot :=
  { e with state := .filling, recordFrame := n, fillAge := n, lastFrame := 0,
           record := { FrameRecord.reset with frame := n, startSample := sample, applied := applied.1,
                                              issueFrame := applied.2 } }

/-- A frame starts at time `now` (R8), and the Exposure Controller, the Statistics Engine, the Steady Controller and the
Lens Drive act on the start (R45, R22, R115, R78). -/
def startFrame (now : Nat) (s : State) : State :=
  let n := s.slots.seq + 1
  let i := chooseFill n s.slots.table
  let applied := appliedSet s n
  let entry := fillingEntry n (lensSample s) applied
  let s := latchExposure n ((s.onSlot i entry).onSlots (fun m =>
    { m with seq := n, tracker := { inProgress := some (n, i), expected := 0, stored := 0, torn := false } }))
  { s with stats := startMeasuring n (statLatchOf s) s.stats, steady := latchSteady n applied.1.xl s.steady,
           lens := markFrameStart now s.lens }

/-! ## Completion (R13) -/

/-- The outcome of a frame in slot `i` (R13). -/
def outcomeOf (i : Nat) (torn : Bool) : FrameOutcome := if i = 0 then .spilled else if torn then .torn else .complete

/-- The completion announcement of frame `n` in slot `i` (R13). -/
def announcementOf (n : BitVec 32) (i : Nat) (s : State) : Announcement :=
  let start := (slotAt s i).record.startSample
  let sample := lensSample s
  { frame := n, slot := i, outcome := outcomeOf i s.slots.tracker.torn, torn := s.slots.tracker.torn,
    startSample := start, endSample := sample, moving := movedMarks s.lens,
    focusSettled := focusSettled s.lens start sample }

/-- The entry of the slot whose frame has completed (R13, steps 1 to 4). -/
def completedEntry (a : Announcement) (stored : Nat) (e : Slot) : Slot :=
  { e with state := if a.slot = 0 then .free else .filled, lastFrame := if a.slot = 0 then a.frame else e.lastFrame,
           record := { e.record with endSample := a.endSample, moving := a.moving, focusSettled := a.focusSettled,
                                     bytesStored := stored, torn := a.torn, outcome := a.outcome } }

/-- The announcement reaches its six takers (R13, step 6; R166, R125). -/
def announce (a : Announcement) (s : State) : State :=
  let item : WorkItem := { notice := a, stats := none }
  { s with stats := bufferMeasurement s.stats,
           exposure := { s.exposure with work := s.exposure.work ++ [item] },
           focus := { s.focus with work := s.focus.work ++ [item] },
           steady := countCompletion { s.steady with work := s.steady.work ++ [item] },
           capture := { s.capture with messages := s.capture.messages ++ [.completion a] },
           report := giveSummary (.frameSummary a.frame a.slot a.outcome a.torn) s.report }

/-- Frame `n` in slot `i` completes (R13). -/
def completeFrame (n : BitVec 32) (i : Nat) (s : State) : State :=
  let a := announcementOf n i s
  let s := s.onSlot i (completedEntry a s.slots.tracker.stored)
  announce a (s.onSlots (fun m => { m with tracker := { m.tracker with inProgress := none } }))

/-! ## Abandonment (R12, R19, R20, R37) -/

/-- The frame in progress, if any, is abandoned: its slot is FREE with a cleared record, and its statistics and latches
are discarded (R12). -/
def abandonFrame (s : State) : State :=
  match s.slots.tracker.inProgress with
  | some (n, i) =>
    let s := s.onSlot i (fun e => { e with state := .free, recordFrame := 0, lastFrame := 0, record := .reset })
    let s := s.onSlots (fun m => { m with tracker := { m.tracker with inProgress := none } })
    { s with stats := abandonMeasurement s.stats, exposure := dropExposureLatch n s.exposure,
             steady := dropSteadyLatch n s.steady }
  | none => s

/-! ## Capture aperture writes (R9 to R12) -/

/-- A request to memory made for the host request that is arriving (R142). -/
def sendDown (r : DownRequest) (s : State) : State := { s with link := { s.link with hostDown := s.link.hostDown ++ [r] } }

/-- The bytes-stored count after `n` more bytes (R7). -/
def addStored (stored n : Nat) : Nat :=
  if stored + n < 2 ^ 32 then stored + n else (Config.bytesStoredPastRange (stored + n)).toNat

/-- An out-of-order write tears the frame (R10, R23). -/
def tearFrame (addr : Nat) (s : State) : State :=
  raiseFault .captureOutOfOrder addr
    { s with slots := { s.slots with tracker := { s.slots.tracker with torn := true } }, stats := tearMeasurement s.stats }

/-- The part of a write below the frame size is stored in the filling slot `i` and measured (R9, R10). -/
def storeWords (i off : Nat) (data : List LinkWord) (s : State) : State :=
  let s := sendDown (.write (slotBase s i + off) data) s
  { s with stats := measure off data s.stats,
           slots := { s.slots with tracker := { s.slots.tracker with
             expected := off + 16 * data.length, stored := addStored s.slots.tracker.stored (16 * data.length) } } }

/-- A write during frame `n` in slot `i` that begins below the frame size (R9 to R11, R13).  One that is out of order, reaches
past the frame size and completes the frame gives its reports in that order (DESIGN CHOICE, log entry 65). -/
def writeInFrame (n : BitVec 32) (i addr off : Nat) (data : List LinkWord) (s : State) : State :=
  let size := frameSize s
  let kept := data.take ((size - off) / 16)
  let s := if off = s.slots.tracker.expected then s else tearFrame addr s
  let s := storeWords i off kept s
  let s := if kept.length < data.length then raiseFault .captureOverrun addr s else s
  if s.slots.tracker.expected = size then completeFrame n i s else s

/-- A capture write piece in VIEW (R8 to R12).  A restart changes the abandoned slot before it chooses a slot (R12, R17). -/
def captureWrite (now addr off : Nat) (data : List LinkWord) (s : State) : State :=
  if frameSize s ≤ off then raiseFault .captureOverrun addr s
  else
    let s :=
      if off = 0 then
        match s.slots.tracker.inProgress with
        | some _ => startFrame now (raiseFault .captureRestart addr (noteImages s (abandonFrame s)))
        | none => startFrame now s
      else s
    match s.slots.tracker.inProgress with
    | some (n, i) => writeInFrame n i addr off data s
    | none => raiseFault .captureOutOfOrder addr s

/-! ## Configuration and SOFT RESET (R18, R19) -/

/-- The frame store layout of a configuration (R18). -/
def layoutOf (c : FrameConfig) : Nat × Nat × Nat × Nat × Nat := (c.poolBase, c.stride, c.slotCount, c.width, c.height)

/-- A new table, and every image position to be written (R18). -/
def rebuildTable (count : Nat) (m : SlotManager) : SlotManager :=
  { m with table := List.replicate count Slot.reset,
           imageWaiting := addWaiting m.imageWaiting (List.range Config.imagePositions) }

/-- A slot after SOFT RESET (R19). -/
def softResetSlot (e : Slot) : Slot :=
  let e := match e.state with
    | .filled | .held => freedEntry e
    | _ => e
  { e with pins := 0 }

/-- SOFT RESET (R19).  A request of the Capture Unit not taken yet, and an answer it has not taken, are dropped (DEDUCED, log
entry 18). -/
def softResetSlots (s : State) : State :=
  (abandonFrame s).onSlots (fun m =>
    { m with table := m.table.map softResetSlot, tracker := .reset, captureRequest := none, captureAnswer := none })

end Sys2Proof.Machine
end

