-- ==== Sys2Proof/Machine/Commands.lean ====
section
/-!
DEFINITION. The Command Unit (chapter 10): fetching, CONFIGURE FRAME, SET MODE, LOAD TABLE with the return of its
fetches, and SOFT RESET.
-/
namespace Sys2Proof.Machine

/-- The state with `f` applied to the Command Unit. -/
def State.onCommand (s : State) (f : CommandUnit → CommandUnit) : State := { s with command := f s.command }

/-! ## Fetching (R152 to R154) -/

/-- The fetch of the record at the head (R152). -/
def recordFetch (s : State) : OwnRequest :=
  { purpose := .commandFetch, addr := controlBase s + Config.commandRingOffset + s.command.head.toNat % 256 * 64,
    words := 4, data := [] }

/-- A fetch may be issued (R152). -/
def fetchDue (s : State) : Bool :=
  s.command.cycle == .idle && s.command.tail != s.command.head &&
  decide (waitingCompletions s.report < Config.completionPlaces)

/-- COMMAND_FETCH (R152). -/
def execCommandFetch (s : State) : Host.Outcome State Fault Refusal :=
  if fetchDue s then
    finish s (s.onCommand (fun c => { c with cycle := .fetching, waitingReads := c.waitingReads ++ [recordFetch s] }))
  else notDue s

/-- MEMORY_ERROR (R154): the command fetch has returned ERROR. -/
def execMemoryError (s : State) : Host.Outcome State Fault Refusal :=
  finishIf s ((takeRecord 0 0xFFFF s).map (complete .memoryError 0))

/-- UNKNOWN_COMMAND (R153): the record's code names no command. -/
def execUnknownCommand (code tag : BitVec 16) (s : State) : Host.Outcome State Fault Refusal :=
  if commandCodes.contains code then notDue s else runCommand code tag (refuse .unknownCommand) s

/-! ## CONFIGURE FRAME (R155, R156) -/

/-- The byte ranges [a, a + n) and [b, b + m) share no byte. -/
def disjointRanges (a n b m : Nat) : Bool := a + n ≤ b || b + m ≤ a

/-- The values and relations of R155 hold for a control region at `region`. -/
def configLegal (region : Nat) (c : FrameConfig) : Bool :=
  let pool := c.slotCount * c.stride
  512 ≤ c.width && c.width ≤ 4608 && c.width % 64 == 0 &&
  384 ≤ c.height && c.height ≤ 3456 && c.height % 48 == 0 &&
  4 ≤ c.slotCount && c.slotCount ≤ 32 &&
  c.stride % 4096 == 0 && c.width * c.height * 2 ≤ c.stride &&
  c.poolBase % 4096 == 0 && c.poolBase + pool ≤ Config.addressSpace &&
  c.captureBase % Config.apertureBytes == 0 && c.viewBase % Config.apertureBytes == 0 &&
  1 ≤ c.latency && c.latency ≤ 3 &&
  disjointRanges c.captureBase Config.apertureBytes c.viewBase Config.apertureBytes &&
  disjointRanges c.captureBase Config.apertureBytes region Config.controlRegionBytes &&
  disjointRanges c.captureBase Config.apertureBytes c.poolBase pool &&
  disjointRanges c.viewBase Config.apertureBytes region Config.controlRegionBytes &&
  disjointRanges c.viewBase Config.apertureBytes c.poolBase pool &&
  disjointRanges region Config.controlRegionBytes c.poolBase pool

/-- The layout of the frame store would change (R18). -/
def layoutChanges (u : CommandUnit) (c : FrameConfig) : Bool := !u.valid || layoutOf u.config != layoutOf c

/-- W or H changes (R156). -/
def sizeChanges (u : CommandUnit) (c : FrameConfig) : Bool := u.config.width != c.width || u.config.height != c.height

/-- The blocks act on a change of W or H (R39, R114). -/
def applySize (s : State) : State :=
  { s with stats := resetDetectors (dropReferences s.stats), steady := clearGeometry s.steady }

/-- The blocks act on a change of the frame store layout (R18, R128). -/
def applyLayout (c : FrameConfig) (s : State) : State := setSource none (s.onSlots (rebuildTable c.slotCount))

/-- A CONFIGURE FRAME that passes (R156). -/
def configure (c : FrameConfig) (s : State) : State :=
  let size := sizeChanges s.command c
  let layout := layoutChanges s.command c
  let s := s.onCommand (fun u => { u with config := c, valid := true })
  let s := if layout then applyLayout c s else s
  let s := if size then applySize s else s
  evalBufferHigh s

/-- CONFIGURE FRAME's work (R155, R156). -/
def configureFrameWork (c : FrameConfig) (s : State) : State :=
  if s.command.mode = .view then refuse .notReady s
  else if !configLegal (controlBase s) c then refuse .badParameter s
  else if s.command.valid && layoutChanges s.command c && decide (0 < countSlots s .kept) then refuse .conflict s
  else completeDone (configure c s)

/-- CONFIGURE_FRAME (R155). -/
def execConfigureFrame (tag width height : BitVec 16) (captureBase viewBase poolBase stride : BitVec 32)
    (slotCount latency : BitVec 8) (s : State) : Host.Outcome State Fault Refusal :=
  runCommand codeConfigureFrame tag
    (configureFrameWork { width := width.toNat, height := height.toNat, captureBase := captureBase.toNat,
                          viewBase := viewBase.toNat, poolBase := poolBase.toNat, stride := stride.toNat,
                          slotCount := slotCount.toNat, latency := latency.toNat }) s

/-! ## SET MODE (R157, R158) -/

/-- The conditions for entering VIEW (R157). -/
def viewReady (s : State) : Bool := s.command.valid && lensReady s && s.command.camMark && s.command.programMark

/-- The blocks act on entering VIEW (R157). -/
def enterView (s : State) : State :=
  let s := enterViewExposure (s.onCommand (fun c => { c with mode := .view }))
  { s with stats := dropReferences s.stats, steady := enterViewSteady s.steady }

/-- SET MODE VIEW's work (R157). -/
def setModeViewWork (s : State) : State :=
  if s.command.mode = .view then completeDone s
  else if viewReady s then completeDone (enterView s)
  else refuse .notReady s

/-- SET MODE STANDBY's work (R158): its completion follows the Slot Manager's answers to the Capture Unit's unholds.  Of the
blocks' reports the FOCUS STATE report (R106) goes before the ENDED of a RUNNING capture (R138; DESIGN CHOICE, log
entry 62). -/
def setModeStandbyWork (s : State) : State :=
  if s.command.mode = .standby then completeDone s
  else
    let s := abandonFrame (s.onCommand (fun c => { c with mode := .standby }))
    takeCommand .standby (closePass (leaveViewFocus s))

/-- The work of SET MODE by the mode byte of the record (R157); DEDUCED, log entry 27. -/
def setModeWork (mode : BitVec 8) : State → State :=
  if mode = 1 then setModeViewWork else if mode = 0 then setModeStandbyWork else refuse .badParameter

/-- SET_MODE_VIEW (R157): the SET MODE record with its mode byte. -/
def execSetModeView (tag : BitVec 16) (mode : BitVec 8) (s : State) : Host.Outcome State Fault Refusal :=
  runCommand codeSetMode tag (setModeWork mode) s

/-- SET_MODE_STANDBY (R158). -/
def execSetModeStandby (tag : BitVec 16) (s : State) : Host.Outcome State Fault Refusal :=
  runCommand codeSetMode tag setModeStandbyWork s

/-! ## LOAD TABLE (R159) -/

/-- The fetch of `words` words of a table image at byte `off` (R159). -/
def tableFetch (address off words : Nat) : OwnRequest :=
  { purpose := .tableFetch off, addr := address + off, words := words, data := [] }

/-- The staging buffer holds a new, empty image. -/
def newStaging (k : TableKind) (address : Nat) : Staging :=
  { kind := k, address := address, length := none, image := [], outstanding := [0], failed := false }

/-- LOAD TABLE's work up to the fetch of the header (R159). -/
def loadTableWork (kind : BitVec 8) (address : BitVec 32) (s : State) : State :=
  match tableKindOf kind.toNat with
  | none => refuse .badParameter s
  | some k =>
    if k = .cam ∧ s.command.mode = .view then refuse .notReady s
    else if address.toNat % 16 ≠ 0 then refuse .badParameter s
    else s.onCommand (fun c => { c with staging := some (newStaging k address.toNat),
                                        waitingReads := c.waitingReads ++ [tableFetch address.toNat 0 1] })

/-- LOAD_TABLE (R159). -/
def execLoadTable (tag : BitVec 16) (kind : BitVec 8) (address : BitVec 32) (s : State) :
    Host.Outcome State Fault Refusal :=
  runCommand codeLoadTable tag (loadTableWork kind address) s

/-- The value of `n` bytes of an image from `off`. -/
def imageField (image : List Byte) (off n : Nat) : Nat := leValue ((image.drop off).take n)

/-- The image length of a table of `count` entries, when the count is in range (R159). -/
def imageLength (k : TableKind) (count : Nat) : Option Nat :=
  match k with
  | .cam => if 2 ≤ count && count ≤ 24 then some (16 + 16 * count) else none
  | .program => if count = 1 then some 32 else none
  | .weights => if 1 ≤ count && count ≤ 4 then some (16 + 192 * count) else none

/-- The offsets and lengths in words of the fetches of an image's rest, from byte `off` on (R159): up to 32 words each,
at most `fuel` of them, and none at or above the top of the address space (R141).  Each but the last is of 32 words (DESIGN
CHOICE, log entry 64). -/
def restFetches (address length : Nat) : Nat → Nat → List (Nat × Nat)
  | 0, _ => []
  | fuel + 1, off =>
    let words := min (min Config.maxWords ((length - off) / 16)) ((Config.addressSpace - (address + off)) / 16)
    if words = 0 then [] else (off, words) :: restFetches address length fuel (off + 16 * words)

/-- The image ends with a LOAD TABLE completion that leaves the table in force. -/
def endLoad (st : Status) (s : State) : State := refuse st (s.onCommand (fun c => { c with staging := none }))

/-! ### The whole image (R84, R159, R160) -/

/-- The 32-bit sum of an image's words is 0 (R159). -/
def sumWords : List Byte → Nat
  | a :: b :: c :: d :: l => leValue [a, b, c, d] + sumWords l
  | _ => 0

/-- Node `j` of a cam table image (section 12.6). -/
def camNode (image : List Byte) (j : Nat) : CamNode :=
  let f := fun (o n : Nat) => imageField image (16 + 16 * j + o) n
  { zoom := f 0 2, focal := f 2 2, alOpen := f 4 2, stops := f 6 1, stepAl := f 7 1, pInf := f 8 2, pNear := f 10 2,
    coarse := f 12 2 }

/-- The PROGRAM table of an image (section 12.6). -/
def programOf (image : List Byte) : ProgramTable :=
  { tlMin := imageField image 16 2, tlMax := imageField image 18 2, glMax := imageField image 20 1,
    credit := imageField image 21 1, crop := imageField image 22 1 }

/-- The tests of a PROGRAM table (R159). -/
def programLegal (p : ProgramTable) : Bool :=
  190 ≤ p.tlMin && p.tlMin ≤ 793 && 190 ≤ p.tlMax && p.tlMax ≤ 793 && p.tlMin ≤ p.tlMax && p.glMax ≤ 192 &&
  p.credit ≤ 96 && 16 ≤ p.crop && p.crop ≤ 160

/-- The patterns of a WEIGHTS image of `n` patterns (section 12.6). -/
def patternsOf (image : List Byte) (n : Nat) : List (List Nat) :=
  (List.range n).map (fun j => ((image.drop (16 + 192 * j)).take 192).map (·.toNat))

/-- An image that passes the tests of its kind is committed, its mark set (R160); `none` when it fails. -/
def commitImage (k : TableKind) (image : List Byte) (s : State) : Option State :=
  let count := imageField image 1 1
  match k with
  | .cam =>
    let l := (List.range count).map (camNode image)
    if camLegal l then some ((commitCam l s).onCommand (fun c => { c with camMark := true })) else none
  | .program =>
    let p := programOf image
    if programLegal p then
      some ({ s with exposure := { s.exposure with program := p } }.onCommand (fun c => { c with programMark := true }))
    else none
  | .weights =>
    let l := patternsOf image count
    if l.all (fun p => p.all (fun w => decide (w ≤ 15))) then
      some ({ s with stats := { s.stats with patterns := l } }.onCommand (fun c => { c with weightsMark := true }))
    else none

/-- Every word has arrived with OK: the image is checked whole and committed or refused (R159, R160). -/
def finishImage (t : Staging) (s : State) : State :=
  match decide (sumWords t.image % 2 ^ 32 = 0), commitImage t.kind t.image s with
  | true, some s' => completeDone (s'.onCommand (fun c => { c with staging := none }))
  | _, _ => endLoad .badParameter s

/-- The header word has arrived with OK (R159): it is checked, and the rest of the image is fetched.  The bytes the
fetches do not reach read zeros (R141; DEDUCED, log entry 22). -/
def headerReturned (t : Staging) (header : List Byte) (s : State) : State :=
  match decide (imageField header 0 1 = tableKindCode t.kind), imageLength t.kind (imageField header 1 1) with
  | true, some n =>
    let fetches := restFetches t.address n 4 16
    let t := { t with length := some n, image := header ++ List.replicate (n - 16) 0, outstanding := fetches.map (·.1) }
    if fetches.isEmpty then finishImage t s
    else s.onCommand (fun c =>
      { c with staging := some t,
               waitingReads := c.waitingReads ++ fetches.map (fun f => tableFetch t.address f.1 f.2) })
  | _, _ => endLoad .badParameter s

/-- A fetch of the image's rest has arrived with OK (R159). -/
def restReturned (t : Staging) (s : State) : State :=
  if t.outstanding.isEmpty then finishImage t s else s.onCommand (fun c => { c with staging := some t })

/-- A fetch has failed (R159): no further fetch is issued, and the command completes when those issued have
returned.  Reads the queue has not accepted are not issued (DEDUCED, log entry 21). -/
def failedReturn (t : Staging) (dropped : List Nat) (s : State) : State :=
  let left := t.outstanding.filter (fun o => !dropped.contains o)
  if left.isEmpty then endLoad .memoryError s
  else s.onCommand (fun c => { c with staging := some { t with outstanding := left, failed := true } })

/-- The offset of a table fetch. -/
def tableOffset (o : OwnRequest) : Option Nat :=
  match o.purpose with
  | .tableFetch off => some off
  | _ => none

/-- The fetch at byte `off` of the staged image has returned (R159). -/
def tableReturned (off : Nat) (error : Bool) (data : List LinkWord) (t : Staging) (s : State) : State :=
  let t := { t with outstanding := t.outstanding.filter (· != off) }
  if error || t.failed then
    failedReturn t (s.command.waitingReads.filterMap tableOffset) (s.onCommand (fun c =>
      { c with waitingReads := c.waitingReads.filter (fun o => (tableOffset o).isNone) }))
  else
    match t.length with
    | none => headerReturned t ((dataBytes data).take 16) s
    | some _ => restReturned { t with image := spliceAt t.image off (dataBytes data) } s

/-- The purpose of the own read in flight under a tag. -/
def ownReadOf (tag : Nat) (s : State) : Option OwnPurpose := (s.link.ownReads.find? (fun o => o.dtag == tag)).map (·.purpose)

/-- TABLE_FETCH_RETURN (R159): nothing is taken under a tag that carries no table fetch. -/
def execTableFetchReturn (ownTag : Nat) (error : Bool) (data : List LinkWord) (s : State) :
    Host.Outcome State Fault Refusal :=
  match ownReadOf ownTag s, s.command.staging with
  | some (.tableFetch off), some t =>
    finish s (tableReturned off error data t
      { s with link := { s.link with ownReads := s.link.ownReads.filter (fun o => o.dtag != ownTag) } })
  | _, _ => notDue s

/-! ## SOFT RESET (R161) -/

/-- The blocks reset, each by its own rule (R161): the Zoom Controller before the Lens Drive, whose reset may form the
derived values (DESIGN CHOICE, log entry 19; what waits between the blocks: log entry 18). -/
def softResetBlocks (s : State) : State :=
  let s := softResetSteady (softResetSlots s)
  let s := { s with stats := softResetStatistics s.stats, exposure := softResetExposure s.exposure,
                    focus := softResetFocus s.focus, zoom := softResetZoom s.zoom, capture := softResetCapture s.capture }
  softResetLens s

/-- SOFT RESET's work (R161): the command waits in EXECUTING. -/
def softResetWork (s : State) : State :=
  softResetBlocks (s.onCommand (fun c => { c with mode := .standby, staging := none }))

/-- SOFT_RESET (R161). -/
def execSoftReset (tag : BitVec 16) (s : State) : Host.Outcome State Fault Refusal :=
  runCommand codeSoftReset tag softResetWork s

/-- A SOFT RESET is in hand and the last lens segment has ended (R161). -/
def resetDue (s : State) : Bool :=
  s.command.cycle == .executing && s.command.inHand.any (fun h => h.code == codeSoftReset) && !s.lens.draining

/-- The rings are resynchronised and the completion posted (R161, R170): the head becomes the tail copy. -/
def resynchronise (s : State) : State :=
  let s := { s with report := resyncReports s.report,
                    link := { s.link with ownQueue := s.link.ownQueue.map orphanReport } }
  (completeDone s).onCommand (fun c => { c with head := c.tail })

/-- The LENS EVENTs of the last segment are given (R82). -/
def giveHeldEvents (s : State) : State :=
  s.lens.heldEvents.foldl (fun s e => giveReport (.lensEvent e) s) (s.onLens (fun l => { l with heldEvents := [] }))

/-- SOFT_RESET_COMPLETE (R161): the resynchronisation, then the reports that follow it (R82, R140), the LENS EVENTs before
the change of buffer high (DESIGN CHOICE, log entry 56). -/
def execSoftResetComplete (s : State) : Host.Outcome State Fault Refusal :=
  if resetDue s then finish s (evalBufferHigh (giveHeldEvents (resynchronise s))) else notDue s

end Sys2Proof.Machine
end

