-- ==== Sys2Proof/Machine/Link.lean ====
section
/-!
DEFINITION. The Pass-Through Unit (chapter 9): power-on reset, the arrival buffer, classification, aperture and Control
Block requests, host reads and their responses, and the downstream arbiter.

Taking a host request is one step: all its pieces are handled, in address order.
-/
namespace Sys2Proof.Machine

/-- The state with `f` applied to the Pass-Through Unit. -/
def State.onLink (s : State) (f : PassThrough → PassThrough) : State := { s with link := f s.link }

/-- POWER_ON_RESET (R149): every block takes its power-on state, with the strap value the pins show.  The commands that
wait stay (DESIGN CHOICE, log entry 45). -/
def execPowerOnReset (strap : BitVec 3) (s : State) : Host.Outcome State Fault Refusal :=
  .next { State.resetWith strap with pending := s.pending }

/-! ## The arrival buffer (R142) -/

/-- The request is one the link can carry (R141): word aligned, 1 to 32 words. -/
def requestLegal (r : HostRequest) : Bool :=
  match r with
  | .read _ a n => a.toNat % 16 == 0 && 1 ≤ n && n ≤ Config.maxWords
  | .write a d => a.toNat % 16 == 0 && 1 ≤ d.length && d.length ≤ Config.maxWords

/-- HOST_REQUEST (R142): held back by flow control while the buffer is full; a request the link cannot carry has no
effect (DESIGN CHOICE, log entry 32). -/
def execHostRequest (r : HostRequest) (s : State) : Host.Outcome State Fault Refusal :=
  if requestLegal r && decide (s.link.arrival.length < Config.arrivalPlaces) then
    finish s (s.onLink (fun l => { l with arrival := l.arrival ++ [r] }))
  else notDue s

/-! ## Classification (R143) -/

/-- The address lies in the aperture at `base`. -/
def inAperture (base a : Nat) : Bool := base ≤ a && a < base + Config.apertureBytes

/-- The class of a word address; no aperture is in force before a CONFIGURE FRAME has succeeded (R143). -/
def regionAt (c : FrameConfig) (valid : Bool) (a : Nat) : Region :=
  if valid && inAperture c.captureBase a then .capture
  else if valid && inAperture c.viewBase a then .view
  else .plain

/-- The pieces of `n` words from address `a`, the first at byte `place` of the request (R143). -/
def cutPieces (region : Nat → Region) : Nat → Nat → Nat → List Piece
  | 0, _, _ => []
  | n + 1, a, place =>
    match cutPieces region n (a + 16) (place + 16) with
    | p :: ps =>
      if p.region = region a then { p with addr := a, words := p.words + 1, place := place } :: ps
      else { region := region a, addr := a, words := 1, place := place, data := [] } :: p :: ps
    | [] => [{ region := region a, addr := a, words := 1, place := place, data := [] }]

/-- The words of a request that lie below the top of the address space (R141). -/
def wordsBelowTop (a n : Nat) : Nat := min n ((Config.addressSpace - a) / 16)

/-- The pieces of a request of `n` words at address `a`, with the ranges in force. -/
def piecesOf (s : State) (a n : Nat) : List Piece :=
  cutPieces (regionAt s.command.config s.command.valid) (wordsBelowTop a n) a 0

/-- A piece of a write, with its words. -/
def withData (data : List LinkWord) (p : Piece) : Piece := { p with data := (data.drop (p.place / 16)).take p.words }

/-- The pieces of a host request; those of a write have their words (R143). -/
def requestPieces (s : State) (r : HostRequest) : List Piece :=
  match r with
  | .read _ a n => piecesOf s a.toNat n
  | .write a d => (piecesOf s a.toNat d.length).map (withData d)

/-- A read that is taken: its entry in the read-tag map, with zeros for every byte (R146). -/
def readEntry (tag n : Nat) : ReadEntry :=
  { tag := tag, bytes := List.replicate (16 * n) 0, fetches := [], error := false, pass := none }

/-- A read with this host tag is in flight (R142). -/
def tagBusy (s : State) (tag : Nat) : Bool := s.link.readMap.any (fun e => e.tag == tag)

/-- The capture piece of a write would complete a frame while the completion buffer is full (R142). -/
def writeMustWait (s : State) (p : Piece) : Bool :=
  let off := p.addr - s.command.config.captureBase
  p.region == .capture && s.command.mode == .view && s.stats.buffer.isSome && s.slots.tracker.inProgress.isSome &&
  off != 0 && decide (off < frameSize s) && decide (frameSize s ≤ off + 16 * p.words)

/-- The head request is not taken yet (R142). -/
def mustWait (s : State) (r : HostRequest) : Bool :=
  match r with
  | .read tag _ _ => tagBusy s tag.toNat
  | .write _ _ => (requestPieces s r).any (writeMustWait s)

/-- The request at the head of the arrival buffer that may be taken: the downstream requests of the one before it have all
been granted (R142). -/
def headRequest (s : State) : Option HostRequest :=
  match s.link.hostDown, s.link.arrival with
  | [], r :: _ => if mustWait s r then none else some r
  | _, _ => none

/-! ## Responses (R146) -/

/-- Delivery of a read marked as reaching the last view byte closes the pass it was translated in (R125). -/
def passDelivered (p : Option (BitVec 16)) (s : State) : State :=
  match p with
  | some n => if s.steady.pass.number = n then closePass s else s
  | none => s

/-- Every fetch of the entry has returned. -/
def ReadEntry.ready (e : ReadEntry) : Bool := e.fetches.all (·.returned)

/-- The entry with a host tag is delivered upstream if it is ready, and cleared (R146). -/
def deliverTag (tag : Nat) (s : State) : State :=
  match s.link.readMap.find? (fun e => e.tag == tag) with
  | some e =>
    if e.ready then
      passDelivered e.pass (s.onLink (fun l =>
        { l with readMap := l.readMap.filter (fun e => e.tag != tag),
                 delivered := { tag := tag, error := e.error, bytes := e.bytes } :: l.delivered }))
    else s
  | none => s

/-- The entry of a host tag with `f` applied. -/
def onEntry (tag : Nat) (f : ReadEntry → ReadEntry) (s : State) : State :=
  s.onLink (fun l => { l with readMap := l.readMap.map (fun e => if e.tag = tag then f e else e) })

/-- The number of fetches of a host tag. -/
def fetchCount (s : State) (tag : Nat) : Nat :=
  match s.link.readMap.find? (fun e => e.tag == tag) with
  | some e => e.fetches.length
  | none => 0

/-- A fetch for host tag `tag`: `words` words at `addr`, of which `count` bytes after the first `skip` go to byte
`place` of the response.  Fetch j carries downstream tag 4t + j (R146). -/
def addFetch (tag addr words place skip count : Nat) (s : State) : State :=
  let d := 4 * tag + fetchCount s tag
  sendDown (.read d addr words)
    (onEntry tag (fun e => { e with fetches := e.fetches ++
      [{ dtag := d, place := place, skip := skip, count := count, granted := false, returned := false }] }) s)

/-! ## Plain and Control Block pieces (R143, R145) -/

/-- A plain write piece is forwarded. -/
def forwardWrite (p : Piece) (s : State) : State := sendDown (.write p.addr p.data) s

/-- The Control Block fields a write piece covers, in address order (R145, R172). -/
def blockFields (base : Nat) (p : Piece) : List BlockField :=
  let word := fun (off : Nat) => if p.addr ≤ base + off then p.data[(base + off - p.addr) / 16]? else none
  (match word 0x00 with
    | some w => [.tail (w.extractLsb' 0 16), .toggle (w.getLsbD 32)]
    | none => []) ++
  (match word 0x10 with
    | some w => [.head (w.extractLsb' 0 16), .mask (w.extractLsb' 32 8)]
    | none => [])

/-- Entries taken from the ring but not passed by the head (R151). -/
def inHandCount (c : CommandUnit) : Nat :=
  match c.cycle with
  | .idle => 0
  | _ => 1

/-- A command tail handed over (R151). -/
def takeTail (t : BitVec 16) (addr : Nat) (s : State) : State :=
  if t = s.command.tail then s
  else
    let d := (t - s.command.head).toNat
    if inHandCount s.command ≤ d ∧ d ≤ 256 then { s with command := { s.command with tail := t } }
    else raiseFault .badCommandTail addr s

/-- The trigger toggle goes through the Command Unit to the Capture Unit (R145, R150), which compares it with the
acknowledge as it is handed on: an equal one is no trigger, also while an earlier flip waits to be taken (R132, section
8.3). -/
def handToggle (v : Bool) (s : State) : State :=
  if v = s.capture.acknowledge then s
  else { s with capture := { s.capture with messages := s.capture.messages ++ [.toggle v] } }

/-- A covered field is handed to its owner (R145); `addr` is the first Control Block address of the piece. -/
def handField (addr : Nat) (s : State) (f : BlockField) : State :=
  match f with
  | .tail t => takeTail t addr s
  | .toggle v => handToggle v s
  | .head h => takeHead h addr s
  | .mask m => takeMask m s

/-- A plain write piece: the Control Block fields it covers are handed over, and it is forwarded (R143, R145).  A fault names
the first address of the piece in the Control Block (DESIGN CHOICE, log entry 11). -/
def plainWrite (p : Piece) (s : State) : State :=
  forwardWrite p ((blockFields (controlBase s) p).foldl (handField (max p.addr (controlBase s))) s)

/-- A plain read piece: one fetch at its own address (R146). -/
def plainRead (tag : Nat) (p : Piece) (s : State) : State := addFetch tag p.addr p.words p.place 0 (16 * p.words) s

/-! ## Capture aperture requests (R9 to R14, R144) -/

/-- A capture aperture write piece (R9); in STANDBY it is dropped under APERTURE_INACTIVE (R144). -/
def capturePieceWrite (now : Nat) (p : Piece) (s : State) : State :=
  match s.command.mode with
  | .view => captureWrite now p.addr (p.addr - s.command.config.captureBase) p.data s
  | .standby => raiseFault .apertureInactive p.addr s

/-- The fetch of a capture aperture read piece: its bytes below the frame size, from the filling slot (R14). -/
def captureRead (tag off : Nat) (p : Piece) (s : State) : State :=
  match s.slots.tracker.inProgress with
  | some (_, i) =>
    let n := min p.words ((frameSize s - off) / 16)
    if n = 0 then s else addFetch tag (slotBase s i + off) n p.place 0 (16 * n) s
  | none => s

/-- A capture aperture read piece (R14); in STANDBY it is answered with zeros under APERTURE_INACTIVE (R144). -/
def capturePieceRead (tag : Nat) (p : Piece) (s : State) : State :=
  match s.command.mode with
  | .view => captureRead tag (p.addr - s.command.config.captureBase) p s
  | .standby => raiseFault .apertureInactive p.addr s

/-! ## View aperture requests (R121 to R124, R144) -/

/-- A run of `n` physical bytes at `phys`, for byte `place` of the response: the words that cover it, in fetches of at
most 32 words (R123): of a run that 33 words cover, the first 32 and then the last (DESIGN CHOICE, log entry 63). -/
def fetchRun (tag place phys n : Nat) (s : State) : State :=
  let skip := phys % 16
  let base := phys - skip
  let words := (skip + n + 15) / 16
  if words ≤ Config.maxWords then addFetch tag base words place skip n s
  else
    let first := 16 * Config.maxWords - skip
    addFetch tag (base + 16 * Config.maxWords) (words - Config.maxWords) (place + first) 0 (n - first)
      (addFetch tag base Config.maxWords place skip first s)

/-- The marks a read handled in an open pass leaves (R123): the last view byte, and a start in a line other than 0. -/
def markViewRead (tag off n : Nat) (s : State) : State :=
  let g := s.steady.pass.geometry
  let s := if g.pitch ≤ off then
      s.onSteady (fun c => { c with pass := { c.pass with leftLineZero := true } }) else s
  if g.size ≤ off + n then onEntry tag (fun e => { e with pass := some s.steady.pass.number }) s else s

/-- A read that starts below the view size, in an open pass (R123, R124): its bytes below the view size are translated
in OPEN, and zeros in BLANK. -/
def readInPass (tag place off n : Nat) (s : State) : State :=
  let g := s.steady.pass.geometry
  let s := markViewRead tag off n s
  match s.steady.pass.status with
  | .opened =>
    (viewRuns g off (min n (g.size - off))).foldl (fun s r => fetchRun tag (place + r.1) r.2.1 r.2.2 s) s
  | _ => s

/-- The pass a read that starts below the view size finds (R121, R122, R125): one opens when it is CLOSED; a read
starting in line 0 after line 0 was left closes it and opens a new one, and the Status Block's change to CLOSED is noted
where it is made (R169; log entry 13).  The open chain runs behind the pin messages that wait: a review pin among them is
answered first, and the chain resolves the source it has left (DESIGN CHOICE, log entry 14). -/
def passForRead (addr off : Nat) (s : State) : State :=
  match s.steady.pass.status with
  | .closed => openChain addr (flushPins (2 * s.slots.pinMessages.length) s)
  | _ =>
    if s.steady.pass.leftLineZero && decide (off < s.steady.pass.geometry.pitch) then
      let s := noteStatus s (closePass s)
      openChain addr (flushPins (2 * s.slots.pinMessages.length) s)
    else s

/-- A view read piece in VIEW (R121 to R124); VIEW_BEYOND begins to wait before the VIEW_NO_FRAME of a pass that opens BLANK
(DESIGN CHOICE, log entry 60), and the pass the read finds is noted for the Status Block before its delivery can close it
(R169; log entry 13). -/
def viewRead (tag off : Nat) (p : Piece) (s : State) : State :=
  let n := 16 * p.words
  let size := (viewGeometry s).size
  if !s.steady.geometryValid then raiseFault .viewNoView p.addr s
  else if size ≤ off then raiseFault .viewBeyond p.addr s
  else
    let s := if size < off + n then raiseFault .viewBeyond p.addr s else s
    readInPass tag p.place off n (noteStatus s (passForRead p.addr off s))

/-- A view aperture read piece (R123); in STANDBY it is answered with zeros under APERTURE_INACTIVE (R144). -/
def viewPieceRead (tag : Nat) (p : Piece) (s : State) : State :=
  match s.command.mode with
  | .view => viewRead tag (p.addr - s.command.config.viewBase) p s
  | .standby => raiseFault .apertureInactive p.addr s

/-- A view aperture write piece is dropped with VIEW_WRITE (R124), and in STANDBY with APERTURE_INACTIVE (R144). -/
def viewPieceWrite (p : Piece) (s : State) : State :=
  match s.command.mode with
  | .view => raiseFault .viewWrite p.addr s
  | .standby => raiseFault .apertureInactive p.addr s

/-! ## Taking a request (R142) -/

/-- A write piece is handled by its class (R143). -/
def writePiece (now : Nat) (s : State) (p : Piece) : State :=
  match p.region with
  | .plain => plainWrite p s
  | .capture => capturePieceWrite now p s
  | .view => viewPieceWrite p s

/-- A read piece is handled by its class (R143). -/
def readPiece (tag : Nat) (s : State) (p : Piece) : State :=
  match p.region with
  | .plain => plainRead tag p s
  | .capture => capturePieceRead tag p s
  | .view => viewPieceRead tag p s

/-- The head request leaves the arrival buffer. -/
def popArrival (s : State) : State := s.onLink (fun l => { l with arrival := l.arrival.tail })

/-- The head request `r` is taken, which is its arrival: its pieces are handled in address order, by the ranges and the mode
in force, and a read with no fetch is delivered at once (R142 to R146); `now` is the time of a frame start. -/
def takeRequest (now : Nat) (r : HostRequest) (s : State) : State :=
  match r with
  | .read tag _ n =>
    deliverTag tag.toNat ((requestPieces s r).foldl (readPiece tag.toNat)
      ((popArrival s).onLink (fun l => { l with readMap := l.readMap ++ [readEntry tag.toNat n] })))
  | .write _ _ => (requestPieces s r).foldl (writePiece now) (popArrival s)

/-- The head request is taken when it is of the row's kind. -/
def takeHeadIf (kind : State → HostRequest → Bool) (now : Nat) (s : State) : Host.Outcome State Fault Refusal :=
  match headRequest s with
  | some r => if kind s r then finish s (takeRequest now r s) else notDue s
  | none => notDue s

/-! ## The rows of an arrival (DESIGN CHOICE, log entry 10) -/

/-- The request has a piece of class `g`. -/
def reaches (g : Region) (s : State) (r : HostRequest) : Bool := (requestPieces s r).any (fun p => p.region == g)

/-- The request is a write. -/
def isWrite : HostRequest → Bool
  | .write _ _ => true
  | .read _ _ _ => false

/-- The Control Block fields the request hands over: those its plain pieces cover, when it is a write (R145). -/
def requestFields (s : State) (r : HostRequest) : List BlockField :=
  if isWrite r then
    (requestPieces s r).flatMap (fun p => if p.region = .plain then blockFields (controlBase s) p else [])
  else []

/-- The request reaches no aperture. -/
def plainOnly (s : State) (r : HostRequest) : Bool := !reaches .capture s r && !reaches .view s r

/-- The request reaches no aperture and hands over a field of one kind. -/
def handsOver (f : BlockField → Bool) (s : State) (r : HostRequest) : Bool := plainOnly s r && (requestFields s r).any f

/-- PLAIN_REQUEST (R143): the head request reaches no aperture and hands over no Control Block field. -/
def execPlainRequest (s : State) : Host.Outcome State Fault Refusal :=
  takeHeadIf (fun s r => plainOnly s r && (requestFields s r).isEmpty) 0 s

/-- The field is the command tail. -/
def BlockField.isTail : BlockField → Bool
  | .tail _ => true
  | _ => false

/-- The field is the trigger toggle. -/
def BlockField.isToggle : BlockField → Bool
  | .toggle _ => true
  | _ => false

/-- The field is the report head. -/
def BlockField.isHead : BlockField → Bool
  | .head _ => true
  | _ => false

/-- The field is the attention class mask. -/
def BlockField.isMask : BlockField → Bool
  | .mask _ => true
  | _ => false

/-- COMMAND_TAIL (R151): the head request is a write that covers the command tail. -/
def execCommandTail (s : State) : Host.Outcome State Fault Refusal := takeHeadIf (handsOver BlockField.isTail) 0 s

/-- TRIGGER_TOGGLE (R145, R150): the head request is a write that covers the trigger toggle. -/
def execTriggerToggle (s : State) : Host.Outcome State Fault Refusal := takeHeadIf (handsOver BlockField.isToggle) 0 s

/-- REPORT_HEAD (R164): the head request is a write that covers the report head. -/
def execReportHead (s : State) : Host.Outcome State Fault Refusal := takeHeadIf (handsOver BlockField.isHead) 0 s

/-- ATTENTION_MASK (R168): the head request is a write that covers the attention class mask. -/
def execAttentionMask (s : State) : Host.Outcome State Fault Refusal := takeHeadIf (handsOver BlockField.isMask) 0 s

/-- CAPTURE_APERTURE_WRITE (R9): the head request is a write with a capture aperture piece. -/
def execCaptureApertureWrite (now : Nat) (s : State) : Host.Outcome State Fault Refusal :=
  takeHeadIf (fun s r => isWrite r && reaches .capture s r) now s

/-- CAPTURE_APERTURE_READ (R14): the head request is a read with a capture aperture piece. -/
def execCaptureApertureRead (s : State) : Host.Outcome State Fault Refusal :=
  takeHeadIf (fun s r => !isWrite r && reaches .capture s r) 0 s

/-- VIEW_APERTURE_READ (R123): the head request is a read with a view aperture piece. -/
def execViewApertureRead (s : State) : Host.Outcome State Fault Refusal :=
  takeHeadIf (fun s r => !isWrite r && reaches .view s r) 0 s

/-- VIEW_WRITE (R124): the head request is a write with a view aperture piece and none of the capture aperture. -/
def execViewWrite (s : State) : Host.Outcome State Fault Refusal :=
  takeHeadIf (fun s r => isWrite r && reaches .view s r && !reaches .capture s r) 0 s

/-! ## The downstream arbiter (R148) -/

/-- The lowest free own tag (R147; DESIGN CHOICE, log entry 12). -/
def freeOwnTag (l : PassThrough) : Option Nat :=
  ((List.range Config.ownTagCount).map (Config.ownTagBase + ·)).find? (fun t => !(l.ownReads.any (fun o => o.dtag == t)))

/-- The head of the own-traffic queue is eligible: a write, or a read while an own tag is free (R147). -/
def ownEligible (l : PassThrough) : Bool :=
  match l.ownQueue with
  | o :: _ => !o.data.isEmpty || (freeOwnTag l).isSome
  | [] => false

/-- The fetch that a granted host read belongs to is in flight (R146). -/
def markGranted (r : DownRequest) (l : PassThrough) : PassThrough :=
  match r with
  | .read d _ _ =>
    { l with readMap := l.readMap.map (fun e =>
        { e with fetches := e.fetches.map (fun f => if f.dtag = d then { f with granted := true } else f) }) }
  | .write _ _ => l

/-- A host grant: the request is forwarded, and the host run count rises to at most 3 (R148). -/
def grantHost (r : DownRequest) (rest : List DownRequest) (l : PassThrough) : PassThrough :=
  markGranted r { l with hostDown := rest, forwarded := r :: l.forwarded, hostRun := min Config.hostRunMax (l.hostRun + 1) }

/-- An own grant: a write is forwarded and its issuer told, a read takes an own tag (R147, R148). -/
def grantOwn (s : State) : State :=
  match s.link.ownQueue with
  | o :: rest =>
    let s := s.onLink (fun l => { l with ownQueue := rest, hostRun := 0 })
    if o.data.isEmpty then
      match freeOwnTag s.link with
      | some t => s.onLink (fun l => { l with ownReads := l.ownReads ++ [{ dtag := t, purpose := o.purpose }],
                                              forwarded := .read t o.addr o.words :: l.forwarded })
      | none => s
    else
      (s.onLink (fun l => { l with forwarded := .write o.addr o.data :: l.forwarded })).onReport (writeForwarded o.purpose)
  | [] => s

/-- DOWNSTREAM_GRANT (R148): nothing is granted while neither side waits. -/
def execDownstreamGrant (s : State) : Host.Outcome State Fault Refusal :=
  match s.link.hostDown, ownEligible s.link with
  | r :: rest, false => finish s (s.onLink (grantHost r rest))
  | [], true => finish s (grantOwn s)
  | r :: rest, true =>
    if s.link.hostRun < Config.hostRunMax then finish s (s.onLink (grantHost r rest)) else finish s (grantOwn s)
  | [], false => notDue s

/-! ## Downstream responses (R146) -/

/-- The fetch is in flight under this downstream tag. -/
def HostFetch.inFlight (f : HostFetch) (d : Nat) : Bool := f.dtag == d && f.granted && !f.returned

/-- The entry with the returned data of fetch `d` placed (R146). -/
def ReadEntry.place (d : Nat) (error : Bool) (bytes : List Byte) (e : ReadEntry) : ReadEntry :=
  match e.fetches.find? (fun f => f.inFlight d) with
  | some f =>
    { e with bytes := spliceAt e.bytes f.place ((bytes.drop f.skip).take f.count), error := e.error || error,
             fetches := e.fetches.map (fun f => if f.inFlight d then { f with returned := true } else f) }
  | none => e

/-- DOWNSTREAM_READ_RESPONSE (R146): a response whose tag names no host fetch in flight is discarded. -/
def execDownstreamReadResponse (dtag : Nat) (error : Bool) (data : List LinkWord) (s : State) :
    Host.Outcome State Fault Refusal :=
  match s.link.readMap.find? (fun e => e.fetches.any (fun f => f.inFlight dtag)) with
  | some e => finish s (deliverTag e.tag (onEntry e.tag (ReadEntry.place dtag error (dataBytes data)) s))
  | none => notDue s

end Sys2Proof.Machine
end

