-- ==== Sys2Proof/Machine/Dispatch.lean ====
section
/-!
DEFINITION. The meaning of every command: one arm per constructor of `Instr`, each a direct call.
-/
namespace Sys2Proof.Machine

/-- The effect of a command on everything but the queue of waiting commands. -/
def exec (i : Instr) (s : State) : Host.Outcome State Fault Refusal :=
  match i with
  | .powerOnReset strap => Sys2Proof.Machine.execPowerOnReset strap s
  | .hostRequest r => Sys2Proof.Machine.execHostRequest r s
  | .captureApertureWrite now => Sys2Proof.Machine.execCaptureApertureWrite now s
  | .captureApertureRead => Sys2Proof.Machine.execCaptureApertureRead s
  | .viewApertureRead => Sys2Proof.Machine.execViewApertureRead s
  | .viewWrite => Sys2Proof.Machine.execViewWrite s
  | .plainRequest => Sys2Proof.Machine.execPlainRequest s
  | .commandTail => Sys2Proof.Machine.execCommandTail s
  | .triggerToggle => Sys2Proof.Machine.execTriggerToggle s
  | .reportHead => Sys2Proof.Machine.execReportHead s
  | .attentionMask => Sys2Proof.Machine.execAttentionMask s
  | .downstreamGrant => Sys2Proof.Machine.execDownstreamGrant s
  | .downstreamReadResponse dtag error data => Sys2Proof.Machine.execDownstreamReadResponse dtag error data s
  | .viewStale => Sys2Proof.Machine.execViewStale s
  | .slotImageWrite => Sys2Proof.Machine.execSlotImageWrite s
  | .statusBlockWrite => Sys2Proof.Machine.execStatusBlockWrite s
  | .reportWrite => Sys2Proof.Machine.execReportWrite s
  | .commandFetch => Sys2Proof.Machine.execCommandFetch s
  | .memoryError => Sys2Proof.Machine.execMemoryError s
  | .unknownCommand code tag => Sys2Proof.Machine.execUnknownCommand code tag s
  | .setStatistics tag saturation coring onThreshold offThreshold darkFloor lineTime => Sys2Proof.Machine.execSetStatistics tag saturation coring onThreshold offThreshold darkFloor lineTime s
  | .setMetering tag target hLim deadBand loopGain stepMax pattern => Sys2Proof.Machine.execSetMetering tag target hLim deadBand loopGain stepMax pattern s
  | .setExposureMode tag mode => Sys2Proof.Machine.execSetExposureMode tag mode s
  | .setCompensation tag compensation => Sys2Proof.Machine.execSetCompensation tag compensation s
  | .setManualExposure tag shutter gainCode irisStop => Sys2Proof.Machine.execSetManualExposure tag shutter gainCode irisStop s
  | .homeLens tag => Sys2Proof.Machine.execHomeLens tag s
  | .parkLens tag => Sys2Proof.Machine.execParkLens tag s
  | .setLensDrive tag arbitration prioZoom prioFocus prioIris periodZoom periodFocus periodIris settle => Sys2Proof.Machine.execSetLensDrive tag arbitration prioZoom prioFocus prioIris periodZoom periodFocus periodIris settle s
  | .zoomTo tag zoom => Sys2Proof.Machine.execZoomTo tag zoom s
  | .zoomStop tag => Sys2Proof.Machine.execZoomStop tag s
  | .setFocusMode tag mode drop monitorDrop contrastFloor fallback => Sys2Proof.Machine.execSetFocusMode tag mode drop monitorDrop contrastFloor fallback s
  | .setFocusWindows tag w0 w1 w2 w3 w4 => Sys2Proof.Machine.execSetFocusWindows tag w0 w1 w2 w3 w4 s
  | .startFocus tag => Sys2Proof.Machine.execStartFocus tag s
  | .cancelFocus tag => Sys2Proof.Machine.execCancelFocus tag s
  | .moveFocus tag focus => Sys2Proof.Machine.execMoveFocus tag focus s
  | .setSteady tag enable searchRange leak qualityMin marginX marginY => Sys2Proof.Machine.execSetSteady tag enable searchRange leak qualityMin marginX marginY s
  | .recenterSteady tag => Sys2Proof.Machine.execRecenterSteady tag s
  | .setViewSource tag source => Sys2Proof.Machine.execSetViewSource tag source s
  | .armCapture tag preDepth burstLength => Sys2Proof.Machine.execArmCapture tag preDepth burstLength s
  | .stopCapture tag => Sys2Proof.Machine.execStopCapture tag s
  | .releaseSlot tag slot => Sys2Proof.Machine.execReleaseSlot tag slot s
  | .configureFrame tag width height captureBase viewBase poolBase stride slotCount latency => Sys2Proof.Machine.execConfigureFrame tag width height captureBase viewBase poolBase stride slotCount latency s
  | .setModeView tag mode => Sys2Proof.Machine.execSetModeView tag mode s
  | .setModeStandby tag => Sys2Proof.Machine.execSetModeStandby tag s
  | .loadTable tag kind address => Sys2Proof.Machine.execLoadTable tag kind address s
  | .tableFetchReturn ownTag error data => Sys2Proof.Machine.execTableFetchReturn ownTag error data s
  | .softReset tag => Sys2Proof.Machine.execSoftReset tag s
  | .softResetComplete => Sys2Proof.Machine.execSoftResetComplete s
  | .statisticsCompletionWork => Sys2Proof.Machine.execStatisticsCompletionWork s
  | .exposureCompletionWork => Sys2Proof.Machine.execExposureCompletionWork s
  | .takeReference => Sys2Proof.Machine.execTakeReference s
  | .dropReference => Sys2Proof.Machine.execDropReference s
  | .focusCompletionWork => Sys2Proof.Machine.execFocusCompletionWork s
  | .focusFrameLimit => Sys2Proof.Machine.execFocusFrameLimit s
  | .exposureAlarm => Sys2Proof.Machine.execExposureAlarm s
  | .sceneChanged => Sys2Proof.Machine.execSceneChanged s
  | .focusMoveEnd => Sys2Proof.Machine.execFocusMoveEnd s
  | .zoomStarted => Sys2Proof.Machine.execZoomStarted s
  | .zoomStopped => Sys2Proof.Machine.execZoomStopped s
  | .focusStepLoss => Sys2Proof.Machine.execFocusStepLoss s
  | .lensFault => Sys2Proof.Machine.execLensFault s
  | .steadyCompletionWork => Sys2Proof.Machine.execSteadyCompletionWork s
  | .captureCompletion => Sys2Proof.Machine.execCaptureCompletion s
  | .captureTrigger => Sys2Proof.Machine.execCaptureTrigger s
  | .captureSlotAnswer => Sys2Proof.Machine.execCaptureSlotAnswer s
  | .holdRequest => Sys2Proof.Machine.execHoldRequest s
  | .unholdRequest => Sys2Proof.Machine.execUnholdRequest s
  | .keepRequest => Sys2Proof.Machine.execKeepRequest s
  | .releaseRequest => Sys2Proof.Machine.execReleaseRequest s
  | .pinRequest => Sys2Proof.Machine.execPinRequest s
  | .unpinRequest => Sys2Proof.Machine.execUnpinRequest s
  | .targetRequest r => Sys2Proof.Machine.execTargetRequest r s
  | .stopRequest r => Sys2Proof.Machine.execStopRequest r s
  | .lensSegmentDone zoomBlocked focusBlocked transition now => Sys2Proof.Machine.execLensSegmentDone zoomBlocked focusBlocked transition now s
  | .noHome zoomBlocked focusBlocked now => Sys2Proof.Machine.execNoHome zoomBlocked focusBlocked now s
  | .faultAnswer now => Sys2Proof.Machine.execFaultAnswer now s
  | .segmentTimeout now => Sys2Proof.Machine.execSegmentTimeout now s
  | .trackingAnswer => Sys2Proof.Machine.execTrackingAnswer s
  | .zoomPositionHandover => Sys2Proof.Machine.execZoomPositionHandover s
  | .zoomStart => Sys2Proof.Machine.execZoomStart s
  | .zoomEnd => Sys2Proof.Machine.execZoomEnd s
  | .zoomMoveEnd => Sys2Proof.Machine.execZoomMoveEnd s
  | .zoomStepLoss => Sys2Proof.Machine.execZoomStepLoss s
  | .lensStateChange => Sys2Proof.Machine.execLensStateChange s
  | .setFromPosition => Sys2Proof.Machine.execSetFromPosition s
  | .setFraction => Sys2Proof.Machine.execSetFraction s

end Sys2Proof.Machine
end

