-- ==== Sys2Proof/Machine/Step.lean ====
section
/-!
DEFINITION. The step of the part, and the placing of a command at the front of its queue.
-/
namespace Sys2Proof.Machine

/-- One step: the command at the front of the queue takes effect on the state with the queue's rest.  With no command
waiting the part idles: it acts only on what reaches it (DESIGN CHOICE, log entry 2). -/
def step (s : State) : Host.Outcome State Fault Refusal :=
  match s.pending with
  | i :: rest => exec i { s with pending := rest }
  | [] => .next s

/-- The state with the command that a table word spells at the front of its queue.  No row of the table gives bits, so
no word spells a command and the state is unchanged. -/
def State.withFetchWord (s : State) (nbits w : Nat) : State :=
  match Sys2Proof.decodeTableWord nbits w with
  | some i => { s with pending := i :: s.pending }
  | none => s

end Sys2Proof.Machine
end

