-- ==== Sys2Proof/Safety.lean ====
section
/-!
DEFINITION. What a run of the part keeps: the invariants the spec states of its state, and the terms in which the
statements about commands are written.
-/
namespace Sys2Proof.Machine

/-! ## A host command and its completion (R152, R153) -/

/-- The record of a host command arrives: the Command Unit is FETCHING and its own read is in flight (R152). -/
abbrev CommandArrives (s : State) : Prop := s.command.cycle = .fetching ∧ fetchInFlight s = true

/-- The rows that stand for the return of a command fetch: the host commands, UNKNOWN_COMMAND and MEMORY_ERROR. -/
def needsRecord (c : Instr) : Bool := (commandFields c).isSome || c == .memoryError

/-- The own reads in flight without the command fetch. -/
def readsWithoutFetch (s : State) : List OwnRead := s.link.ownReads.filter (fun o => o.purpose != .commandFetch)

/-- State `u`, in which a command has had its effect, with the command in hand in EXECUTING (R152). -/
def executing (code tag : BitVec 16) (u : State) : State :=
  { u with link := { u.link with ownReads := readsWithoutFetch u },
           command := { u.command with cycle := .executing, inHand := some { code := code, tag := tag } } }

/-- State `u`, in which a command has had its effect, with its completion given:
the COMMAND DONE record waits last, the head has risen by 1 and the cycle is IDLE (R152, R153). -/
def answered (code tag : BitVec 16) (st : Status) (value : Int) (u : State) : State :=
  { u with link := { u.link with ownReads := readsWithoutFetch u },
           command := { u.command with head := u.command.head + 1, cycle := .idle, inHand := none },
           report := { u.report with waiting := u.report.waiting ++ [.commandDone code tag u.command.head st value] } }

/-- State `u` with the completion of the command in hand given (R152, R153). -/
def completedWith (h : InHand) (st : Status) (value : Int) (u : State) : State :=
  { u with command := { u.command with head := u.command.head + 1, cycle := .idle, inHand := none },
           report := { u.report with waiting := u.report.waiting ++ [.commandDone h.code h.tag u.command.head st value] } }

/-! ## Records (R171) -/

/-- The words hold the fields, each an offset, a size in bytes and a value cut to that size, little-endian, and 0 in every
byte that no field covers (R171). -/
def HoldsFields (ws : List LinkWord) (fields : List (Nat × Nat × Nat)) : Prop :=
  (∀ f ∈ fields, leValue (((dataBytes ws).drop f.1).take f.2.1) = f.2.2 % 256 ^ f.2.1) ∧
  ∀ k, k < 16 * ws.length → (∀ f ∈ fields, ¬ (f.1 ≤ k ∧ k < f.1 + f.2.1)) → (dataBytes ws)[k]? = some 0

/-! ## The frame record that takes supplied fields (R16) -/

/-- The record of entry `e` takes the fields supplied for frame `n`: its record frame equals `n`, and for frame number 0 the
entry is not FREE (R16). -/
abbrev TakesFields (n : BitVec 32) (e : Slot) : Prop := e.recordFrame = n ∧ (n = 0 → e.state ≠ .free)

/-! ## The decisions of the arbiter (R71, R72) -/

/-- Motor `k` has the best PENDING move: the highest priority, and among equals FOCUS before IRIS before ZOOM (R71). -/
def BestPending (l : LensDrive) (k : Motor) : Prop :=
  (l.motor k).state = .pending ∧ ∀ j, (l.motor j).state = .pending →
    (l.motor k).priority < (l.motor j).priority ∨
      ((l.motor k).priority = (l.motor j).priority ∧ (k = .focus ∨ j = .zoom ∨ k = j))

/-- The PENDING move of motor `k` beats stack entry `e` (R72). -/
def BeatsEntry (l : LensDrive) (k : Motor) (e : StackEntry) : Prop :=
  (l.motor k).priority < e.priority ∨
    ((l.motor k).priority = e.priority ∧ ((k = .focus ∧ e.motor ≠ .focus) ∨ (k = .iris ∧ e.motor = .zoom)))

/-- Motor `m` sends the next segment of its move, toward its target, of min(16, |target - position|) steps (R68, R71). -/
def segmentSent (m : Motor) (v : State) : State :=
  let r := v.lens.motor m
  let n := min 16 (natDist r.target r.position)
  { v with lens := { v.lens.setMotor m { r with moved := true } with
      segment := some { motor := m, up := decide (r.position < r.target), steps := n, period := r.period,
                        timeout := n * r.period + 5000, homing := v.lens.mode == .homing } } }

/-- The move of motor `m` is the current move, RUNNING, and its segment is sent. -/
def moveRuns (m : Motor) (v : State) : State :=
  let w := setMotorState m .running v
  segmentSent m { w with lens := { w.lens with current := some m } }

/-- The stack top `e` is popped, with its remaining target (R72). -/
def popped (e : StackEntry) (rest : List StackEntry) (v : State) : State :=
  { v with lens := { v.lens.setMotor e.motor { v.lens.motor e.motor with target := e.target } with stack := rest } }

/-- The choice of the next move in state `v` leaves state `u` (R72): the best PENDING move or the stack top becomes the
current move; one that already stands at its target ends at once and the choice runs again; with neither the bus stays
free. -/
inductive ChoiceMade : State → State → Prop where
  | free (v : State) : (∀ m, (v.lens.motor m).state ≠ .pending) → v.lens.stack = [] → ChoiceMade v v
  | granted (v : State) (k : Motor) : BestPending v.lens k →
      (∀ e rest, v.lens.stack = e :: rest → v.lens.arbitration = .sequential ∨ BeatsEntry v.lens k e) →
      (v.lens.motor k).target ≠ (v.lens.motor k).position → ChoiceMade v (moveRuns k v)
  | grantedEnds (v u : State) (k : Motor) : BestPending v.lens k →
      (∀ e rest, v.lens.stack = e :: rest → v.lens.arbitration = .sequential ∨ BeatsEntry v.lens k e) →
      (v.lens.motor k).target = (v.lens.motor k).position → ChoiceMade (endMove k true v) u → ChoiceMade v u
  | resumed (v : State) (e : StackEntry) (rest : List StackEntry) : v.lens.stack = e :: rest →
      (∀ k, BestPending v.lens k → v.lens.arbitration = .preempt ∧ ¬ BeatsEntry v.lens k e) →
      e.target ≠ (v.lens.motor e.motor).position → ChoiceMade v (moveRuns e.motor (popped e rest v))
  | resumedEnds (v u : State) (e : StackEntry) (rest : List StackEntry) : v.lens.stack = e :: rest →
      (∀ k, BestPending v.lens k → v.lens.arbitration = .preempt ∧ ¬ BeatsEntry v.lens k e) →
      e.target = (v.lens.motor e.motor).position → ChoiceMade (endMove e.motor true (popped e rest v)) u → ChoiceMade v u

/-- The grant decision in state `v` leaves state `u` (R71): a current move at its target ends and the next is chosen; one
that is not keeps the bus, unless in PREEMPT mode a PENDING move of strictly higher priority takes it and the current
move is pushed onto the stack. -/
structure GrantMade (v u : State) : Prop where
  free : v.lens.current = none → ChoiceMade v u
  ended : ∀ m, v.lens.current = some m → (v.lens.motor m).position = (v.lens.motor m).target →
    ChoiceMade { endMove m true v with lens := { (endMove m true v).lens with current := none } } u
  kept : ∀ m, v.lens.current = some m → (v.lens.motor m).position ≠ (v.lens.motor m).target →
    (v.lens.arbitration = .sequential ∨
      ∀ k, (v.lens.motor k).state = .pending → (v.lens.motor m).priority ≤ (v.lens.motor k).priority) → u = segmentSent m v
  preempted : ∀ m k, v.lens.current = some m → (v.lens.motor m).position ≠ (v.lens.motor m).target →
    v.lens.arbitration = .preempt → BestPending v.lens k → (v.lens.motor k).priority < (v.lens.motor m).priority →
    let w := setMotorState m .preempted v
    let pushed := { w with lens := { w.lens with
      current := none, stack := { motor := m, target := (v.lens.motor m).target, priority := (v.lens.motor m).priority } ::
        v.lens.stack } }
    ((v.lens.motor k).target ≠ (v.lens.motor k).position → u = moveRuns k pushed) ∧
    ((v.lens.motor k).target = (v.lens.motor k).position → ChoiceMade (endMove k true pushed) u)

/-! ## Invariants -/

/-- The AE hold is raised exactly while the search state is COARSE, FINE or PEAK (R107). -/
def HoldMatchesSearch (s : State) : Prop :=
  s.focus.aeHold = true ↔ s.focus.search = .coarse ∨ s.focus.search = .fine ∨ s.focus.search = .peak

/-- The report ring: one entry record for each unconsumed entry, at most 512 of them; high water from 384 on; and the
attention line exactly while a forwarded entry of an enabled class is unconsumed (R163, R164, R168). -/
structure RingConsistent (r : ReportUnit) : Prop where
  counted : r.entries.length = (r.writeCount - r.headCopy).toNat
  bounded : r.entries.length ≤ 512
  highWater : r.highWater = true ↔ 384 ≤ r.entries.length
  attention : r.attention = true ↔ ∃ e ∈ r.entries, e.forwarded = true ∧ r.mask.getLsbD (classCode e.cls) = true

/-- The waiting order: at most 12 reports in general places, EVENTS LOST exactly while the lost mark is set and once, at
most one EXPOSURE SET and at most one fault of each cause (R163, R165, R167). -/
structure WaitingConsistent (r : ReportUnit) : Prop where
  general : (r.waiting.filter Report.general).length ≤ 12
  lost : r.waiting.count .eventsLost = if r.lostMark then 1 else 0
  exposure : (r.waiting.filter (fun x => match x with | .exposureSet .. => true | _ => false)).length ≤ 1
  faults : ∀ c : FaultCause,
    (r.waiting.filter (fun x => match x with | .pathFault d .. => d == c | _ => false)).length ≤ 1

/-- The answer to a request to the Lens Drive completes the command in hand (R88, R89, R109). -/
def LensMessage.completes : LensMessage → Bool
  | .target _ _ (.zoomTo ..) | .target _ _ (.moveFocus ..) | .stop _ .zoomStop => true
  | _ => false

/-- The last answer to a piece of the Capture Unit's work completes the command in hand (R130, R136 to R138). -/
def CaptureWork.completes : CaptureWork → Bool
  | .arming .. | .stopping .. | .releasing => true
  | _ => false

/-- How many things in progress will give a completion: a request to the Lens Drive, a command's work or a waiting command
of the Capture Unit, a review pin, a table image, and a SOFT RESET in hand. -/
def owed (s : State) : Nat :=
  ((s.lens.fromZoom ++ s.lens.fromFocus ++ s.lens.fromExposure).filter LensMessage.completes).length +
  (s.capture.work.any CaptureWork.completes).toNat + s.capture.command.isSome.toNat + s.command.slotWanted.isSome.toNat +
  s.command.staging.isSome.toNat +
  (s.command.cycle == .executing && s.command.inHand.any (fun h => h.code == codeSoftReset)).toNat

/-- The four places reserved for completions suffice (R152, R163): nothing but the command in hand, while it executes, owes
a completion, it owes one, and its place is free. -/
structure CompletionsReserved (s : State) : Prop where
  one : owed s ≤ 1
  executing : s.command.cycle ≠ .executing → owed s = 0
  room : waitingCompletions s.report + (if s.command.cycle = .idle then 0 else 1) ≤ 4

/-- The lens drains only while a SOFT RESET is in hand and executes (R82, R161). -/
def DrainsUnderSoftReset (s : State) : Prop :=
  s.lens.draining = true → s.command.cycle = .executing ∧ ∃ tag, s.command.inHand = some { code := codeSoftReset, tag := tag }

/-- The buffers of the Pass-Through Unit: at most 16 waiting requests, at most 8 own requests, a host run count of at
most 3, and own tags 256 to 271, each in use at most once (R141, R142, R147, R148). -/
structure LinkBounded (l : PassThrough) : Prop where
  arrival : l.arrival.length ≤ 16
  ownQueue : l.ownQueue.length ≤ 8
  hostRun : l.hostRun ≤ 3
  tags : ∀ o ∈ l.ownReads, 256 ≤ o.dtag ∧ o.dtag < 272
  once : (l.ownReads.map (·.dtag)).Nodup

/-- The slot table: slot 0 is only ever FREE or FILLING; a slot is FILLING exactly while the tracker's frame in progress
fills it, and then shows that frame; a FREE or FILLING slot carries no pin; and no frame is in progress in STANDBY
(R1 to R4, R7, R20). -/
structure SlotsConsistent (s : State) : Prop where
  slotZero : ∀ e, s.slots.table[0]? = some e → e.state = .free ∨ e.state = .filling
  filling : ∀ (i : Nat) (e : Slot), s.slots.table[i]? = some e →
    (e.state = .filling ↔ ∃ n, s.slots.tracker.inProgress = some (n, i))
  inTable : ∀ n i, s.slots.tracker.inProgress = some (n, i) →
    ∃ e, s.slots.table[i]? = some e ∧ e.recordFrame = n
  unpinned : ∀ e ∈ s.slots.table, e.state = .free ∨ e.state = .filling → e.pins = 0
  standby : s.command.mode = .standby → s.slots.tracker.inProgress = none
  viewValid : s.command.mode = .view → s.command.valid = true
  tableSize : s.command.valid = true → s.slots.table.length = s.command.config.slotCount ∧ 4 ≤ s.command.config.slotCount

/-- The lists of bounded size: the exposure history of 4 sets and the focus sample list of 64 samples (R44, R95). -/
structure ListsBounded (s : State) : Prop where
  history : s.exposure.history.length ≤ 4
  samples : s.focus.samples.length ≤ 64

end Sys2Proof.Machine
end

