-- ==== Sys2Proof/WellFormed.lean ====
section
/-!
DEFINITION. Which commands can reach the part at all: what the link, the lens bus and the command ring can carry.  A
command that is not well formed still has a meaning; the check says which ones the spec's interfaces produce.
-/
namespace Sys2Proof

/-- A request the memory link can carry (R141): word aligned, 1 to 32 words. -/
def HostRequest.wellFormed : HostRequest → Bool
  | .read _ a n => a.toNat % 16 == 0 && 1 ≤ n && n ≤ Config.maxWords
  | .write a d => a.toNat % 16 == 0 && 1 ≤ d.length && d.length ≤ Config.maxWords

/-- A response of the memory link: 1 to 32 words (R141). -/
def responseWords (data : List LinkWord) : Bool := 1 ≤ data.length && data.length ≤ Config.maxWords

/-- The command is one the part's interfaces can produce: link requests and responses as R141 has them, a transition
step of a segment (R68: at most 16 steps), an unknown code that names no command (R153), and SET MODE VIEW for a mode
byte that is not STANDBY's (R157). -/
def Instr.wellFormed : Instr → Bool
  | .hostRequest r => r.wellFormed
  | .downstreamReadResponse d _ data => decide (d < Config.ownTagBase) && responseWords data
  | .tableFetchReturn t _ data =>
    Config.ownTagBase ≤ t && decide (t < Config.ownTagBase + Config.ownTagCount) && responseWords data
  | .lensSegmentDone _ _ t _ => decide (t ≤ 16)
  | .unknownCommand code _ => !Machine.commandCodes.contains code
  | .setModeView _ mode => mode != 0
  | _ => true

end Sys2Proof
end

