-- ==== Sys2Proof/Certificates/Slice0/Obligations.lean ====
section
/-!
DEFINITION. The statements for the provers, from the numbered rules of the spec.

A statement of what a command does gives its whole next state: `settle s u` where `u` is `s` with the fields the rules
name replaced, so everything not named is as it was; `SettleChangesOnlyWaitingWrites` says what `settle` adds (the writes
and reads that wait to leave).  The facts of a longer work are given field by field.
-/
open Sys2Proof Sys2Proof.Machine

/-! ## The queue of commands, and every command -/

/-- The step takes the command at the front of the queue and runs it on the state with the queue's rest.
That commands wait in a queue is the model's choice (log entry 2). -/
def Obligations.StepRunsTheFrontCommand : Prop :=
  ∀ (c : Instr) (rest : List Instr) (s : State), s.pending = c :: rest → step s = exec c { s with pending := rest }

/-- No command stops the part (it has no fault and refuses nothing), and none touches the queue of waiting commands. A host
command has its effect only as the return of a command fetch (R152): with none in flight, nothing changes.
That no command faults and that a host command's row is the return of its fetch are read by inference (log entries 4
and 44). -/
def Obligations.EveryCommandAnswers : Prop :=
  (∀ (c : Instr) (s : State), ∃ t, exec c s = .next t ∧ t.pending = s.pending) ∧
  (∀ (c : Instr) (s : State), needsRecord c = true → ¬ CommandArrives s → exec c s = .next s)

/-- What every step adds to its own effect, and nothing else: each slot whose entry changed and that does not wait yet waits
for its image write behind those that wait, several by rising number (R17); a Status Block write waits when a value it
shows changed (R169); and reads that the Command Unit keeps enter the own-traffic queue, in order, as far as its 8 places
go, once no image write waits before them and the first Status Block write after a power-on reset has entered (R147, R149).
That all this comes about within the step is the model's reading (log entry 13). -/
def Obligations.SettleChangesOnlyWaitingWrites : Prop :=
  ∀ b s : State, let t := settle b s
    let room := 8 - s.link.ownQueue.length
    t = { s with slots := { s.slots with imageWaiting := t.slots.imageWaiting },
                 report := { s.report with statusWaiting := t.report.statusWaiting },
                 link := { s.link with ownQueue := t.link.ownQueue },
                 command := { s.command with waitingReads := t.command.waitingReads } } ∧
    (∃ new, t.slots.imageWaiting = s.slots.imageWaiting ++ new ∧ new.Pairwise (· < ·) ∧
      ∀ i, i ∈ new ↔ i ∉ s.slots.imageWaiting ∧
        ∃ x y, b.slots.table[i]? = some x ∧ s.slots.table[i]? = some y ∧ x ≠ y) ∧
    (t.report.statusWaiting = true ↔ s.report.statusWaiting = true ∨ statusFields b ≠ statusFields s) ∧
    (t.slots.imageWaiting = [] ∧ s.report.statusFirst = false →
      t.link.ownQueue = s.link.ownQueue ++ s.command.waitingReads.take room ∧
      t.command.waitingReads = s.command.waitingReads.drop room) ∧
    (¬ (t.slots.imageWaiting = [] ∧ s.report.statusFirst = false) →
      t.link.ownQueue = s.link.ownQueue ∧ t.command.waitingReads = s.command.waitingReads)

/-- POWER_ON_RESET: every register of every block takes the value its reset rule gives (R18, R39, R65, R82, R94, R96, R110,
R112, R127, R140, R149, R162, R170, with the power-on parameters of R38, R61 to R64, R80 and R160), with the strap value
sampled; the queue of waiting commands stays.
The waiting first Status Block write and the kept queue are the model's (log entries 41 and 45), as is any value the reset
rules do not give (log entry 42). -/
def Obligations.PowerOnResetSetsTheResetValues : Prop :=
  ∀ (strap : BitVec 3) (s : State), exec (.powerOnReset strap) s = .next
    { link := { strap := strap, arrival := [], hostDown := [], readMap := [], ownQueue := [], ownReads := [], hostRun := 0,
                forwarded := [], delivered := [] },
      slots := { table := [], seq := 0, tracker := { inProgress := none, expected := 0, stored := 0, torn := false },
                 imageWaiting := [], captureRequest := none, captureAnswer := none, pinMessages := [] },
      stats := { params := { saturation := 4032, coring := 32, onThreshold := 96, offThreshold := 48, darkFloor := 32,
                             lineTime := 0 },
                 patterns := [], measuring := none, buffer := none, rowReference := none, profileReference := none,
                 det100 := { on := false, run := 0, level := 0 }, det120 := { on := false, run := 0, level := 0 },
                 lineTimeLatched := 0 },
      exposure := { params := { target := 2458, hLim := 8, deadBand := 4, gain := 8, stepMax := 64, pattern := 0,
                                compensation := 0, mode := .program, manualShutter := 65536, manualGain := 256,
                                manualIris := 0 },
                    program := { tlMin := 190, tlMax := 793, glMax := 0, credit := 0, crop := 16 },
                    latches := [], history := [], settled := false, lightHigh := false, lightLow := false, settleRun := 0,
                    scene := { valid := false, level := 0, run := 0 },
                    held := { focal := 0, alOpen := 0, stops := 0, stepAl := 0 }, firstIssue := true,
                    shown := { y := 0, eMeas := 0, skip := .stepped, present := false, mode := .program }, work := [],
                    messages := [], irisReached := none },
      lens := { mode := .unhomed,
                zoom := { position := 0, state := .idle, target := 0, owner := .zoom, priority := 3, period := 1000,
                          moved := false },
                focus := { position := 0, state := .idle, target := 0, owner := .focus, priority := 1, period := 500,
                           moved := false },
                iris := { position := 0, state := .idle, target := 0, owner := .exposure, priority := 2, period := 2000,
                          moved := false },
                stack := [], current := none, segment := none, awaiting := false, zoomBlocked := false,
                focusBlocked := false, lastFocusEnd := none, settleMark := false, arbitration := .preempt,
                settleTime := 3000, homing := none, draining := false, heldEvents := [], fromZoom := [], fromFocus := [],
                fromExposure := [] },
      zoom := { cam := [], derived := none, target := none, moving := false, u := 0, fresh := false, silent := 0,
                fromLens := [], fromFocus := [] },
      focus := { mode := .single, drop := 24, monitorDrop := 64, contrastFloor := 65536, fallback := 96,
                 windows := { rect := none, enabled := true } :: List.replicate 4 { rect := none, enabled := false },
                 search := .idle, forward := true, coarseStep := 0, fineStep := 0, startPosition := 0, sweep := 1,
                 framesUsed := 0, farRun := 0, lastFailure := .noReason, samples := [], best := none, plan := [],
                 windowSet := 0, peakTarget := 0, moveMark := false, lockFigure := 0, baselinePending := false,
                 baselineSet := 0, zoomPause := false, dropRun := 0, aeHold := false, lensTold := .unhomed, work := [],
                 fromLens := [], fromZoom := [], fromExposure := [] },
      steady := { enable := false, mx := 0, my := 0, range := 24, leak := 4, qualityMin := 40, geometryValid := false,
                  latches := [], note := none, axisX := { o16 := 0, run := 0, panning := false },
                  axisY := { o16 := 0, run := 0, panning := false },
                  pass := { status := .closed, pinned := none,
                            geometry := { width := 0, height := 0, mx := 0, my := 0, slotBase := 0, ox := 0, oy := 0 },
                            completions := 0, leftLineZero := false, number := 0 },
                  source := none, work := [] },
      capture := { mode := .idle, id := 0, effectiveP := 0, burst := 0, heldList := [], nextIndex := 1, keptCount := 0,
                   skipCount := 0, acknowledge := false, bufferHigh := false, work := none, command := none,
                   messages := [] },
      command := { tail := 0, head := 0, cycle := .idle, mode := .standby,
                   config := { width := 0, height := 0, captureBase := 0, viewBase := 0, poolBase := 0, stride := 0,
                               slotCount := 0, latency := 0 },
                   valid := false, staging := none, camMark := false, programMark := false, weightsMark := false,
                   inHand := none, waitingReads := [], slotWanted := none },
      report := { writeCount := 0, headCopy := 0, mask := 0, entries := [], highWater := false, waiting := [],
                  lost := { frame := 0, focus := 0, lens := 0, capture := 0 }, lostMark := false, statusWaiting := true,
                  statusQueued := false, statusFirst := true, attention := false },
      pending := s.pending }

/-! ## Commands that set parameters -/

/-- SET STATISTICS (R38), SET METERING (R61), SET EXPOSURE MODE (R63) and SET LENS DRIVE (R80): every value is replaced with DONE,
or the command is refused with BAD_PARAMETER and nothing changes.  SET MANUAL EXPOSURE (R64) always writes its values, with
CLAMPED exactly when one of them would be clamped against the PROGRAM table and the stop count in force, which is 1 while the
derived values are absent (R86); the value that such a completion carries is a free value of the model, and nothing is said of
it.
By which table and stop count a manual value is judged is the model's reading (log entry 37). -/
def Obligations.ParameterCommandsReplaceAllOrNothing : Prop :=
  (∀ (tag sat cor : BitVec 16) (on off : BitVec 8) (dark : BitVec 16) (line : BitVec 32) (s : State), CommandArrives s →
    let legal := 1 ≤ sat.toNat ∧ sat.toNat ≤ 4095 ∧ cor.toNat ≤ 1023 ∧ 1 ≤ on.toNat ∧ off.toNat ≤ 254 ∧
      dark.toNat ≤ 16380 ∧ (line.toNat = 0 ∨ 1000 ≤ line.toNat ∧ line.toNat ≤ 1000000) ∧ off.toNat < on.toNat
    (legal → exec (.setStatistics tag sat cor on off dark line) s = .next (settle s (answered 0x0201 tag .done 0
      { s with stats := { s.stats with params :=
        { saturation := sat.toNat, coring := cor.toNat, onThreshold := on.toNat, offThreshold := off.toNat,
          darkFloor := dark.toNat, lineTime := line.toNat } } }))) ∧
    (¬ legal → exec (.setStatistics tag sat cor on off dark line) s =
      .next (settle s (answered 0x0201 tag .badParameter 0 s)))) ∧
  ((∀ (tag target hLim : BitVec 16) (dead gain step pattern : BitVec 8) (s : State), CommandArrives s →
    let legal := 1 ≤ target.toNat ∧ target.toNat ≤ 16380 ∧ hLim.toNat ≤ 256 ∧ dead.toNat ≤ 16 ∧ 1 ≤ gain.toNat ∧
      gain.toNat ≤ 16 ∧ 1 ≤ step.toNat ∧ step.toNat ≤ 64 ∧ pattern.toNat ≤ 3
    (legal → exec (.setMetering tag target hLim dead gain step pattern) s = .next (settle s (answered 0x0301 tag .done 0
      { s with exposure := { s.exposure with params := { s.exposure.params with
        target := target.toNat, hLim := hLim.toNat, deadBand := dead.toNat, gain := gain.toNat, stepMax := step.toNat,
        pattern := pattern.toNat } } }))) ∧
    (¬ legal → exec (.setMetering tag target hLim dead gain step pattern) s =
      .next (settle s (answered 0x0301 tag .badParameter 0 s)))) ∧
  ∀ strap : BitVec 3, let p := (State.resetWith strap).exposure.params
    (p.target, p.hLim, p.deadBand, p.gain, p.stepMax, p.pattern) = (2458, 8, 4, 8, 64, 0)) ∧
  ((∀ (tag : BitVec 16) (mode : BitVec 8) (s : State), CommandArrives s →
    let written := fun (m : ExposureMode) =>
      answered 0x0302 tag .done 0 { s with exposure := { s.exposure with params := { s.exposure.params with mode := m } } }
    (mode = 0 → exec (.setExposureMode tag mode) s = .next (settle s (written .program))) ∧
    (mode = 1 → exec (.setExposureMode tag mode) s = .next (settle s (written .manual))) ∧
    (mode = 2 → exec (.setExposureMode tag mode) s = .next (settle s (written .locked))) ∧
    (2 < mode.toNat → exec (.setExposureMode tag mode) s = .next (settle s (answered 0x0302 tag .badParameter 0 s)))) ∧
  (∀ (tag : BitVec 16) (shutter : BitVec 32) (gain : BitVec 16) (iris : BitVec 8) (s : State), CommandArrives s →
    let p := s.exposure.program
    let stops := match s.zoom.derived with
      | some d => d.stops
      | none => 1
    let written := { s with exposure := { s.exposure with params := { s.exposure.params with
      manualShutter := shutter.toNat, manualGain := gain.toNat, manualIris := iris.toNat } } }
    let fits := p.tlMin ≤ logL shutter.toNat ∧ logL shutter.toNat ≤ p.tlMax ∧
      0 ≤ (logL (gain.toNat / 8) : Int) - 160 ∧ (logL (gain.toNat / 8) : Int) - 160 ≤ p.glMax ∧ iris.toNat ≤ stops - 1
    p.tlMin ≤ p.tlMax →
    (fits → exec (.setManualExposure tag shutter gain iris) s =
      .next (settle s (answered 0x0304 tag .done 0 written))) ∧
    (¬ fits → ∃ v, exec (.setManualExposure tag shutter gain iris) s =
      .next (settle s (answered 0x0304 tag .clamped v written))))) ∧
  (∀ (tag : BitVec 16) (arb pz pf pi : BitVec 8) (tz tf ti settleUs : BitVec 16) (s : State), CommandArrives s →
    let period := fun (t : BitVec 16) => 100 ≤ t.toNat ∧ t.toNat ≤ 20000
    let legal := arb.toNat ≤ 1 ∧ pz.toNat ≤ 7 ∧ pf.toNat ≤ 7 ∧ pi.toNat ≤ 7 ∧ period tz ∧ period tf ∧ period ti ∧
      settleUs.toNat ≤ 20000
    (legal → exec (.setLensDrive tag arb pz pf pi tz tf ti settleUs) s = .next (settle s (answered 0x0403 tag .done 0
      { s with lens := { s.lens with
        arbitration := if arb = 0 then .preempt else .sequential, settleTime := settleUs.toNat,
        zoom := { s.lens.zoom with priority := pz.toNat, period := tz.toNat },
        focus := { s.lens.focus with priority := pf.toNat, period := tf.toNat },
        iris := { s.lens.iris with priority := pi.toNat, period := ti.toNat } } }))) ∧
    (¬ legal → exec (.setLensDrive tag arb pz pf pi tz tf ti settleUs) s =
      .next (settle s (answered 0x0403 tag .badParameter 0 s))))

/-- SET COMPENSATION (R62): the signed value is clamped to ±96 and written; CLAMPED carries the value written, DONE
otherwise; positive compensation lowers the meter reading by itself, so frames get brighter; power-on reset sets 0. -/
def Obligations.SetCompensationClampsTo96 : Prop :=
  (∀ (tag v : BitVec 16) (s : State), CommandArrives s →
    let written := fun (c : Int) => { s with exposure := { s.exposure with params :=
      { s.exposure.params with compensation := c } } }
    (-96 ≤ v.toInt ∧ v.toInt ≤ 96 →
      exec (.setCompensation tag v) s = .next (settle s (answered 0x0303 tag .done 0 (written v.toInt)))) ∧
    (96 < v.toInt →
      exec (.setCompensation tag v) s = .next (settle s (answered 0x0303 tag .clamped 96 (written 96)))) ∧
    (v.toInt < -96 →
      exec (.setCompensation tag v) s = .next (settle s (answered 0x0303 tag .clamped (-96) (written (-96)))))) ∧
  (∀ (p : ExposureParams) (r : StatRecord) (c : Int),
    meterReading { p with compensation := c } r = meterReading { p with compensation := 0 } r - c) ∧
  ∀ strap : BitVec 3, (State.resetWith strap).exposure.params.compensation = 0

/-- SET FOCUS MODE (R110) and SET FOCUS WINDOWS (R96): CONFLICT while a search sweeps and BAD_PARAMETER for a value out of range.
Otherwise every value is replaced, and the mode acts on the search state as the table of R110 says; an enabled rectangle must
have 16 by 16 quads and, with a valid configuration, lie inside the frame, and new windows set the baseline-pending mark in
LOCKED and MONITOR, for a sample measured with them.
That each window set is numbered is the model's own (log entry 53), that the FOCUS STATE report of SET FOCUS MODE is given
before its COMMAND DONE its choice (log entry 61), and the frame 0 in that report its reading (log entry 24). -/
def Obligations.FocusParametersActOnTheSearch : Prop :=
  (∀ (tag : BitVec 16) (mode drop mdrop : BitVec 8) (floor : BitVec 32) (fallback : BitVec 16) (s : State),
    CommandArrives s →
    let out := exec (.setFocusMode tag mode drop mdrop floor fallback) s
    let legal := mode.toNat ≤ 2 ∧ 1 ≤ drop.toNat ∧ drop.toNat ≤ 128 ∧ 1 ≤ mdrop.toNat ∧ mdrop.toNat ≤ 128 ∧
      fallback.toNat ≤ 1024
    let m : FocusMode := if mode = 0 then .single else if mode = 1 then .continuous else .manual
    let u := { s with focus := { s.focus with mode := m, drop := drop.toNat, monitorDrop := mdrop.toNat,
                                              contrastFloor := floor.toNat, fallback := fallback.toNat } }
    let sweeping := s.focus.search = .coarse ∨ s.focus.search = .fine ∨ s.focus.search = .peak
    let idle := { u.focus with search := .idle, aeHold := false, samples := [], best := none, plan := [],
                               moveMark := false }
    (sweeping → out = .next (settle s (answered 0x0601 tag .conflict 0 s))) ∧
    (¬ sweeping → ¬ legal → out = .next (settle s (answered 0x0601 tag .badParameter 0 s))) ∧
    (¬ sweeping → legal →
      (s.focus.search = .locked → m = .continuous → out = .next (settle s (answered 0x0601 tag .done 0
        (reportFocus .locked { cause := .mode } { u with focus := { u.focus with search := .monitor, dropRun := 0 } })))) ∧
      (s.focus.search = .monitor → m = .single → out = .next (settle s (answered 0x0601 tag .done 0
        (reportFocus .monitor { cause := .mode } { u with focus := { u.focus with search := .locked } })))) ∧
      (s.focus.search = .locked ∨ s.focus.search = .monitor → m = .manual →
        out = .next (settle s (answered 0x0601 tag .done 0 (reportFocus s.focus.search { cause := .mode }
          { u with focus := idle, exposure := { s.exposure with messages := s.exposure.messages ++ [.drop] } })))) ∧
      (s.focus.search = .failed → m = .manual → out = .next (settle s (answered 0x0601 tag .done 0
        (reportFocus .failed { cause := .mode } { u with focus := idle })))) ∧
      (s.focus.search = .idle ∨ (s.focus.search = .locked ∧ m = .single) ∨ (s.focus.search = .monitor ∧ m = .continuous) ∨
          (s.focus.search = .failed ∧ m ≠ .manual) →
        out = .next (settle s (answered 0x0601 tag .done 0 u))))) ∧
  (∀ (tag : BitVec 16) (w0 w1 w2 w3 w4 : WindowArg) (s : State), CommandArrives s →
    let out := exec (.setFocusWindows tag w0 w1 w2 w3 w4) s
    let args := [w0, w1, w2, w3, w4]
    let auto := fun (w : WindowArg) => w.width = 0 ∧ w.height = 0
    let wrong := fun (w : WindowArg) => w.enable ≠ 0 ∧ ¬ auto w ∧
      (w.width.toNat < 16 ∨ w.height.toNat < 16 ∨ s.command.valid = true ∧
        (s.command.config.width / 2 < w.x.toNat + w.width.toNat ∨ s.command.config.height / 2 < w.y.toNat + w.height.toNat))
    let rect := fun (w : WindowArg) => ({ x := w.x.toNat, y := w.y.toNat, width := w.width.toNat,
                                          height := w.height.toNat } : Rect)
    let entry := fun (w : WindowArg) => ({ enabled := decide (w.enable ≠ 0),
                                           rect := if w.width = 0 ∧ w.height = 0 then none else some (rect w) } : FocusWindow)
    let sweeping := s.focus.search = .coarse ∨ s.focus.search = .fine ∨ s.focus.search = .peak
    let holding := s.focus.search = .locked ∨ s.focus.search = .monitor
    (sweeping → out = .next (settle s (answered 0x0602 tag .conflict 0 s))) ∧
    (¬ sweeping → (∃ w ∈ args, wrong w) → out = .next (settle s (answered 0x0602 tag .badParameter 0 s))) ∧
    (¬ sweeping → (∀ w ∈ args, ¬ wrong w) →
      (holding → out = .next (settle s (answered 0x0602 tag .done 0
        { s with focus := { s.focus with windows := args.map entry, windowSet := s.focus.windowSet + 1,
                                         baselinePending := true, baselineSet := s.focus.windowSet + 1 } }))) ∧
      (¬ holding → out = .next (settle s (answered 0x0602 tag .done 0
        { s with focus := { s.focus with windows := args.map entry, windowSet := s.focus.windowSet + 1 } })))))

/-- SET STEADY (R114): NOT_READY without a valid configuration, BAD_PARAMETER for a range, leak or quality min out of
range; otherwise the margins are rounded down to multiples of 4 and clamped to an eighth of the frame in quads, all values
are written, and CLAMPED (with the margins written, section 12.3) says that a margin changed.
The order, rounding before clamping, is the model's reading (log entry 38). -/
def Obligations.SetSteadyRoundsAndClampsTheMargins : Prop :=
  ∀ (tag : BitVec 16) (en range leak quality : BitVec 8) (mx my : BitVec 16) (s : State), CommandArrives s →
    let out := exec (.setSteady tag en range leak quality mx my) s
    let legal := 1 ≤ range.toNat ∧ range.toNat ≤ 48 ∧ leak.toNat ≤ 64
    let mx' := min (4 * (mx.toNat / 4)) (s.command.config.width / 2 / 8)
    let my' := min (4 * (my.toNat / 4)) (s.command.config.height / 2 / 8)
    let u := { s with steady := { s.steady with enable := decide (en ≠ 0), mx := mx', my := my', range := range.toNat,
                                                leak := leak.toNat, qualityMin := quality.toNat, geometryValid := true } }
    (s.command.valid = false → out = .next (settle s (answered 0x0701 tag .notReady 0 s))) ∧
    (s.command.valid = true → ¬ legal → out = .next (settle s (answered 0x0701 tag .badParameter 0 s))) ∧
    (s.command.valid = true → legal → mx' = mx.toNat → my' = my.toNat →
      out = .next (settle s (answered 0x0701 tag .done 0 u))) ∧
    (s.command.valid = true → legal → ¬ (mx' = mx.toNat ∧ my' = my.toNat) →
      out = .next (settle s (answered 0x0701 tag .clamped (mx' + 65536 * my' : Nat) u)))

/-- RECENTER STEADY (R120): both accumulators 0, both clamp runs 0 and both panning marks clear, with DONE, in either
mode and in either enable state; frame records and an open view pass are untouched, and the next estimated frame's offset
starts from 0. -/
def Obligations.RecenterSteadyZeroesTheOffset : Prop :=
  (∀ (tag : BitVec 16) (s : State), CommandArrives s →
    exec (.recenterSteady tag) s = .next (settle s (answered 0x0702 tag .done 0
      { s with steady := { s.steady with axisX := { o16 := 0, run := 0, panning := false },
                                         axisY := { o16 := 0, run := 0, panning := false } } }))) ∧
  ∀ (d : Int) (leak : Nat), leaked d leak { o16 := 0, run := 0, panning := false } =
    16 * d - Int.tdiv (16 * d * leak) 256

/-- SET VIEW SOURCE (R126) with PIN_REQUEST and UNPIN_REQUEST (R3). LIVE is taken at once, with an unpin of the slot it leaves; a
slot that cannot be shown is refused; the slot in force completes at once; any other slot asks for its pin and waits in
EXECUTING. The Slot Manager takes the oldest pin message: it pins a slot that can be shown, by one, and the source changes
with DONE, or refuses it and the command completes with BAD_PARAMETER; an unpin lowers the count by one, not below 0.
The list in which the pin messages wait is the model's (log entry 3). -/
def Obligations.ViewSourceFollowsThePinAnswer : Prop :=
  (∀ (tag : BitVec 16) (n : BitVec 8) (s : State), CommandArrives s →
    let out := exec (.setViewSource tag n) s
    let shown := s.command.valid = true ∧ n ≠ 0 ∧ ∃ e, s.slots.table[n.toNat]? = some e ∧
      (e.state = .filled ∨ e.state = .held ∨ e.state = .kept)
    (n = 0xFF → s.steady.source = none → out = .next (settle s (answered 0x0703 tag .done 0
      { s with steady := { s.steady with source := none } }))) ∧
    (∀ old, n = 0xFF → s.steady.source = some old → out = .next (settle s (answered 0x0703 tag .done 0
      { s with steady := { s.steady with source := none },
               slots := { s.slots with pinMessages := s.slots.pinMessages ++ [.unpin old] } }))) ∧
    (n ≠ 0xFF → ¬ shown → out = .next (settle s (answered 0x0703 tag .badParameter 0 s))) ∧
    (n ≠ 0xFF → shown → s.steady.source = some n.toNat → out = .next (settle s (answered 0x0703 tag .done 0 s))) ∧
    (n ≠ 0xFF → shown → s.steady.source ≠ some n.toNat → out = .next (settle s
      { executing 0x0703 tag s with
          slots := { s.slots with pinMessages := s.slots.pinMessages ++ [.reviewPin n.toNat] },
          command := { (executing 0x0703 tag s).command with slotWanted := some n.toNat } }))) ∧
  (∀ (s : State),
    ((∀ n rest, s.slots.pinMessages ≠ .reviewPin n :: rest) → exec .pinRequest s = .next s) ∧
    (∀ n rest, s.slots.pinMessages = .reviewPin n :: rest →
      let shown := fun (e : Slot) => n ≠ 0 ∧ s.slots.table[n]? = some e ∧
        (e.state = .filled ∨ e.state = .held ∨ e.state = .kept)
      let cleared := { s.command with slotWanted := none }
      let unpins := match s.steady.source with
        | some old => [PinMessage.unpin old]
        | none => []
      (s.command.slotWanted ≠ some n →
        exec .pinRequest s = .next (settle s { s with slots := { s.slots with pinMessages := rest } })) ∧
      (∀ h, s.command.slotWanted = some n → s.command.inHand = some h → (¬ ∃ e, shown e) → exec .pinRequest s =
        .next (settle s (completedWith h .badParameter 0
          { s with slots := { s.slots with pinMessages := rest }, command := cleared }))) ∧
      (∀ h e, s.command.slotWanted = some n → s.command.inHand = some h → shown e → ∃ u : State,
        exec .pinRequest s = .next (settle s (completedWith h .done 0 u)) ∧
        u = { s with command := cleared, steady := { s.steady with source := some n },
                     slots := { s.slots with pinMessages := rest ++ unpins, table := u.slots.table } } ∧
        u.slots.table[n]? = some { e with pins := e.pins + 1 } ∧
        ∀ j, j ≠ n → u.slots.table[j]? = s.slots.table[j]?)) ∧
    ((∀ n rest, s.slots.pinMessages ≠ .unpin n :: rest) → exec .unpinRequest s = .next s) ∧
    (∀ n rest, s.slots.pinMessages = .unpin n :: rest → ∃ u, exec .unpinRequest s = .next (settle s u) ∧
      u = { s with slots := { s.slots with pinMessages := rest, table := u.slots.table } } ∧
      (∀ e, s.slots.table[n]? = some e → u.slots.table[n]? = some { e with pins := e.pins - 1 }) ∧
      ∀ j, j ≠ n → u.slots.table[j]? = s.slots.table[j]?))

/-! ## Commands of the lens, the zoom and the focus -/

/-- HOME LENS (R75) in UNHOMED, PARKED and FAULT starts homing with the first iris segment of 16 steps down and completes with
DONE; otherwise NOT_READY.  PARK LENS (R77) is NOT_READY in VIEW and outside READY and PARKED, does nothing in PARKED, and in
READY at once leaves READY: waiting moves are dropped with DROPPED to their owners (R73), and a segment in flight runs on; with
none the running move is dropped too and focus parks first, then zoom, and a lens that stands at zoom 0 and focus 0 is PARKED
with its event.  Both controllers are told of each lens state (R67).  The lens drains under no command but SOFT RESET.  ZOOM TO (R88) and ZOOM STOP (R89) are
NOT_READY with an empty cam table or a lens that is not READY; otherwise the target, clamped to z_max, or the stop goes to
the Lens Drive, and the command waits in EXECUTING for the answer.
That ZOOM TO and ZOOM STOP wait for the Lens Drive's answer is the model's reading (log entry 16); what PARK LENS does while
a tracking answer is awaited, and the order of PARKED and the completion and of two DROPPED notices, are its choices (log
entries 51, 52 and 59). -/
def Obligations.LensAndZoomCommandsFollowTheLensState : Prop :=
  ((∀ (tag : BitVec 16) (s : State), CommandArrives s →
    let l := s.lens
    let homes := l.mode = .unhomed ∨ l.mode = .parked ∨ l.mode = .fault
    (homes → exec (.homeLens tag) s = .next (settle s (answered 0x0401 tag .done 0
      { s with lens := { l with mode := .homing, homing := some (.iris 0), iris := { l.iris with moved := true },
                                segment := some { motor := .iris, up := false, steps := 16, period := l.iris.period,
                                                  timeout := 16 * l.iris.period + 5000, homing := true } },
               zoom := { s.zoom with fromLens := s.zoom.fromLens ++ [.lensState .homing] },
               focus := { s.focus with lensTold := .homing } }))) ∧
    (¬ homes → exec (.homeLens tag) s = .next (settle s (answered 0x0401 tag .notReady 0 s)))) ∧
  (∀ (tag : BitVec 16) (s : State), CommandArrives s →
    let l := s.lens
    (s.command.mode = .view ∨ (l.mode ≠ .ready ∧ l.mode ≠ .parked) →
      exec (.parkLens tag) s = .next (settle s (answered 0x0402 tag .notReady 0 s))) ∧
    (s.command.mode = .standby → l.mode = .parked →
      exec (.parkLens tag) s = .next (settle s (answered 0x0402 tag .done 0 s))) ∧
    (s.command.mode = .standby → l.mode = .ready → l.draining = false →
      let waits := fun (m : Motor) => (l.motor m).state == .pending || (l.motor m).state == .preempted
      let runs := fun (m : Motor) => (l.motor m).state == .running
      let toZoom := fun (drops : Motor → Bool) =>
        (if drops .focus && l.focus.owner != .focus then [ZoomNotice.moveEnd .focus false l.focus.position] else []) ++
        (if drops .zoom then [.moveEnd .zoom false l.zoom.position, .finish] else [])
      let toFocus := fun (drops : Motor → Bool) =>
        if drops .focus && l.focus.owner == .focus then [FocusLensNotice.moveEnd false l.focus.position] else []
      let rests := fun (drops : Motor → Bool) (m : Motor) =>
        if drops m then { l.motor m with state := .idle } else l.motor m
      let dropped := fun (drops : Motor → Bool) =>
        { l with mode := .parking, stack := [], awaiting := false,
                 zoom := rests drops .zoom, focus := rests drops .focus, iris := rests drops .iris }
      let out := exec (.parkLens tag) s
      let parks := fun (u : State) => out = .next (settle s (answered 0x0402 tag .done 0 u))
      (l.segment ≠ none → parks { s with
        lens := dropped waits,
        zoom := { s.zoom with fromLens := s.zoom.fromLens ++ toZoom waits ++ [.lensState .parking] },
        focus := { s.focus with lensTold := .parking, fromLens := s.focus.fromLens ++ toFocus waits } }) ∧
      (l.segment = none →
        let still := { dropped (fun m => waits m || runs m) with current := none }
        let notices := s.zoom.fromLens ++ toZoom waits ++ toZoom runs ++ [.lensState .parking]
        let v := { s with zoom := { s.zoom with fromLens := notices }, focus := { s.focus with
          lensTold := .parking, fromLens := s.focus.fromLens ++ toFocus waits ++ toFocus runs } }
        let sent := fun (m : Motor) =>
          let n := min 16 (l.motor m).position
          ({ motor := m, up := false, steps := n, period := (l.motor m).period, timeout := n * (l.motor m).period + 5000,
             homing := false } : Segment)
        (0 < l.focus.position → parks { v with lens := { still with
          segment := some (sent .focus), focus := { still.focus with moved := true } } }) ∧
        (l.focus.position = 0 → 0 < l.zoom.position → parks { v with lens := { still with
          segment := some (sent .zoom), zoom := { still.zoom with moved := true } } }) ∧
        (l.focus.position = 0 → l.zoom.position = 0 → ∃ e : LensEvent,
          (e.event, e.after, e.zoom, e.focus, e.iris) = (.parked, .parked, 0, 0, l.iris.position) ∧
          parks { v with
            lens := { still with mode := .parked }, zoom := { v.zoom with fromLens := notices ++ [.lensState .parked] },
            focus := { v.focus with lensTold := .parked }, report := giveGeneral (.lensEvent e) s.report }))))) ∧
  (∀ (tag z : BitVec 16) (s : State), CommandArrives s →
    let ready := s.zoom.cam ≠ [] ∧ s.lens.mode = .ready
    (¬ ready → exec (.zoomTo tag z) s = .next (settle s (answered 0x0501 tag .notReady 0 s)) ∧
      exec (.zoomStop tag) s = .next (settle s (answered 0x0502 tag .notReady 0 s))) ∧
    (ready →
      (∀ last, s.zoom.cam.getLast? = some last →
        let c := min z.toNat last.zoom
        exec (.zoomTo tag z) s = .next (settle s (executing 0x0501 tag
          { s with zoom := { s.zoom with target := some c },
                   lens := { s.lens with fromZoom := s.lens.fromZoom ++
                     [.target .zoom c (.zoomTo s.zoom.target (decide (c ≠ z.toNat)))] } }))) ∧
      exec (.zoomStop tag) s = .next (settle s (executing 0x0502 tag
        { s with lens := { s.lens with fromZoom := s.lens.fromZoom ++ [.stop .zoom .zoomStop] } }))))

/-- START FOCUS (R100): NOT_READY outside VIEW, with the lens not READY, without derived values or in MANUAL; CONFLICT while
the zoom moves; and otherwise the six steps of the rule, with DONE.
CANCEL FOCUS (R109): DONE in every state. IDLE is unchanged; a sweeping search is abandoned; LOCKED, MONITOR and FAILED
go to IDLE with the reference dropped and the lock values and the best record cleared. The controller's own move is stopped
if its move mark is set.
MOVE FOCUS (R109) up to the Lens Drive's answer: NOT_READY with the lens not READY or no derived values, CONFLICT while a
search sweeps, and otherwise the position, clamped to the focus range in force, is sent as a target with the move mark
set, and the command waits in EXECUTING.
That MOVE FOCUS waits for the Lens Drive's answer is the model's reading (log entry 16), and so is the frame 0 of the reports
(log entry 24); that a report goes before the completion is its choice (log entry 61). -/
def Obligations.FocusCommandsStartCancelAndMove : Prop :=
  (∀ (tag : BitVec 16) (s : State), CommandArrives s →
    let ready := s.command.mode = .view ∧ s.lens.mode = .ready ∧ s.zoom.derived ≠ none ∧ s.focus.mode ≠ .manual
    (¬ ready → exec (.startFocus tag) s = .next (settle s (answered 0x0603 tag .notReady 0 s))) ∧
    (ready → s.zoom.moving = true → exec (.startFocus tag) s = .next (settle s (answered 0x0603 tag .conflict 0 s))) ∧
    (∀ d, ready → s.zoom.derived = some d → s.zoom.moving = false →
      exec (.startFocus tag) s = .next (settle s (answered 0x0603 tag .done 0
        (reportFocus s.focus.search { cause := .start }
          { s with focus := { s.focus with
            samples := [], best := none, plan := [], framesUsed := 0, farRun := 0, lastFailure := .noReason,
            forward := decide (s.zoom.u ≤ 512), coarseStep := d.coarse, sweep := 1,
            startPosition := s.lens.focus.position, lockFigure := 0, baselinePending := false, baselineSet := 0,
            zoomPause := false, dropRun := 0, aeHold := true, search := .coarse } }))))) ∧
  (∀ (tag : BitVec 16) (s : State), CommandArrives s →
    let f := s.focus
    let stopped := if f.moveMark then { s.lens with fromFocus := s.lens.fromFocus ++ [.stop .focus .plain] } else s.lens
    let idle := { f with search := .idle, aeHold := false, samples := [], best := none, plan := [], moveMark := false }
    (f.search = .idle → exec (.cancelFocus tag) s = .next (settle s (answered 0x0604 tag .done 0 s))) ∧
    (f.search = .coarse ∨ f.search = .fine ∨ f.search = .peak →
      exec (.cancelFocus tag) s = .next (settle s (answered 0x0604 tag .done 0
        (reportFocus f.search { cause := .cancelled } { s with focus := idle, lens := stopped })))) ∧
    (f.search = .locked ∨ f.search = .monitor ∨ f.search = .failed →
      exec (.cancelFocus tag) s = .next (settle s (answered 0x0604 tag .done 0
        (reportFocus f.search { cause := .cancelled }
          { s with
              lens := stopped,
              focus := { idle with lockFigure := 0, baselinePending := false, baselineSet := 0, zoomPause := false,
                                   dropRun := 0 },
              exposure := { s.exposure with messages := s.exposure.messages ++ [.drop] } }))))) ∧
  (∀ (tag p : BitVec 16) (s : State), CommandArrives s →
    let ready := s.lens.mode = .ready ∧ s.zoom.derived ≠ none
    let sweeping := s.focus.search = .coarse ∨ s.focus.search = .fine ∨ s.focus.search = .peak
    (¬ ready → exec (.moveFocus tag p) s = .next (settle s (answered 0x0605 tag .notReady 0 s))) ∧
    (ready → sweeping → exec (.moveFocus tag p) s = .next (settle s (answered 0x0605 tag .conflict 0 s))) ∧
    (∀ d, ready → ¬ sweeping → s.zoom.derived = some d → d.pInf ≤ d.pNear →
      let c := max d.pInf (min p.toNat d.pNear)
      exec (.moveFocus tag p) s = .next (settle s (executing 0x0605 tag
        { s with focus := { s.focus with moveMark := true },
                 lens := { s.lens with fromFocus := s.lens.fromFocus ++
                   [.target .focus c (.moveFocus c (decide (c ≠ p.toNat)))] } }))))

/-! ## Commands of the Capture Unit -/

/-- ARM CAPTURE (R130): the tests in their order; with no frame to hold the unit is ARMED at once, with CLAMPED carrying the
effective P when it was cut; otherwise the oldest of the newest effective-P FILLED frames is asked for first and the command
waits in EXECUTING.  The announcements that wait then, of frames that completed before, do nothing (R131).  STOP CAPTURE (R136): DONE in every state; RUNNING ends with cause STOPPED, and so does ARMED once its held
frames are released.  RELEASE SLOT (R137): a KEPT slot of a valid configuration is asked for; any other is BAD_PARAMETER.
While the work of a completion or a trigger is in hand, each of the three waits for its end (R129).
That a command completes with the Slot Manager's last answer is the model's reading (log entry 17), and that ENDED is given
before the completion of STOP CAPTURE its choice (log entry 20), and so are that a command goes before the messages that wait,
and that the announcements leave the list with ARM CAPTURE (log entry 55). -/
def Obligations.CaptureCommandsArmStopAndRelease : Prop :=
  (∀ (tag : BitVec 16) (pre burst : BitVec 8) (s : State), CommandArrives s → s.capture.work = none →
    let out := exec (.armCapture tag pre burst) s
    let legal := pre.toNat ≤ 8 ∧ burst.toNat ≤ 64
    let p := min pre.toNat (s.command.config.slotCount - 3 - countSlots s .kept)
    let picked := (candidates s).drop ((candidates s).length - p)
    let toggles := s.capture.messages.filter (fun m => match m with | .toggle _ => true | .completion _ => false)
    (s.command.mode = .standby → out = .next (settle s (answered 0x0801 tag .notReady 0 s))) ∧
    (s.command.mode = .view → s.capture.mode ≠ .idle → out = .next (settle s (answered 0x0801 tag .conflict 0 s))) ∧
    (s.command.mode = .view → s.capture.mode = .idle → ¬ legal →
      out = .next (settle s (answered 0x0801 tag .badParameter 0 s))) ∧
    (s.command.mode = .view → s.capture.mode = .idle → legal → picked = [] →
      out = .next (settle s (answered 0x0801 tag (if p < pre.toNat then .clamped else .done)
        (if p < pre.toNat then (p : Int) else 0)
        { s with capture := { s.capture with mode := .armed, effectiveP := p, burst := burst.toNat, nextIndex := 1,
                                             keptCount := 0, skipCount := 0, work := none, messages := toggles } }))) ∧
    (∀ e rest, s.command.mode = .view → s.capture.mode = .idle → legal → picked = e :: rest →
      let ask : SlotRequest := { kind := .hold, slot := e.slot, frame := e.frame, captureId := 0, index := 0 }
      let work : CaptureWork := .arming e rest (decide (p < pre.toNat)) burst.toNat
      out = .next (settle s (executing 0x0801 tag
        { s with slots := { s.slots with captureRequest := some ask },
                 capture := { s.capture with effectiveP := p, work := some work, messages := toggles } })))) ∧
  (∀ (tag : BitVec 16) (s : State), CommandArrives s → s.capture.work = none →
    let out := exec (.stopCapture tag) s
    let ended := captureEvent { event := .ended, detail := endCauseCode .stopped, countA := s.capture.keptCount,
                                skipCount := s.capture.skipCount }
    (s.capture.mode = .idle → out = .next (settle s (answered 0x0802 tag .done 0 s))) ∧
    (s.capture.mode = .running → out = .next (settle s (answered 0x0802 tag .done 0
      (ended { s with capture := { s.capture with mode := .idle } })))) ∧
    (s.capture.mode = .armed → s.capture.heldList = [] → out = .next (settle s (answered 0x0802 tag .done 0
      (ended { s with capture := { s.capture with mode := .idle } })))) ∧
    (∀ e rest, s.capture.mode = .armed → s.capture.heldList = e :: rest →
      let ask : SlotRequest := { kind := .unhold, slot := e.slot, frame := e.frame, captureId := 0, index := 0 }
      out = .next (settle s (executing 0x0802 tag
      { s with slots := { s.slots with captureRequest := some ask },
               capture := { s.capture with work := some (.stopping rest .stopCommand) } })))) ∧
  (∀ (tag : BitVec 16) (n : BitVec 8) (s : State), CommandArrives s → s.capture.work = none →
    let kept := fun (e : Slot) => s.command.valid = true ∧ n.toNat < s.command.config.slotCount ∧
      s.slots.table[n.toNat]? = some e ∧ e.state = .kept
    ((¬ ∃ e, kept e) → exec (.releaseSlot tag n) s = .next (settle s (answered 0x0803 tag .badParameter 0 s))) ∧
    (∀ e, kept e →
      let ask : SlotRequest := { kind := .release, slot := n.toNat, frame := e.recordFrame, captureId := 0, index := 0 }
      exec (.releaseSlot tag n) s = .next (settle s (executing 0x0803 tag
      { s with slots := { s.slots with captureRequest := some ask },
               capture := { s.capture with work := some .releasing } })))) ∧
  (∀ (tag : BitVec 16) (pre burst n : BitVec 8) (s : State), CommandArrives s → s.capture.work ≠ none →
    let waits := fun (code : BitVec 16) (k : CaptureCommand) =>
      settle s (executing code tag { s with capture := { s.capture with command := some k } })
    exec (.armCapture tag pre burst) s = .next (waits 0x0801 (.arm pre.toNat burst.toNat)) ∧
    exec (.stopCapture tag) s = .next (waits 0x0802 .stop) ∧
    exec (.releaseSlot tag n) s = .next (waits 0x0803 (.release n.toNat)))

/-- The candidates of ARM CAPTURE (R130): every FILLED slot but slot 0, with its record frame, each once, oldest first by
the distance behind the present count (R15). -/
def Obligations.ArmCandidatesAreTheFilledSlotsInAge : Prop :=
  ∀ s : State,
    (∀ e : HeldEntry, e ∈ candidates s ↔ e.slot ≠ 0 ∧ ∃ x, s.slots.table[e.slot]? = some x ∧ x.state = .filled ∧
      x.recordFrame = e.frame) ∧
    ((candidates s).map (·.slot)).Nodup ∧
    (candidates s).Pairwise (fun a b => behind s.slots.seq b.frame ≤ behind s.slots.seq a.frame)

/-! ## Commands of the Command Unit -/

/-- CONFIGURE FRAME (R155, R156): NOT_READY in VIEW; BAD_PARAMETER for any value or relation of the rule's table that fails;
CONFLICT when the layout would change while a slot is KEPT; and otherwise DONE with the record written.  A new layout gives
a table of FREE slots, every image position to write and the view source LIVE (R18, R128); a new size clears the references,
the detectors, the view geometry with its enable mark and margins, and the steady accumulators (R39, R114); and the
buffer-high flag is evaluated for the new slot count (R135), as `CaptureUnitTakesMessagesAndAnswers` says.
That the flag's event is given before the completion is the model's choice (log entry 20). -/
def Obligations.ConfigureFrameChecksAndRebuilds : Prop :=
  ∀ (tag w h : BitVec 16) (cap view pool stride : BitVec 32) (n k : BitVec 8) (s : State), CommandArrives s →
    let out := exec (.configureFrame tag w h cap view pool stride n k) s
    let region := s.link.strap.toNat * 0x20000000 + 0x1FF00000
    let apart := fun (a x b y : Nat) => a + x ≤ b ∨ b + y ≤ a
    let poolSize := n.toNat * stride.toNat
    let legal := 512 ≤ w.toNat ∧ w.toNat ≤ 4608 ∧ w.toNat % 64 = 0 ∧ 384 ≤ h.toNat ∧ h.toNat ≤ 3456 ∧ h.toNat % 48 = 0 ∧
      4 ≤ n.toNat ∧ n.toNat ≤ 32 ∧ stride.toNat % 4096 = 0 ∧ w.toNat * h.toNat * 2 ≤ stride.toNat ∧
      pool.toNat % 4096 = 0 ∧ pool.toNat + poolSize ≤ 2 ^ 32 ∧ cap.toNat % 0x2000000 = 0 ∧ view.toNat % 0x2000000 = 0 ∧
      1 ≤ k.toNat ∧ k.toNat ≤ 3 ∧ apart cap.toNat 0x2000000 view.toNat 0x2000000 ∧
      apart cap.toNat 0x2000000 region 0x100000 ∧ apart cap.toNat 0x2000000 pool.toNat poolSize ∧
      apart view.toNat 0x2000000 region 0x100000 ∧ apart view.toNat 0x2000000 pool.toNat poolSize ∧
      apart region 0x100000 pool.toNat poolSize
    let c : FrameConfig := { width := w.toNat, height := h.toNat, captureBase := cap.toNat, viewBase := view.toNat,
                             poolBase := pool.toNat, stride := stride.toNat, slotCount := n.toNat, latency := k.toNat }
    let o := s.command.config
    let sameLayout := s.command.valid = true ∧ o.poolBase = c.poolBase ∧ o.stride = c.stride ∧ o.slotCount = c.slotCount ∧
      o.width = c.width ∧ o.height = c.height
    let keptHeld := s.command.valid = true ∧ ¬ sameLayout ∧ ∃ e ∈ s.slots.table, e.state = .kept
    (s.command.mode = .view → out = .next (settle s (answered 0x0A01 tag .notReady 0 s))) ∧
    (s.command.mode = .standby → ¬ legal → out = .next (settle s (answered 0x0A01 tag .badParameter 0 s))) ∧
    (s.command.mode = .standby → legal → keptHeld → out = .next (settle s (answered 0x0A01 tag .conflict 0 s))) ∧
    (s.command.mode = .standby → legal → ¬ keptHeld →
      let u := { s with command := { s.command with config := c, valid := true } }
      let rebuilt := { u with
        slots := { s.slots with
          table := List.replicate n.toNat Slot.reset,
          imageWaiting := s.slots.imageWaiting ++ (List.range 32).filter (fun i => !s.slots.imageWaiting.contains i) },
        steady := { s.steady with source := none } }
      let centre : AxisState := { o16 := 0, run := 0, panning := false }
      let resized := { rebuilt with
        stats := { s.stats with rowReference := none, profileReference := none, det100 := .reset, det120 := .reset },
        steady := { rebuilt.steady with axisX := centre, axisY := centre, geometryValid := false, enable := false, mx := 0,
                                        my := 0 } }
      let done := fun (v : State) => out = .next (settle s (answered 0x0A01 tag .done 0 (evalBufferHigh v)))
      (sameLayout → done u) ∧
      (¬ sameLayout → o.width = c.width → o.height = c.height → done rebuilt) ∧
      (o.width ≠ c.width ∨ o.height ≠ c.height → done resized))

/-- SET MODE (R157) with a mode byte other than STANDBY's: BAD_PARAMETER for a value that is not VIEW; in VIEW, DONE and no
change; in STANDBY, NOT_READY unless the configuration is valid, the lens READY and a cam and a PROGRAM table committed;
and then VIEW, with what each block does on entering it.
SET MODE STANDBY (R157, R158): in STANDBY, DONE and no change. In VIEW the mode is STANDBY; the frame in progress is abandoned,
its slot FREE and its measuring, exposure latch and steady latch discarded (R12, R20); the search is IDLE with its report,
and one that held a lock drops its reference (R106); an open view pass is CLOSED with the unpin of its slot (R125); and the
Capture Unit ends a RUNNING capture, or an ARMED one once each held frame is released, oldest first, or takes the command
up when its work in hand ends (R129, R138). The lens, the zoom, the sequence number and the ring are as they were.
The split of SET MODE over two rows, what waits for the Capture Unit, what stays of the scene reference, and the frame 0 of the
focus report are the model's reading (log entries 17, 24, 27 and 36), and the order of the reports its choice (log entries 20
and 62). -/
def Obligations.SetModeEntersAndLeavesView : Prop :=
  (∀ (tag : BitVec 16) (mode : BitVec 8) (s : State), CommandArrives s →
    let out := exec (.setModeView tag mode) s
    let ready := s.command.valid = true ∧ s.lens.mode = .ready ∧ s.command.camMark = true ∧ s.command.programMark = true
    (mode ≠ 0 → mode ≠ 1 → out = .next (settle s (answered 0x0A02 tag .badParameter 0 s))) ∧
    (mode = 1 → s.command.mode = .view → out = .next (settle s (answered 0x0A02 tag .done 0 s))) ∧
    (mode = 1 → s.command.mode = .standby → ¬ ready → out = .next (settle s (answered 0x0A02 tag .notReady 0 s))) ∧
    (∀ d, mode = 1 → s.command.mode = .standby → ready → s.zoom.derived = some d →
      out = .next (settle s (answered 0x0A02 tag .done 0
        { s with
            command := { s.command with mode := .view },
            stats := { s.stats with rowReference := none, profileReference := none },
            exposure := { s.exposure with
              held := { focal := d.focal, alOpen := d.alOpen, stops := d.stops, stepAl := d.stepAl },
              history := [], firstIssue := true, settled := false, settleRun := 0,
              scene := { s.exposure.scene with valid := false } },
            steady := { s.steady with axisX := { o16 := 0, run := 0, panning := false },
                                      axisY := { o16 := 0, run := 0, panning := false }, note := none } })))) ∧
  (∀ (tag : BitVec 16) (s : State), CommandArrives s →
    (s.command.mode = .standby → exec (.setModeStandby tag) s = .next (settle s (answered 0x0A02 tag .done 0 s)) ∧
      exec (.setModeView tag 0) s = .next (settle s (answered 0x0A02 tag .done 0 s))) ∧
    (s.command.mode = .view →
      let f := s.focus
      let c := s.capture
      let answers := fun (u : State) =>
        exec (.setModeStandby tag) s = .next (settle s u) ∧ exec (.setModeView tag 0) s = .next (settle s u)
      let abandoned := fun (n : BitVec 32) => s.slots.tracker.inProgress.any (fun x => x.1 == n)
      let table := match s.slots.tracker.inProgress with
        | some (_, i) => s.slots.table.modify i
            (fun e => { e with state := .free, recordFrame := 0, lastFrame := 0, record := .reset })
        | none => s.slots.table
      let pass := s.steady.pass
      let unpins := if pass.status = .closed then [] else pass.pinned.toList.map PinMessage.unpin
      let left := { s with
        command := { s.command with mode := .standby },
        slots := { s.slots with table := table, tracker := { s.slots.tracker with inProgress := none },
                                pinMessages := s.slots.pinMessages ++ unpins },
        stats := { s.stats with measuring := if s.slots.tracker.inProgress = none then s.stats.measuring else none },
        exposure := { s.exposure with
          latches := s.exposure.latches.filter (fun l => !abandoned l.frame),
          messages := s.exposure.messages ++
            (if f.search = .locked ∨ f.search = .monitor ∨ f.search = .failed then [.drop] else []) },
        steady := { s.steady with
          latches := s.steady.latches.filter (fun l => !abandoned l.frame),
          pass := if pass.status = .closed then pass else { pass with status := .closed, pinned := none, completions := 0 } },
        focus := if f.search = .idle then f
          else { f with search := .idle, aeHold := false, samples := [], best := none, plan := [], moveMark := false } }
      let u := if f.search = .idle then left else reportFocus f.search { cause := .standby } left
      let ended := captureEvent { event := .ended, detail := endCauseCode .standby, countA := c.keptCount,
                                  skipCount := c.skipCount } { u with capture := { c with mode := .idle } }
      (c.work = none → c.mode = .idle → answers (answered 0x0A02 tag .done 0 u)) ∧
      (c.work = none → c.mode = .running ∨ (c.mode = .armed ∧ c.heldList = []) →
        answers (answered 0x0A02 tag .done 0 ended)) ∧
      (∀ e rest, c.work = none → c.mode = .armed → c.heldList = e :: rest →
        let ask : SlotRequest := { kind := .unhold, slot := e.slot, frame := e.frame, captureId := 0, index := 0 }
        answers (executing 0x0A02 tag { u with
          slots := { u.slots with captureRequest := some ask },
          capture := { c with work := some (.stopping rest .modeStandby) } })) ∧
      (c.work ≠ none → answers (executing 0x0A02 tag { u with capture := { c with command := some .standby } })) ∧
      (HoldMatchesSearch s → u.focus.search = .idle ∧ u.focus.aeHold = false)))

/-- LOAD TABLE (R159) up to the fetch of the header: the three tests in their order, and otherwise a new staging buffer
and a read of one word at the image address, which waits behind the unit's other reads.
TABLE_FETCH_RETURN (R159): a return under a tag that carries no table fetch changes nothing. The header's return with
OK but of another kind or with a count out of range completes with BAD_PARAMETER; its return with ERROR completes with
MEMORY_ERROR; a header in order asks for the rest of the image, in reads of up to 32 words in address order. A later return
with OK places its bytes, the last one finishing the image; a return with ERROR, or one after it, drops the reads not yet
issued and completes with MEMORY_ERROR once those in flight have returned.
An image that has arrived whole (R84, R87, R159, R160) is refused with BAD_PARAMETER when its sum is not 0 modulo 2^32 or a
test of its kind fails, and is otherwise committed whole with its mark set and DONE, the tables of the other kinds as they
were; a cam table forms the derived values, brings a zoom target above the new z_max down to it with a request to the Lens
Drive, and clears the fresh mark.
What becomes of the other fetches after one that failed, and of an image that ends above the address space, is the model's
reading (log entries 21 and 22); that the reads but the last are of 32 words is its choice (log entry 64). -/
def Obligations.LoadTableFetchesChecksAndCommits : Prop :=
  (∀ (tag : BitVec 16) (kind : BitVec 8) (addr : BitVec 32) (s : State), CommandArrives s →
    let out := exec (.loadTable tag kind addr) s
    let k : TableKind := if kind = 1 then .cam else if kind = 2 then .program else .weights
    let known := kind = 1 ∨ kind = 2 ∨ kind = 3
    (¬ known → out = .next (settle s (answered 0x0A03 tag .badParameter 0 s))) ∧
    (kind = 1 → s.command.mode = .view → out = .next (settle s (answered 0x0A03 tag .notReady 0 s))) ∧
    (known → ¬ (kind = 1 ∧ s.command.mode = .view) → addr.toNat % 16 ≠ 0 →
      out = .next (settle s (answered 0x0A03 tag .badParameter 0 s))) ∧
    (known → ¬ (kind = 1 ∧ s.command.mode = .view) → addr.toNat % 16 = 0 →
      out = .next (settle s (executing 0x0A03 tag { s with command := { s.command with
        staging := some { kind := k, address := addr.toNat, length := none, image := [], outstanding := [0],
                          failed := false },
        waitingReads := s.command.waitingReads ++
          [{ purpose := .tableFetch 0, addr := addr.toNat, words := 1, data := [] }] } })))) ∧
  (∀ (tag : Nat) (error : Bool) (data : List LinkWord) (s : State),
    ((∀ off, { dtag := tag, purpose := .tableFetch off } ∉ s.link.ownReads) →
      exec (.tableFetchReturn tag error data) s = .next s) ∧
    ∀ (k : TableKind) (a : Nat) (h : InHand), s.command.inHand = some h →
      (s.link.ownReads.find? (fun o => o.dtag == tag)) = some { dtag := tag, purpose := .tableFetch 0 } →
      s.command.staging = some { kind := k, address := a, length := none, image := [], outstanding := [0],
                                 failed := false } →
      s.command.waitingReads = [] →
      let u := { s with link := { s.link with ownReads := s.link.ownReads.filter (fun o => o.dtag != tag) },
                        command := { s.command with staging := none } }
      let byte := fun (i : Nat) => ((dataBytes data)[i]?.getD 0).toNat
      let counts := fun (n : Nat) => match k with
        | .cam => 2 ≤ n ∧ n ≤ 24
        | .program => n = 1
        | .weights => 1 ≤ n ∧ n ≤ 4
      (error = true → exec (.tableFetchReturn tag error data) s =
        .next (settle s (completedWith h .memoryError 0 u))) ∧
      (error = false → ¬ (byte 0 = tableKindCode k ∧ counts (byte 1)) → exec (.tableFetchReturn tag error data) s =
        .next (settle s (completedWith h .badParameter 0 u))) ∧
      (error = false → k = .program → byte 0 = 2 → byte 1 = 1 → a % 16 = 0 → a + 32 ≤ 2 ^ 32 → 16 ≤ (dataBytes data).length →
        exec (.tableFetchReturn tag error data) s = .next (settle s { u with command := { u.command with
          staging := some { kind := .program, address := a, length := some 32,
                            image := (dataBytes data).take 16 ++ List.replicate 16 0, outstanding := [16],
                            failed := false },
          waitingReads := [{ purpose := .tableFetch 16, addr := a + 16, words := 1, data := [] }] } })) ∧
      (error = false → byte 0 = tableKindCode k → counts (byte 1) → a % 16 = 0 → a < 2 ^ 32 → 16 ≤ (dataBytes data).length →
        let length := 16 + match k with
          | .cam => 16 * byte 1
          | .program => 16
          | .weights => 192 * byte 1
        let words := min (length / 16 - 1) ((2 ^ 32 - (a + 16)) / 16)
        let reads := if words = 0 then [] else if words ≤ 32 then [(16, words)] else [(16, 32), (528, words - 32)]
        let t : Staging := { kind := k, address := a, length := some length,
                             image := (dataBytes data).take 16 ++ List.replicate (length - 16) 0,
                             outstanding := reads.map (·.1), failed := false }
        (reads = [] → exec (.tableFetchReturn tag error data) s = .next (settle s (finishImage t u))) ∧
        (reads ≠ [] → exec (.tableFetchReturn tag error data) s = .next (settle s { u with command := { u.command with
          staging := some t,
          waitingReads := reads.map (fun x =>
            { purpose := .tableFetch x.1, addr := a + x.1, words := x.2, data := [] }) } })))) ∧
  (∀ (tag off : Nat) (error : Bool) (data : List LinkWord) (t : Staging) (s : State),
    (s.link.ownReads.find? (fun o => o.dtag == tag)) = some { dtag := tag, purpose := .tableFetch off } →
    s.command.staging = some t → error = true ∨ t.failed = true →
    let offset := fun (o : OwnRequest) => match o.purpose with
      | .tableFetch x => some x
      | _ => none
    let dropped := s.command.waitingReads.filterMap offset
    let left := t.outstanding.filter (fun x => x != off && !dropped.contains x)
    let u := { s with
      link := { s.link with ownReads := s.link.ownReads.filter (fun o => o.dtag != tag) },
      command := { s.command with waitingReads := s.command.waitingReads.filter (fun o => (offset o).isNone) } }
    (∀ h, s.command.inHand = some h → left = [] → exec (.tableFetchReturn tag error data) s =
      .next (settle s (completedWith h .memoryError 0 { u with command := { u.command with staging := none } }))) ∧
    (left ≠ [] → exec (.tableFetchReturn tag error data) s = .next (settle s { u with command := { u.command with
      staging := some { t with outstanding := left, failed := true } } }))) ∧
  (∀ (tag off n : Nat) (data : List LinkWord) (t : Staging) (s : State),
    (s.link.ownReads.find? (fun o => o.dtag == tag)) = some { dtag := tag, purpose := .tableFetch off } →
    s.command.staging = some t → t.length = some n → t.failed = false →
    let u := { s with link := { s.link with ownReads := s.link.ownReads.filter (fun o => o.dtag != tag) } }
    let bytes := dataBytes data
    let t' := { t with outstanding := t.outstanding.filter (· != off),
                       image := t.image.take off ++ (bytes.take (t.image.length - off) ++ t.image.drop (off + bytes.length)) }
    (t.outstanding = [off] → exec (.tableFetchReturn tag false data) s = .next (settle s (finishImage t' u))) ∧
    (t'.outstanding ≠ [] → exec (.tableFetchReturn tag false data) s =
      .next (settle s { u with command := { s.command with staging := some t' } }))) ∧
  (∀ (t : Staging) (h : InHand) (s : State), s.command.inHand = some h →
    let image := t.image
    let field := fun (off n : Nat) => leValue ((image.drop off).take n)
    let count := field 1 1
    let done := { s.command with staging := none }
    let refused := finishImage t s = completedWith h .badParameter 0 { s with command := done }
    let sound := sumWords image % 2 ^ 32 = 0
    (¬ sound → refused) ∧
    (t.kind = .program →
      let p : ProgramTable := { tlMin := field 16 2, tlMax := field 18 2, glMax := field 20 1, credit := field 21 1,
                                crop := field 22 1 }
      let legal := 190 ≤ p.tlMin ∧ p.tlMin ≤ p.tlMax ∧ p.tlMax ≤ 793 ∧ p.glMax ≤ 192 ∧ p.credit ≤ 96 ∧ 16 ≤ p.crop ∧
        p.crop ≤ 160
      (¬ legal → refused) ∧
      (sound → legal → finishImage t s = completedWith h .done 0
        { s with command := { done with programMark := true }, exposure := { s.exposure with program := p } })) ∧
    (t.kind = .cam →
      let node := fun (j : Nat) =>
        let at' := fun (o n : Nat) => field (16 + 16 * j + o) n
        ({ zoom := at' 0 2, focal := at' 2 2, alOpen := at' 4 2, stops := at' 6 1, stepAl := at' 7 1, pInf := at' 8 2,
           pNear := at' 10 2, coarse := at' 12 2 } : CamNode)
      let inRange := fun (n : CamNode) => n.zoom ≤ 1023 ∧ 1 ≤ n.focal ∧ n.focal ≤ 65535 ∧ 64 ≤ n.alOpen ∧ n.alOpen ≤ 320 ∧
        1 ≤ n.stops ∧ n.stops ≤ 6 ∧ 8 ≤ n.stepAl ∧ n.stepAl ≤ 64 ∧ n.pInf ≤ 2046 ∧ n.pInf + 1 ≤ n.pNear ∧
        n.pNear ≤ 2047 ∧ 8 ≤ n.coarse ∧ n.coarse ≤ 128
      let nodes := (List.range count).map node
      let legal := 2 ≤ count ∧ count ≤ 24 ∧ (node 0).zoom = 0 ∧ (∀ j < count - 1, (node j).zoom < (node (j + 1)).zoom) ∧
        ∀ j < count, inRange (node j)
      let zMax := (node (count - 1)).zoom
      let formed := { s.zoom with cam := nodes, derived := derive s.lens.zoom.position nodes, fresh := false }
      let above := ∃ z, s.zoom.target = some z ∧ zMax < z
      (¬ legal → refused) ∧
      (sound → legal → ¬ above → finishImage t s = completedWith h .done 0
        { s with command := { done with camMark := true }, zoom := formed }) ∧
      (sound → legal → above → finishImage t s = completedWith h .done 0
        { s with command := { done with camMark := true }, zoom := { formed with target := some zMax },
                 lens := { s.lens with fromZoom := s.lens.fromZoom ++ [.target .zoom zMax .camCommit] } })) ∧
    (t.kind = .weights →
      let pattern := fun (j : Nat) => ((image.drop (16 + 192 * j)).take 192).map BitVec.toNat
      let legal := ∀ j < count, ∀ w ∈ pattern j, w ≤ 15
      (¬ legal → refused) ∧
      (sound → legal → finishImage t s = completedWith h .done 0
        { s with command := { done with weightsMark := true },
                 stats := { s.stats with patterns := (List.range count).map pattern } })))

/-- SOFT RESET (R161 and the reset rules of the blocks: R19, R39, R65, R82, R94, R112, R128, R140): the mode is STANDBY, the
staging buffer empty; the frame in progress is abandoned and its slot FREE with a cleared record, FILLED and HELD slots are
FREE with theirs, KEPT slots stay, every pin is 0; each block has the values its rule gives and keeps the rest, its parameters
and tables among it; a lens segment in flight runs to its end, the moves that wait being dropped without notices, and without
one every motor is IDLE and the lens state settles; and the command waits in EXECUTING.
SOFT_RESET_COMPLETE (R161, R170): while a SOFT RESET is in hand and its last lens segment has ended, the ring restarts at
the head copy with the counters 0 and the lost mark clear, the reports that wait but completions are removed, the report
writes in the own-traffic queue lose their entries (R170), the SOFT RESET completion is given, and the command head becomes
the tail copy; each held LENS EVENT is given behind it (R82), and the buffer-high flag is evaluated with its event (R135,
R140), as `CaptureUnitTakesMessagesAndAnswers` says; nothing else changes, and otherwise nothing happens.  (With more than 11
held LENS EVENTs, which no run holds, some would be lost after the counters were cleared.)
What a SOFT RESET discards, and the order of the reports after its completion, are the model's (log entries 18, 35 and 56), and
so are the numbers of the window sets (log entry 53). -/
def Obligations.SoftResetResetsAndResynchronises : Prop :=
  (∀ (tag : BitVec 16) (s : State), CommandArrives s →
    let l := s.lens
    let flies := l.segment ≠ none
    let waits := fun (st : MotorState) => st = .pending ∨ st = .preempted
    let rests := fun (r : MotorRecord) => if ¬ flies ∨ waits r.state then { r with state := .idle } else r
    let mode : LensMode := if flies then l.mode else if l.mode = .homing then .unhomed else if l.mode = .parking then .ready
      else l.mode
    let pass := s.steady.pass
    let unpins := (if pass.status = .closed then [] else pass.pinned.toList) ++ s.steady.source.toList
    let centre : AxisState := { o16 := 0, run := 0, panning := false }
    let handovers := s.zoom.fromLens.filter (·.isHandover)
    ∃ u : State, exec (.softReset tag) s = .next (settle s (executing 0x0A04 tag u)) ∧
      u = { s with
        command := { s.command with mode := .standby, staging := none },
        slots := { s.slots with
          table := u.slots.table, tracker := { inProgress := none, expected := 0, stored := 0, torn := false },
          captureRequest := none, captureAnswer := none, pinMessages := s.slots.pinMessages ++ unpins.map PinMessage.unpin },
        stats := { s.stats with measuring := none, buffer := none, rowReference := none, profileReference := none },
        exposure := { s.exposure with
          history := [], firstIssue := true, latches := [], work := [], messages := [], settled := false,
          lightHigh := false, lightLow := false, settleRun := 0,
          scene := { s.exposure.scene with valid := false, run := 0 } },
        lens := { l with
          mode := mode, zoom := rests l.zoom, focus := rests l.focus, iris := rests l.iris, stack := [],
          current := if flies then l.current else none, homing := if flies then l.homing else none,
          draining := decide flies, fromZoom := l.fromZoom.filter (· == .trackingAnswer), fromFocus := [],
          fromExposure := [] },
        zoom := { s.zoom with
          target := none, moving := false, fresh := false, fromFocus := [], silent := handovers.length,
          derived := if ¬ flies ∧ mode = .ready then derive l.zoom.position s.zoom.cam else s.zoom.derived,
          fromLens := handovers ++ (if l.zoom.state ≠ .idle ∧ (rests l.zoom).state = .idle then [.finish] else []) ++
            (if mode = l.mode then [] else [.lensState mode]) },
        focus := { s.focus with
          search := .idle, forward := true, coarseStep := 0, fineStep := 0, startPosition := 0, sweep := 1, framesUsed := 0,
          farRun := 0, lastFailure := .noReason, samples := [], best := none, plan := [], peakTarget := 0,
          moveMark := false, lockFigure := 0, baselinePending := false, windowSet := 0, baselineSet := 0,
          zoomPause := false, dropRun := 0, aeHold := false, lensTold := if mode = l.mode then s.focus.lensTold else mode,
          work := [], fromLens := [], fromZoom := [], fromExposure := [] },
        steady := { s.steady with
          axisX := centre, axisY := centre, latches := [], work := [], note := none, source := none,
          pass := if pass.status = .closed then pass
            else { pass with status := .closed, pinned := none, completions := 0 } },
        capture := { s.capture with
          mode := .idle, heldList := [], effectiveP := 0, burst := 0, keptCount := 0, skipCount := 0, nextIndex := 1,
          work := none, command := none } } ∧
      u.slots.table.length = s.slots.table.length ∧
      (∀ n i e, s.slots.tracker.inProgress = some (n, i) → s.slots.table[i]? = some e →
        u.slots.table[i]? = some { e with state := .free, recordFrame := 0, lastFrame := 0, record := .reset, pins := 0 }) ∧
      (∀ i e, s.slots.table[i]? = some e → (∀ n, s.slots.tracker.inProgress ≠ some (n, i)) →
        u.slots.table[i]? = some (if e.state = .filled ∨ e.state = .held
          then { e with state := .free, lastFrame := e.recordFrame, recordFrame := 0, pins := 0 }
          else { e with pins := 0 }))) ∧
  (∀ s : State,
    let due := s.command.cycle = .executing ∧ (∃ tag, s.command.inHand = some { code := 0x0A04, tag := tag }) ∧
      s.lens.draining = false
    (¬ due → exec .softResetComplete s = .next s) ∧
    (due → ∃ t, exec .softResetComplete s = .next t ∧
      (∀ h, s.command.inHand = some h →
        let r := { s.report with
          writeCount := s.report.headCopy, entries := [], highWater := false, attention := false, lostMark := false,
          lost := { frame := 0, focus := 0, lens := 0, capture := 0 }, statusWaiting := true,
          waiting := s.report.waiting.filter Report.isCompletion ++ [.commandDone 0x0A04 h.tag s.command.head .done 0] }
        let forget := fun (o : OwnRequest) => match o.purpose with
          | .report _ => { o with purpose := .report none }
          | _ => o
        t = settle s (evalBufferHigh { s with
          report := s.lens.heldEvents.foldl (fun r e => giveGeneral (.lensEvent e) r) r,
          link := { s.link with ownQueue := s.link.ownQueue.map forget },
          command := { s.command with head := s.command.tail, cycle := .idle, inHand := none },
          lens := { s.lens with heldEvents := [] } })) ∧
      (s.lens.heldEvents.length ≤ 11 → ∃ h tail, s.command.inHand = some h ∧
        t.report.waiting = s.report.waiting.filter Report.isCompletion ++
          [.commandDone 0x0A04 h.tag s.command.head .done 0] ++ s.lens.heldEvents.map Report.lensEvent ++ tail ∧
        (t.capture.bufferHigh = s.capture.bufferHigh → tail = []) ∧
        (t.capture.bufferHigh ≠ s.capture.bufferHigh → ∃ e : CaptureReport, tail = [.captureEvent e] ∧
          (e.event, e.keptSlots, e.heldSlots) = (if t.capture.bufferHigh then .bufferHigh else .bufferLow,
            countSlots s .kept, countSlots s .held))) ∧
      t.report.writeCount = s.report.headCopy ∧ t.report.headCopy = s.report.headCopy ∧ t.report.entries = [] ∧
      t.report.highWater = false ∧ t.report.attention = false ∧ t.report.mask = s.report.mask ∧
      t.report.statusWaiting = true ∧
      (s.lens.heldEvents.length ≤ 11 → t.report.lostMark = false ∧
        t.report.lost = { frame := 0, focus := 0, lens := 0, capture := 0 }) ∧
      (∃ tag rest, s.command.inHand = some { code := 0x0A04, tag := tag } ∧
        t.report.waiting = s.report.waiting.filter Report.isCompletion ++
          [.commandDone 0x0A04 tag s.command.head .done 0] ++ rest ∧ ∀ r ∈ rest, r.isCompletion = false) ∧
      t.command.head = s.command.tail ∧ t.command.tail = s.command.tail ∧ t.command.cycle = .idle ∧
      t.slots.table = s.slots.table ∧ t.lens.heldEvents = []))

/-- A fetch that returns ERROR (R154): the entry is not executed, its completion carries MEMORY_ERROR with command code 0
and tag 0xFFFF, and the head rises past it. -/
def Obligations.FailedFetchCompletesWithMemoryError : Prop :=
  ∀ s : State, CommandArrives s →
    exec .memoryError s = .next (settle s (answered 0 0xFFFF .memoryError 0 s))

/-- COMMAND_FETCH (R152): in IDLE, with a tail other than the head and fewer than 4 completions waiting, the read of 4
words at the head's ring position is issued and the cycle is FETCHING; otherwise nothing happens.
A code that names no command is completed at once with UNKNOWN_COMMAND, its own code and tag (R153); the row stands for
no other code. -/
def Obligations.CommandsAreFetchedFromTheRing : Prop :=
  (∀ s : State,
    let due := s.command.cycle = .idle ∧ s.command.tail ≠ s.command.head ∧
      (s.report.waiting.filter Report.isCompletion).length < 4
    (¬ due → exec .commandFetch s = .next s) ∧
    (due → exec .commandFetch s = .next (settle s { s with command := { s.command with
      cycle := .fetching,
      waitingReads := s.command.waitingReads ++
        [{ purpose := .commandFetch, words := 4, data := [],
           addr := s.link.strap.toNat * 0x20000000 + 0x1FF00000 + 0x4000 + s.command.head.toNat % 256 * 64 }] } }))) ∧
  (∀ (code tag : BitVec 16) (s : State), CommandArrives s →
    let named := code ∈ ([0x0201, 0x0301, 0x0302, 0x0303, 0x0304, 0x0401, 0x0402, 0x0403, 0x0501, 0x0502, 0x0601, 0x0602,
      0x0603, 0x0604, 0x0605, 0x0701, 0x0702, 0x0703, 0x0801, 0x0802, 0x0803, 0x0A01, 0x0A02, 0x0A03, 0x0A04] : List (BitVec 16))
    (¬ named → exec (.unknownCommand code tag) s = .next (settle s (answered code tag .unknownCommand 0 s))) ∧
    (named → exec (.unknownCommand code tag) s = .next s))

/-! ## The pass-through path -/

/-- HOST_REQUEST (R141, R142): a request the link can carry enters the arrival buffer last while it holds fewer than 16;
otherwise flow control holds it back and nothing changes.
The head of the arrival buffer may be taken only when all downstream requests of the one before it are granted, a read only
when its host tag has no read in flight, and a write whose capture piece would complete a frame only while the completion
buffer is empty (R142).  The row of its kind then takes it whole: the request leaves the buffer, a read gets an all-zero
entry in the read-tag map (R146), and its pieces are handled in address order; a row that is not of its kind changes nothing.
That a request is taken in one step, which row stands for it, and that one the link cannot carry has no effect, are the
model's (log entries 10 and 32). -/
def Obligations.RequestsArriveAndAreTakenInOrder : Prop :=
  (∀ (r : HostRequest) (s : State),
    let taken := r.wellFormed = true ∧ s.link.arrival.length < 16
    (taken → exec (.hostRequest r) s = .next (settle s { s with link := { s.link with arrival := s.link.arrival ++ [r] } })) ∧
    (¬ taken → exec (.hostRequest r) s = .next s)) ∧
  (∀ s : State,
    (s.link.hostDown ≠ [] ∨ s.link.arrival = [] → headRequest s = none) ∧
    (∀ r rest, s.link.hostDown = [] → s.link.arrival = r :: rest →
      let waits := match r with
        | .read tag _ _ => ∃ e ∈ s.link.readMap, e.tag = tag.toNat
        | .write _ _ => ∃ p ∈ requestPieces s r, p.region = .capture ∧ s.command.mode = .view ∧ s.stats.buffer ≠ none ∧
            s.slots.tracker.inProgress ≠ none ∧ p.addr - s.command.config.captureBase ≠ 0 ∧
            p.addr - s.command.config.captureBase < frameSize s ∧
            frameSize s ≤ p.addr - s.command.config.captureBase + 16 * p.words
      (waits → headRequest s = none) ∧ (¬ waits → headRequest s = some r))) ∧
  (∀ (now : Nat) (s : State),
    let base := s.link.strap.toNat * 0x20000000 + 0x1FF00000
    let write := fun (r : HostRequest) => ∃ a d, r = .write a d
    let covers := fun (g : Region) (r : HostRequest) => ∃ p ∈ requestPieces s r, p.region = g
    let plain := fun (r : HostRequest) => ¬ covers .capture r ∧ ¬ covers .view r
    let hands := fun (r : HostRequest) (f : BlockField) => write r ∧ ∃ p ∈ requestPieces s r, p.region = .plain ∧
      f ∈ blockFields base p
    let takes := fun (c : Instr) (kind : HostRequest → Prop) (t : Nat) =>
      (∀ r, headRequest s = some r → kind r → exec c s = .next (settle s (takeRequest t r s))) ∧
      ((∀ r, headRequest s = some r → ¬ kind r) → exec c s = .next s)
    takes .plainRequest (fun r => plain r ∧ ∀ f, ¬ hands r f) 0 ∧
    takes .commandTail (fun r => plain r ∧ ∃ v, hands r (.tail v)) 0 ∧
    takes .triggerToggle (fun r => plain r ∧ ∃ v, hands r (.toggle v)) 0 ∧
    takes .reportHead (fun r => plain r ∧ ∃ v, hands r (.head v)) 0 ∧
    takes .attentionMask (fun r => plain r ∧ ∃ v, hands r (.mask v)) 0 ∧
    takes (.captureApertureWrite now) (fun r => write r ∧ covers .capture r) now ∧
    takes .captureApertureRead (fun r => ¬ write r ∧ covers .capture r) 0 ∧
    takes .viewApertureRead (fun r => ¬ write r ∧ covers .view r) 0 ∧
    takes .viewWrite (fun r => write r ∧ covers .view r ∧ ¬ covers .capture r) 0) ∧
  (∀ (now : Nat) (s : State),
    let popped := { s with link := { s.link with arrival := s.link.arrival.tail } }
    (∀ a d, takeRequest now (.write a d) s = (requestPieces s (.write a d)).foldl (writePiece now) popped) ∧
    (∀ tag a n, takeRequest now (.read tag a n) s = deliverTag tag.toNat
      ((requestPieces s (.read tag a n)).foldl (readPiece tag.toNat)
        { popped with link := { popped.link with readMap := s.link.readMap ++
          [{ tag := tag.toNat, bytes := List.replicate (16 * n) 0, fetches := [], error := false, pass := none }] } })))

/-- A request is cut at every range boundary and nowhere else (R143): its pieces hold its words below the top of the
address space, each once and in address order, every word of a piece is of the piece's class, adjacent pieces differ in
class, and no piece is empty.  The pieces of a read are these, and those of a write are these with the write's own words, each
piece with the words at its place.  A word is of class capture or view when it lies in the 32 MiB from that aperture's base, once
a CONFIGURE FRAME has succeeded, and plain otherwise. -/
def Obligations.RequestsAreCutAtRangeBoundaries : Prop :=
  (∀ (c : FrameConfig) (valid : Bool) (a : Nat),
    let inside := fun (base : Nat) => valid = true ∧ base ≤ a ∧ a < base + 0x2000000
    (regionAt c valid a = .capture ↔ inside c.captureBase) ∧
    (regionAt c valid a = .view ↔ inside c.viewBase ∧ ¬ inside c.captureBase)) ∧
  ∀ (s : State) (a n : Nat),
    let ps := piecesOf s a n
    ps.flatMap (fun p => (List.range p.words).map (fun j => p.addr + 16 * j)) =
      (List.range (min n ((2 ^ 32 - a) / 16))).map (fun j => a + 16 * j) ∧
    (∀ p ∈ ps, 1 ≤ p.words ∧ a ≤ p.addr ∧ p.place = p.addr - a ∧
      ∀ j < p.words, p.region = regionAt s.command.config s.command.valid (p.addr + 16 * j)) ∧
    (∀ i p q, ps[i]? = some p → ps[i + 1]? = some q → p.region ≠ q.region) ∧
    (∀ (tag : BitVec 6) (b : BitVec 32), requestPieces s (.read tag b n) = piecesOf s b.toNat n) ∧
    ∀ (b : BitVec 32) (d : List LinkWord),
      (requestPieces s (.write b d)).map (fun p => (p.region, p.addr, p.words, p.place)) =
        (piecesOf s b.toNat d.length).map (fun p => (p.region, p.addr, p.words, p.place)) ∧
      (∀ p ∈ requestPieces s (.write b d), p.data = (d.drop (p.place / 16)).take p.words ∧ p.data.length = p.words) ∧
      (requestPieces s (.write b d)).flatMap (·.data) = d.take ((2 ^ 32 - b.toNat) / 16)

/-- PLAIN_REQUEST (R143, R146): a plain write that covers no Control Block field is forwarded at its own address with its own
data; a plain read is fetched at its own address with the first downstream tag 4t of its host tag, for its place in the
response. Neither reaches another block.
CAPTURE_APERTURE_READ in VIEW (R14): the words below the frame size are fetched from the filling slot's base plus their
offset; with no frame in progress, or beyond the frame size, nothing is fetched, and the read is answered at once with the
zeros of its entry.
The Control Block fields (R145, R172): tail in bits 15 to 0 and toggle in bit 32 of the word at 0x00, head in bits 15 to 0
and mask in bits 39 to 32 of the word at 0x10.  TRIGGER_TOGGLE and ATTENTION_MASK: every field the write covers is handed over
in that order and the write is then forwarded unchanged; the mask copy takes every mask handed over and the line is
evaluated (R168); a toggle that differs from the acknowledge toggle as it is handed on goes to the Capture Unit behind the
messages that wait, and an equal one is no trigger and changes nothing (R132).
The clauses speak of requests that lie in one range; that one step takes a request and which row stands for it is the
model's (log entry 10), and so is the order of the fields (log entry 11). -/
def Obligations.PlainPiecesAndFieldsPassThrough : Prop :=
  (∀ (s : State) (r : HostRequest) (p : Piece), headRequest s = some r → requestPieces s r = [p] →
    let link := { s.link with arrival := s.link.arrival.tail }
    (∀ a d, r = .write a d → p.region = .plain → blockFields (s.link.strap.toNat * 0x20000000 + 0x1FF00000) p = [] →
      exec .plainRequest s = .next (settle s { s with link := { link with hostDown := [.write p.addr p.data] } })) ∧
    (∀ tag a n, r = .read tag a n →
      let entry := fun (f : List HostFetch) => ({ tag := tag.toNat, bytes := List.replicate (16 * n) 0, fetches := f,
                                                  error := false, pass := none } : ReadEntry)
      let fetched := fun (addr words : Nat) => { s with link := { link with
        hostDown := [.read (4 * tag.toNat) addr words],
        readMap := s.link.readMap ++ [entry [{ dtag := 4 * tag.toNat, place := p.place, skip := 0, count := 16 * words,
                                               granted := false, returned := false }]] } }
      let zeros := { s with link := { link with
        delivered := { tag := tag.toNat, error := false, bytes := List.replicate (16 * n) 0 } :: s.link.delivered } }
      (p.region = .plain → exec .plainRequest s = .next (settle s (fetched p.addr p.words))) ∧
      (p.region = .capture → s.command.mode = .view →
        let off := p.addr - s.command.config.captureBase
        let n := min p.words ((frameSize s - off) / 16)
        (s.slots.tracker.inProgress = none ∨ n = 0 → exec .captureApertureRead s = .next (settle s zeros)) ∧
        (∀ k i, s.slots.tracker.inProgress = some (k, i) → n ≠ 0 → exec .captureApertureRead s = .next (settle s
          (fetched (s.command.config.poolBase + i * s.command.config.stride + off) n)))))) ∧
  (∀ (base : Nat) (p : Piece),
    let at' := fun (off : Nat) (w : LinkWord) => p.addr ≤ base + off ∧ p.data[(base + off - p.addr) / 16]? = some w
    (∀ v, .tail v ∈ blockFields base p ↔ ∃ w, at' 0 w ∧ v = w.extractLsb' 0 16) ∧
    (∀ v, .toggle v ∈ blockFields base p ↔ ∃ w, at' 0 w ∧ v = w.getLsbD 32) ∧
    (∀ v, .head v ∈ blockFields base p ↔ ∃ w, at' 0x10 w ∧ v = w.extractLsb' 0 16) ∧
    (∀ v, .mask v ∈ blockFields base p ↔ ∃ w, at' 0x10 w ∧ v = w.extractLsb' 32 8)) ∧
  (∀ (s : State) (a : BitVec 32) (d : List LinkWord) (p : Piece), headRequest s = some (.write a d) →
    requestPieces s (.write a d) = [p] → p.region = .plain →
    let base := s.link.strap.toNat * 0x20000000 + 0x1FF00000
    let fields := blockFields base p
    let handed := fields.foldl (handField (max p.addr base))
      { s with link := { s.link with arrival := s.link.arrival.tail } }
    let done := { handed with link := { s.link with arrival := s.link.arrival.tail, hostDown := [.write p.addr p.data] } }
    (∀ v, .toggle v ∈ fields → exec .triggerToggle s = .next (settle s done)) ∧
    (∀ m, .mask m ∈ fields → exec .attentionMask s = .next (settle s done))) ∧
  (∀ (s : State) (addr : Nat) (m : BitVec 8) (v : Bool),
    handField addr s (.mask m) = { s with report := { s.report with
      mask := m, attention := s.report.entries.any (fun e => e.forwarded && m.getLsbD (classCode e.cls)) } } ∧
    (v ≠ s.capture.acknowledge → handField addr s (.toggle v) =
      { s with capture := { s.capture with messages := s.capture.messages ++ [.toggle v] } }) ∧
    (v = s.capture.acknowledge → handField addr s (.toggle v) = s))

/-- COMMAND_TAIL (R151): the tail handed over is no change when it equals the tail copy, is taken when
a ≤ (t − h) mod 65536 ≤ 256, a being 1 while a command is in hand, and otherwise raises BAD_COMMAND_TAIL with the host
address of the Control Block write.  A write that covers the tail hands its fields over, and is then forwarded unchanged
(R145).
That one step takes the write, the order of its fields, and that a fault carries the first Control Block address the write
covers, are the model's choice (log entries 10 and 11). -/
def Obligations.CommandTailIsCheckedAgainstTheHead : Prop :=
  (∀ (s : State) (t : BitVec 16) (addr : Nat),
    let u := handField addr s (.tail t)
    let a := if s.command.cycle = .idle then 0 else 1
    let d := (t - s.command.head).toNat
    (t = s.command.tail → u = s) ∧
    (t ≠ s.command.tail → a ≤ d ∧ d ≤ 256 → u = { s with command := { s.command with tail := t } }) ∧
    (t ≠ s.command.tail → ¬ (a ≤ d ∧ d ≤ 256) →
      u = { s with report := { s.report with waiting := mergeFault .badCommandTail addr s.report.waiting } })) ∧
  (∀ (s : State) (a : BitVec 32) (d : List LinkWord) (p : Piece) (t : BitVec 16), headRequest s = some (.write a d) →
    requestPieces s (.write a d) = [p] → p.region = .plain →
    let base := s.link.strap.toNat * 0x20000000 + 0x1FF00000
    let fields := blockFields base p
    let handed := fields.foldl (handField (max p.addr base))
      { s with link := { s.link with arrival := s.link.arrival.tail } }
    .tail t ∈ fields → exec .commandTail s = .next (settle s
      { handed with link := { s.link with arrival := s.link.arrival.tail, hostDown := [.write p.addr p.data] } }))

/-- REPORT_HEAD (R164): no change for the head copy's value; a head from the head copy up to the write count consumes the
entries passed; any other raises BAD_REPORT_HEAD with the host address of the Control Block write. High water is set exactly from
384 used entries on, at an accepted head and at a placement.  A write that covers the head hands its fields over, and is
then forwarded unchanged (R145).
That one step takes the write, the order of its fields, and that a fault carries the first Control Block address the write
covers, are the model's choice (log entries 10 and 11). -/
def Obligations.ReportHeadConsumesEntries : Prop :=
  (∀ (s : State) (h : BitVec 16) (addr : Nat),
    let u := handField addr s (.head h)
    let r := s.report
    let left := r.entries.drop (h - r.headCopy).toNat
    let inRange := (r.writeCount - h).toNat ≤ (r.writeCount - r.headCopy).toNat
    (h = r.headCopy → u = s) ∧
    (h ≠ r.headCopy → inRange → u = { s with report := { r with
      headCopy := h, entries := left, highWater := decide (384 ≤ (r.writeCount - h).toNat),
      attention := left.any (fun e => e.forwarded && r.mask.getLsbD (classCode e.cls)) } }) ∧
    (h ≠ r.headCopy → ¬ inRange →
      u = { s with report := { r with waiting := mergeFault .badReportHead addr r.waiting } })) ∧
  (∀ (s : State) (a : BitVec 32) (d : List LinkWord) (p : Piece) (h : BitVec 16), headRequest s = some (.write a d) →
    requestPieces s (.write a d) = [p] → p.region = .plain →
    let base := s.link.strap.toNat * 0x20000000 + 0x1FF00000
    let fields := blockFields base p
    let handed := fields.foldl (handField (max p.addr base))
      { s with link := { s.link with arrival := s.link.arrival.tail } }
    .head h ∈ fields → exec .reportHead s = .next (settle s
      { handed with link := { s.link with arrival := s.link.arrival.tail, hostDown := [.write p.addr p.data] } })) ∧
  ∀ (c : ReportClass) (r : ReportUnit), placed c r = { r with
    writeCount := r.writeCount + 1, entries := r.entries ++ [{ cls := c, forwarded := false }],
    highWater := decide (384 ≤ (r.writeCount + 1 - r.headCopy).toNat) }

/-- In STANDBY an aperture piece does not reach its block (R144): a write piece is dropped and a read piece is answered with
the zeros of its entry, no request goes to memory for it, and APERTURE_INACTIVE is raised with the piece's host address.
VIEW_WRITE in VIEW drops the piece with VIEW_WRITE (R124); VIEW_STALE closes an open pass after 4 completions, with the unpin
of an OPEN pass's slot and the fault VIEW_STALE (R125), and does nothing otherwise.  The fault's address is a free value of
the model: nothing is said of it.
That a pass is counted at each completion and closed by VIEW_STALE is the model's reading (log entry 40), and that one step
takes a request (log entry 10). -/
def Obligations.UndeliveredAperturePiecesRaiseFaults : Prop :=
  (∀ (now tag : Nat) (s : State) (p : Piece),
    let faulted := fun (c : FaultCause) => { s with report := { s.report with
      waiting := mergeFault c p.addr s.report.waiting } }
    (s.command.mode = .standby → p.region ≠ .plain →
      writePiece now s p = faulted .apertureInactive ∧ readPiece tag s p = faulted .apertureInactive) ∧
    (s.command.mode = .view → p.region = .view → writePiece now s p = faulted .viewWrite)) ∧
  (∀ (now : Nat) (s : State) (r : HostRequest) (p : Piece), headRequest s = some r → requestPieces s r = [p] →
    let link := { s.link with arrival := s.link.arrival.tail }
    let faulted := fun (c : FaultCause) => { s.report with waiting := mergeFault c p.addr s.report.waiting }
    (∀ a d, r = .write a d →
      (s.command.mode = .standby → p.region = .capture → exec (.captureApertureWrite now) s =
        .next (settle s { s with link := link, report := faulted .apertureInactive })) ∧
      (s.command.mode = .standby → p.region = .view → exec .viewWrite s =
        .next (settle s { s with link := link, report := faulted .apertureInactive })) ∧
      (s.command.mode = .view → p.region = .view → exec .viewWrite s =
        .next (settle s { s with link := link, report := faulted .viewWrite }))) ∧
    (∀ tag a n, r = .read tag a n → s.command.mode = .standby →
      let answered := { s with report := faulted .apertureInactive, link := { link with
        delivered := { tag := tag.toNat, error := false, bytes := List.replicate (16 * n) 0 } :: s.link.delivered } }
      (p.region = .capture → exec .captureApertureRead s = .next (settle s answered)) ∧
      (p.region = .view → exec .viewApertureRead s = .next (settle s answered)))) ∧
  ∀ s : State,
    let stale := s.steady.pass.status ≠ .closed ∧ s.steady.pass.completions = 4
    let unpin := match s.steady.pass.pinned with
      | some n => [PinMessage.unpin n]
      | none => []
    (¬ stale → exec .viewStale s = .next s) ∧
    (stale → ∃ addr, exec .viewStale s = .next (settle s
      { s with steady := { s.steady with pass := { s.steady.pass with status := .closed, pinned := none, completions := 0 } },
               slots := { s.slots with pinMessages := s.slots.pinMessages ++ unpin },
               report := { s.report with waiting := mergeFault .viewStale addr s.report.waiting } }))

/-- The fill choice (R4): the lowest-numbered FREE slot other than 0; else, among the FILLED unpinned slots other than 0, one
whose fill-order age is oldest behind the frame's number; else slot 0. -/
def Obligations.FillChoiceTakesFreeThenOldest : Prop :=
  ∀ (n : BitVec 32) (table : List Slot),
    let i := chooseFill n table
    let free := fun j => j ≠ 0 ∧ ∃ e, table[j]? = some e ∧ e.state = .free
    let old := fun j e => j ≠ 0 ∧ table[j]? = some e ∧ e.state = .filled ∧ e.pins = 0
    ((∃ j, free j) → free i ∧ ∀ j, free j → i ≤ j) ∧
    ((¬ ∃ j, free j) → (∃ j e, old j e) → ∃ e, old i e ∧ ∀ j e', old j e' → behind n e'.fillAge ≤ behind n e.fillAge) ∧
    ((¬ ∃ j, free j) → (¬ ∃ j e, old j e) → i = 0)

/-- CAPTURE_APERTURE_WRITE at offset 0 with no frame in progress starts a frame (R8) and stores the write (R9): the sequence
number rises by 1, the chosen slot is FILLING with a record at its reset values but for the start, the other slots stay,
and the write goes to the slot's base.  The frame's inputs are latched: by the Statistics Engine with the selected weights, the
windows resolved, cleared accumulators and both detectors reset when the line time changed (R22, R38); by the Exposure and the
Steady Controller (R45, R115); and the moved marks and the settle mark are set (R78, R79).  The frame's applied set is the one
issued k frames before it, or the initial set when the history has none (R45).
A write at offset 0 with a frame in progress abandons that frame first (R12): its slot is FREE with a cleared record before
the fill choice, its latches are discarded, CAPTURE_RESTART is raised, its image write waits before the new slot's (R17), and
the new frame starts with the same latches and marks.
A write that brings the expected offset to the frame size completes the frame (R13), what lies beyond the frame size being
dropped with CAPTURE_OVERRUN (R11): the slot is FILLED (slot 0: FREE), its record carries the outcome, the frame in progress
is none, the measured frame is in the completion buffer (R29), and the six takers have the announcement with the motors
that moved and whether focus was settled (R78, R79); an open view pass counts the completion (R125), and the sequence number
stays (R15).  Each of the three gives the whole next state: what it does not name is as before.
That one step takes the request is the model's (log entry 10), and so are the source of the initial set (log entry 49), its AL
without derived values (log entry 74), when a completion is counted (log entry 40) and the order of the faults and the
summary of one write (log entry 65). -/
def Obligations.WritesStartAndCompleteFrames : Prop :=
  (∀ (now : Nat) (s : State) (a : BitVec 32) (d : List LinkWord) (p : Piece),
    headRequest s = some (.write a d) → requestPieces s (.write a d) = [p] → p.region = .capture →
    s.command.mode = .view → p.addr = s.command.config.captureBase → 1 ≤ p.data.length → 16 * p.data.length < frameSize s →
    let n := s.slots.seq + 1
    let applied := (appliedSet s n).1
    let moves := fun (m : Motor) => s.lens.segment.any (fun g => g.motor == m)
    let filling := fun (e : Slot) => { e with
      state := .filling, recordFrame := n, fillAge := n, lastFrame := 0,
      record := { FrameRecord.reset with frame := n, startSample := lensSample s, applied := applied,
                                         issueFrame := (appliedSet s n).2 } }
    let exposureLatch : ExposureLatch := { frame := n, params := s.exposure.params, program := s.exposure.program,
                                           steady := s.steady.enable, applied := applied }
    let heldRead : LensValues := match s.lens.mode, s.zoom.derived, (appliedSet s n).2 with
      | .ready, some d, none => { focal := d.focal, alOpen := d.alOpen, stops := d.stops, stepAl := d.stepAl }
      | _, _, _ => s.exposure.held
    let steadyLatch : SteadyLatch := { frame := n, enable := s.steady.enable, range := s.steady.range, leak := s.steady.leak,
                                       qualityMin := s.steady.qualityMin, xl := applied.xl }
    let lens : LensDrive := { s.lens with
      zoom := { s.lens.zoom with moved := moves .zoom }, focus := { s.lens.focus with moved := moves .focus },
      iris := { s.lens.iris with moved := moves .iris },
      settleMark := !moves .focus && s.lens.lastFocusEnd.all (fun t => t + s.lens.settleTime ≤ now) }
    let wq := s.command.config.width / 2
    let hq := s.command.config.height / 2
    let window := fun (w : FocusWindow) =>
      let r : Rect := w.rect.getD { x := 3 * wq / 8, y := 3 * hq / 8, width := wq / 4, height := hq / 4 }
      ({ rect := r, enabled := w.enabled && decide (16 ≤ r.width ∧ 16 ≤ r.height ∧ r.x + r.width ≤ wq ∧ r.y + r.height ≤ hq) } :
        LatchedWindow)
    let latch : StatLatch :=
      { params := s.stats.params, mx := s.steady.mx, my := s.steady.my, width := s.command.config.width,
        height := s.command.config.height, windows := s.focus.windows.map window, windowSet := s.focus.windowSet,
        weights := match s.stats.patterns[s.exposure.params.pattern]? with
          | some w => w
          | none => List.replicate 192 1 }
    let clear : Accumulators :=
      { line := List.replicate wq { sum := 0, mark := false }, previous := 0, zoneSum := List.replicate 192 0,
        zoneClip := List.replicate 192 0, rowSum := List.replicate hq 0, winContrast := List.replicate 5 0,
        winLuma := List.replicate 5 0, colProfile := List.replicate (wq - 2 * s.steady.mx) 0,
        rowProfile := List.replicate (hq - 2 * s.steady.my) 0 }
    let same := s.stats.params.lineTime = s.stats.lineTimeLatched
    let stats := measure 0 p.data { s.stats with
      measuring := some { frame := n, torn := false, latch := latch, acc := clear },
      det100 := if same then s.stats.det100 else .reset, det120 := if same then s.stats.det120 else .reset,
      lineTimeLatched := s.stats.params.lineTime }
    let tracker := fun (i stored : Nat) =>
      ({ inProgress := some (n, i), expected := 16 * p.data.length, stored := stored, torn := false } : Tracker)
    let link := fun (i : Nat) => { s.link with
      arrival := s.link.arrival.tail,
      hostDown := [.write (s.command.config.poolBase + i * s.command.config.stride) p.data] }
    (∀ e, s.slots.tracker.inProgress = none →
      let i := chooseFill n s.slots.table
      s.slots.table[i]? = some e →
      ∃ stored, (p.data.length ≤ 32 → stored = 16 * p.data.length) ∧
        exec (.captureApertureWrite now) s = .next (settle s { s with
          link := link i,
          slots := { s.slots with table := s.slots.table.set i (filling e), seq := n, tracker := tracker i stored },
          exposure := { s.exposure with latches := s.exposure.latches ++ [exposureLatch], held := heldRead },
          steady := { s.steady with latches := s.steady.latches ++ [steadyLatch] }, lens := lens, stats := stats })) ∧
    (∀ k j e, SlotsConsistent s → s.slots.tracker.inProgress = some (k, j) → s.slots.table[j]? = some e →
      let freed := { e with state := .free, recordFrame := 0, lastFrame := 0, record := .reset }
      let i := chooseFill n (s.slots.table.set j freed)
      let waits := s.slots.imageWaiting
      ∃ (u : State) (x : Slot) (stored : Nat), exec (.captureApertureWrite now) s = .next u ∧
        (s.slots.table.set j freed)[i]? = some x ∧ (p.data.length ≤ 32 → stored = 16 * p.data.length) ∧
        u = settle s { s with
          link := link i,
          slots := { s.slots with
            table := (s.slots.table.set j freed).set i (filling x), seq := n, tracker := tracker i stored,
            imageWaiting := if j ∈ waits then waits else waits ++ [j] },
          report := { s.report with waiting := mergeFault .captureRestart p.addr s.report.waiting },
          exposure := { s.exposure with
            latches := s.exposure.latches.filter (fun l => l.frame != k) ++ [exposureLatch], held := heldRead },
          steady := { s.steady with latches := s.steady.latches.filter (fun l => l.frame != k) ++ [steadyLatch] },
          lens := lens, stats := stats } ∧
        (i ∉ waits → j ∉ waits → u.slots.imageWaiting = waits ++ (if i = j then [j] else [j, i])))) ∧
  (∀ (s : State) (n : BitVec 32),
    let issued := n - BitVec.ofNat 32 s.command.config.latency
    let al := match s.lens.mode, s.zoom.derived with
      | .ready, some d => d.alOpen
      | _, _ => s.exposure.held.alOpen
    (∀ e ∈ s.exposure.history, e.tag = some issued → (∀ e' ∈ s.exposure.history, e'.tag = some issued → e' = e) →
      appliedSet s n = (e, some issued)) ∧
    ((∀ e ∈ s.exposure.history, e.tag ≠ some issued) → appliedSet s n =
      ({ tl := 512, gl := 0, al := al, xl := 512 - al, shutter := 65536, gainCode := 256, irisStop := 0,
         quantised := .off, flickerExposed := false, lightHigh := false, lightLow := false, lensHeld := false,
         source := .program, tag := none }, none))) ∧
  (∀ (now : Nat) (s : State) (a : BitVec 32) (d : List LinkWord) (p : Piece) (n : BitVec 32) (i : Nat) (e : Slot),
    headRequest s = some (.write a d) → requestPieces s (.write a d) = [p] → p.region = .capture →
    s.command.mode = .view → s.slots.tracker.inProgress = some (n, i) → s.slots.table[i]? = some e →
    let off := p.addr - s.command.config.captureBase
    let size := frameSize s
    let kept := p.data.take ((size - off) / 16)
    off ≠ 0 → off < size → (size - off) % 16 = 0 → size ≤ off + 16 * p.data.length →
    let stored := s.slots.tracker.stored + 16 * kept.length
    stored < 2 ^ 32 →
    let torn := s.slots.tracker.torn || decide (off ≠ s.slots.tracker.expected)
    let outcome := if i = 0 then FrameOutcome.spilled else if torn then .torn else .complete
    let raise := fun (b : Prop) [Decidable b] (c : FaultCause) (w : List Report) => if b then mergeFault c p.addr w else w
    let faults := raise (size < off + 16 * p.data.length) .captureOverrun
      (raise (off ≠ s.slots.tracker.expected) .captureOutOfOrder s.report.waiting)
    let sample : LensSample := if s.lens.mode = .ready ∨ s.lens.mode = .parking
      then { zoom := s.lens.zoom.position, focus := s.lens.focus.position, irisStop := s.lens.iris.position / 8, known := true }
      else { zoom := 0, focus := 0, irisStop := 0, known := false }
    let moving : MotorFlags := { zoom := s.lens.zoom.moved, focus := s.lens.focus.moved, iris := s.lens.iris.moved }
    let a : Announcement :=
      { frame := n, slot := i, outcome := outcome, torn := torn, startSample := e.record.startSample, endSample := sample,
        moving := moving,
        focusSettled := s.lens.settleMark && !s.lens.focus.moved && e.record.startSample.known && sample.known }
    let item : WorkItem := { notice := a, stats := none }
    let pass := s.steady.pass
    exec (.captureApertureWrite now) s = .next (settle s { s with
      link := { s.link with
        arrival := s.link.arrival.tail,
        hostDown := [.write (s.command.config.poolBase + i * s.command.config.stride + off) kept] },
      slots := { s.slots with
        table := s.slots.table.set i { e with
          state := if i = 0 then .free else .filled, lastFrame := if i = 0 then n else e.lastFrame,
          record := { e.record with
            outcome := outcome, torn := torn, bytesStored := stored, endSample := sample, moving := moving,
            focusSettled := a.focusSettled } },
        tracker := { inProgress := none, expected := size, stored := stored, torn := torn } },
      stats := { s.stats with
        measuring := none,
        buffer := if off = s.slots.tracker.expected then (measure off kept s.stats).measuring
          else s.stats.measuring.map (fun m => { m with torn := true }) },
      exposure := { s.exposure with work := s.exposure.work ++ [item] },
      focus := { s.focus with work := s.focus.work ++ [item] },
      steady := { s.steady with
        work := s.steady.work ++ [item],
        pass := if pass.status = .closed then pass else { pass with completions := min 4 (pass.completions + 1) } },
      capture := { s.capture with messages := s.capture.messages ++ [.completion a] },
      report := giveSummary (.frameSummary n i outcome torn) { s.report with waiting := faults } }))

/-- CAPTURE_APERTURE_WRITE in sequence (R9): a write at the expected offset that ends below the frame size goes to the filling
slot's base plus its offset and is measured (R23), and the expected offset moves to its end; nothing else changes.
Capture writes that are not in sequence (R10, R11, R9): one that begins at or above the frame size is dropped with
CAPTURE_OVERRUN; one away from offset 0 with no frame in progress is dropped with CAPTURE_OUT_OF_ORDER; and one at another
offset than the expected one, below the frame size, tears the frame, is still stored at its own offset, and is not measured.
That one step takes the request is the model's (log entry 10). -/
def Obligations.WritesInAFrameAreStoredOrFaulted : Prop :=
  ∀ (now : Nat) (s : State) (a : BitVec 32) (d : List LinkWord) (p : Piece),
    headRequest s = some (.write a d) → requestPieces s (.write a d) = [p] → p.region = .capture →
    s.command.mode = .view →
    let out := exec (.captureApertureWrite now) s
    let off := p.addr - s.command.config.captureBase
    let bytes := 16 * p.data.length
    let link := { s.link with arrival := s.link.arrival.tail }
    let faulted := fun (c : FaultCause) => { s.report with waiting := mergeFault c p.addr s.report.waiting }
    let stored := fun (i : Nat) => { link with
      hostDown := [.write (s.command.config.poolBase + i * s.command.config.stride + off) p.data] }
    (frameSize s ≤ off → out = .next (settle s { s with link := link, report := faulted .captureOverrun })) ∧
    (off < frameSize s → off ≠ 0 → s.slots.tracker.inProgress = none →
      out = .next (settle s { s with link := link, report := faulted .captureOutOfOrder })) ∧
    (∀ n i, s.slots.tracker.inProgress = some (n, i) → off ≠ 0 → off + bytes < frameSize s →
      s.slots.tracker.stored + bytes < 2 ^ 32 →
      let tracker := { s.slots.tracker with expected := off + bytes, stored := s.slots.tracker.stored + bytes }
      (off = s.slots.tracker.expected → out = .next (settle s { s with
        link := stored i, slots := { s.slots with tracker := tracker }, stats := measure off p.data s.stats })) ∧
      (off ≠ s.slots.tracker.expected → out = .next (settle s { s with
        link := stored i, slots := { s.slots with tracker := { tracker with torn := true } },
        stats := { s.stats with measuring := s.stats.measuring.map (fun m => { m with torn := true }) },
        report := faulted .captureOutOfOrder })))

/-- Every request to memory that a capture write makes in VIEW stores into the frame bytes of the filling slot: a write at
offset 0 into those of the slot chosen for the frame it starts, once a frame in progress has been abandoned, and any other
write into those of the frame that was in progress (R1, R8 to R12).  First for every capture piece of a write, then for the command, when the request lies in the capture aperture. -/
def Obligations.CaptureWritesStayInTheFillingSlot : Prop :=
  (∀ (now : Nat) (s : State) (p : Piece), s.command.mode = .view → p.region = .capture →
    ∀ r ∈ (writePiece now s p).link.hostDown, r ∈ s.link.hostDown ∨
      ∃ i addr data, r = .write addr data ∧
        (if p.addr - s.command.config.captureBase = 0 then i = chooseFill (s.slots.seq + 1) (abandonFrame s).slots.table
         else ∃ n, s.slots.tracker.inProgress = some (n, i)) ∧
        s.command.config.poolBase + i * s.command.config.stride ≤ addr ∧
        addr + 16 * data.length ≤ s.command.config.poolBase + i * s.command.config.stride + frameSize s) ∧
  (∀ (now : Nat) (s u : State) (r : HostRequest) (p : Piece), s.command.mode = .view → headRequest s = some r →
    requestPieces s r = [p] → p.region = .capture → exec (.captureApertureWrite now) s = .next u →
    ∀ q ∈ u.link.hostDown, ∃ i addr data, q = .write addr data ∧
      (if p.addr = s.command.config.captureBase then i = chooseFill (s.slots.seq + 1) (abandonFrame s).slots.table
       else ∃ n, s.slots.tracker.inProgress = some (n, i)) ∧
      s.command.config.poolBase + i * s.command.config.stride ≤ addr ∧
      addr + 16 * data.length ≤ s.command.config.poolBase + i * s.command.config.stride + frameSize s)

/-- VIEW_APERTURE_READ in VIEW: without a view geometry VIEW_NO_VIEW and zeros (R122); at or beyond the view size VIEW_BEYOND and
zeros (R124).  In an open pass the bytes below the view size, within one view line at a time, are fetched from the words that
cover their physical address, VIEW_BEYOND being raised for a read that ends beyond it (R123, R124); a read of the last view
byte is marked with the pass; a BLANK pass answers with zeros.  A read that finds no pass, and one starting in line 0 after
line 0 was left, in an OPEN or a BLANK pass, opens a new one (R121, R122, R125): an OPEN pass that closes so has its slot
unpinned, and the image write of that slot waits even when the same slot is pinned again (R17).  The new pass is OPEN on the
slot the source resolves to, with its pin, the geometry and the clamped offset it latches and the fetches of the read in it,
or BLANK with VIEW_NO_FRAME when the source resolves to none.  A read in a BLANK pass that reaches the last view byte closes
it at once by its delivery, also one that opened it.  A pass that opens makes a Status Block write wait (R169).
That the pin is asked for and answered within the step, behind the pin messages that wait, is the model's choice (log entry
14), what a BLANK pass latches its
reading (log entry 15), that one step takes the request its choice (log entry 10), and so are the cut of a run of 33 words and
the order of two faults (log entries 60 and 63); a pass state that changes and changes back is noted by its reading (log
entry 13). -/
def Obligations.ViewReadsAreTranslatedInAPass : Prop :=
  ∀ (s : State) (tag : BitVec 6) (a : BitVec 32) (k : Nat) (p : Piece), headRequest s = some (.read tag a k) →
    requestPieces s (.read tag a k) = [p] → p.region = .view → s.command.mode = .view →
    let off := p.addr - s.command.config.viewBase
    let bytes := 16 * p.words
    let out := exec .viewApertureRead s
    let pass := s.steady.pass
    let link := { s.link with arrival := s.link.arrival.tail }
    let raised := fun (c : FaultCause) => { s.report with waiting := mergeFault c p.addr s.report.waiting }
    let zeros := { link with
      delivered := { tag := tag.toNat, error := false, bytes := List.replicate (16 * k) 0 } :: s.link.delivered }
    let cover := fun (d place phys n : Nat) =>
      let skip := phys % 16
      let words := (skip + n + 15) / 16
      let fetch := fun (d place skip n : Nat) => ({ dtag := d, place := place, skip := skip, count := n, granted := false,
                                                    returned := false } : HostFetch)
      if words ≤ 32 then [(DownRequest.read d (phys - skip) words, fetch d place skip n)]
      else [(DownRequest.read d (phys - skip) 32, fetch d place skip (512 - skip)),
            (DownRequest.read (d + 1) (phys - skip + 512) (words - 32),
              fetch (d + 1) (place + (512 - skip)) 0 (n - (512 - skip)))]
    let runs := fun (g : PassGeometry) =>
      let n := min bytes (g.size - off)
      let first := min n (g.pitch - off % g.pitch)
      let head := cover (4 * tag.toNat) p.place (viewAddress g off) first
      if first = n then head
      else head ++ cover (4 * tag.toNat + head.length) (p.place + first) (viewAddress g (off + first)) (n - first)
    let fetched := fun (g : PassGeometry) (mark : Option (BitVec 16)) => { link with
      hostDown := (runs g).map (·.1),
      readMap := s.link.readMap ++ [{ tag := tag.toNat, bytes := List.replicate (16 * k) 0, fetches := (runs g).map (·.2),
                                      error := false, pass := mark }] }
    (s.steady.geometryValid = false → out = .next (settle s { s with link := zeros, report := raised .viewNoView })) ∧
    (s.steady.geometryValid = true → (viewGeometry s).size ≤ off →
      out = .next (settle s { s with link := zeros, report := raised .viewBeyond })) ∧
    (∀ g, s.steady.geometryValid = true → pass.status ≠ .closed → pass.geometry = g → off < g.size →
      (pass.leftLineZero = false ∨ g.pitch ≤ off) → 1 ≤ p.words → p.words ≤ 32 →
      let left := { s.steady with pass := { pass with leftLineZero := pass.leftLineZero || decide (g.pitch ≤ off) } }
      let report := if g.size < off + bytes then raised .viewBeyond else s.report
      (pass.status = .opened → out = .next (settle s { s with
        link := fetched g (if g.size ≤ off + bytes then some pass.number else none), steady := left, report := report })) ∧
      (pass.status = .blank → off + bytes < g.size → out = .next (settle s { s with
        link := zeros, steady := left, report := report }))) ∧
    (∀ g, s.steady.geometryValid = true → pass.status = .blank → pass.pinned = none → pass.geometry = g → off < g.size →
      g.size ≤ off + bytes → (pass.leftLineZero = false ∨ g.pitch ≤ off) → out = .next (settle s { s with
        link := zeros,
        steady := { s.steady with pass := { pass with
          leftLineZero := pass.leftLineZero || decide (g.pitch ≤ off), status := .closed, completions := 0 } },
        report := if g.size < off + bytes then raised .viewBeyond else s.report })) ∧
    (s.steady.geometryValid = true → off < (viewGeometry s).size → s.slots.pinMessages = [] →
      (pass.status = .closed ∨ (pass.leftLineZero = true ∧ off < pass.geometry.pitch)) →
      let waits := s.slots.imageWaiting
      let closing := if pass.status = .closed then none else pass.pinned
      let table := match closing with
        | some old => s.slots.table.modify old (fun e => { e with pins := e.pins - 1 })
        | none => s.slots.table
      let noted := match closing with
        | some old => if (∃ e, s.slots.table[old]? = some e ∧ 1 ≤ e.pins) ∧ old ∉ waits then waits ++ [old] else waits
        | none => waits
      let present : PassGeometry :=
        { width := s.command.config.width, height := s.command.config.height, mx := s.steady.mx, my := s.steady.my,
          slotBase := 0, ox := 0, oy := 0 }
      let opened := fun (st : PassStatus) (pinned : Option Nat) (g : PassGeometry) => { s.steady with pass := {
        status := st, pinned := pinned, geometry := g, completions := 0, leftLineZero := decide (g.pitch ≤ off),
        number := pass.number + 1 } }
      let beyond := if (viewGeometry s).size < off + bytes then raised .viewBeyond else s.report
      (resolveSource s = none → out = .next (settle s { s with
        link := zeros, slots := { s.slots with table := table, imageWaiting := noted },
        steady := opened (if present.size ≤ off + bytes then .closed else .blank) none present,
        report := { beyond with waiting := mergeFault .viewNoFrame p.addr beyond.waiting, statusWaiting := true } })) ∧
      (∀ n e, resolveSource s = some n → s.slots.table[n]? = some e →
        let g : PassGeometry := { present with
          slotBase := s.command.config.poolBase + n * s.command.config.stride,
          ox := (e.record.steady.map (fun f => max (-(s.steady.mx : Int)) (min s.steady.mx f.ox))).getD 0,
          oy := (e.record.steady.map (fun f => max (-(s.steady.my : Int)) (min s.steady.my f.oy))).getD 0 }
        out = .next (settle s { s with
          link := fetched g (if g.size ≤ off + bytes then some (pass.number + 1) else none),
          slots := { s.slots with table := table.modify n (fun e => { e with pins := e.pins + 1 }), imageWaiting := noted },
          steady := opened .opened (some n) g, report := { beyond with statusWaiting := true } })))

/-- What the view source resolves to (R122): LIVE gives the newest COMPLETE frame among the FILLED, HELD and KEPT slots other
than 0, a slot number that slot while it is one of them; nothing otherwise. -/
def Obligations.ViewSourceResolvesToAShowableSlot : Prop :=
  ∀ s : State,
    let shows := fun (i : Nat) (e : Slot) => i ≠ 0 ∧ s.slots.table[i]? = some e ∧
      (e.state = .filled ∨ e.state = .held ∨ e.state = .kept)
    (∀ n, s.steady.source = some n →
      ((∃ e, shows n e) → resolveSource s = some n) ∧ ((¬ ∃ e, shows n e) → resolveSource s = none)) ∧
    (s.steady.source = none →
      (∀ n, resolveSource s = some n → ∃ e, shows n e ∧ e.record.outcome = .complete ∧
        ∀ j e', shows j e' → e'.record.outcome = .complete →
          behind s.slots.seq e.recordFrame ≤ behind s.slots.seq e'.recordFrame) ∧
      (resolveSource s = none → ∀ j e, shows j e → e.record.outcome ≠ .complete))

/-- The address of a view byte (R123): with legal margins and offsets inside them, the byte of view line v at byte b maps to
the pinned slot's base + (v + 2(my + oy)) x W x 2 + b + 4(mx + ox), and that lies in the frame bytes of the slot. -/
def Obligations.ViewBytesLieInsideTheShownFrame : Prop :=
  ∀ (g : PassGeometry) (a : Nat), 4 * g.mx < g.width → 4 * g.my < g.height → g.ox.natAbs ≤ g.mx → g.oy.natAbs ≤ g.my →
    a < (g.width - 4 * g.mx) * 2 * (g.height - 4 * g.my) →
    let pitch := (g.width - 4 * g.mx) * 2
    (viewAddress g a : Int) = g.slotBase + ((a / pitch : Nat) + 2 * (g.my + g.oy)) * (g.width * 2) + (a % pitch : Nat) +
      4 * (g.mx + g.ox) ∧
    g.slotBase ≤ viewAddress g a ∧ viewAddress g a < g.slotBase + g.width * g.height * 2

/-- DOWNSTREAM_GRANT (R148): with one side waiting that side is granted; with both, the host while the host run count is below
3 and the own side otherwise; a host grant raises the count to at most 3 and an own grant sets it to 0. A grant forwards
one request; a host read's fetch is then in flight (R146), and an own read waits while no own tag, 256 to 271, is free, and
takes a free one (R147).
Which free own tag a read takes is the model's choice (log entry 12): the statement asks only that it is free. -/
def Obligations.GrantsFollowTheHostRunCount : Prop :=
  ∀ s : State,
    let ownWaits := ∃ o q, s.link.ownQueue = o :: q ∧
      (o.data ≠ [] ∨ ∃ t, 256 ≤ t ∧ t < 272 ∧ ∀ r ∈ s.link.ownReads, r.dtag ≠ t)
    let host := ∃ r rest u, s.link.hostDown = r :: rest ∧ exec .downstreamGrant s = .next (settle s u) ∧
      u = { s with link := { s.link with
        hostDown := rest, forwarded := r :: s.link.forwarded, hostRun := min 3 (s.link.hostRun + 1),
        readMap := match r with
          | .read d _ _ => s.link.readMap.map (fun e => { e with
              fetches := e.fetches.map (fun f => if f.dtag = d then { f with granted := true } else f) })
          | .write _ _ => s.link.readMap } }
    let own := ∃ o q u, s.link.ownQueue = o :: q ∧ exec .downstreamGrant s = .next (settle s u) ∧
      u = { s with link := { s.link with ownQueue := q, hostRun := 0, forwarded := u.link.forwarded,
                                         ownReads := u.link.ownReads }, report := u.report } ∧
      (o.data ≠ [] → u.link.forwarded = .write o.addr o.data :: s.link.forwarded ∧ u.link.ownReads = s.link.ownReads) ∧
      (o.data = [] → ∃ t, 256 ≤ t ∧ t < 272 ∧ (∀ r ∈ s.link.ownReads, r.dtag ≠ t) ∧
        u.link.forwarded = .read t o.addr o.words :: s.link.forwarded ∧
        u.link.ownReads = s.link.ownReads ++ [{ dtag := t, purpose := o.purpose }] ∧ u.report = s.report)
    (s.link.hostDown ≠ [] → ¬ ownWaits → host) ∧ (s.link.hostDown = [] → ownWaits → own) ∧
    (s.link.hostDown ≠ [] → ownWaits → s.link.hostRun < 3 → host) ∧
    (s.link.hostDown ≠ [] → ownWaits → ¬ s.link.hostRun < 3 → own) ∧
    (s.link.hostDown = [] → ¬ ownWaits → exec .downstreamGrant s = .next s)

/-- SLOT_IMAGE_WRITE (R17) and STATUS_BLOCK_WRITE (R169): the write that waits longest enters the own-traffic queue when it has a
place, with the record or the values as they stand, at the address the rule gives; a Status Block write also waits for
image writes and the Command Unit's reads, and for the forwarding of the one before it (R147).  The first one after a
power-on reset goes before those reads, as the part's first own request (R149).
The forwarded notice of an own write (R147, R148, R163, R168, R169), which is granted when no host request waits or the host run
count gives it its turn: a report's marks its entry, if it is still in the ring, and the attention line is evaluated; a
Status Block write may be followed by the next; nothing else of the Report Unit changes.
That these writes wait in State until their row, and how the first one comes first, are the model's reading (log entries 13
and 41). -/
def Obligations.ImageAndStatusWritesAreQueuedAndNoticed : Prop :=
  (∀ s : State,
    let base := s.link.strap.toNat * 0x20000000 + 0x1FF00000
    (s.link.ownQueue.length < 8 → ∀ i rest, s.slots.imageWaiting = i :: rest → exec .slotImageWrite s =
      .next (settle s { s with
        slots := { s.slots with imageWaiting := rest },
        link := { s.link with ownQueue := s.link.ownQueue ++
          [{ purpose := .image i, addr := base + 0x1000 + i * 128, words := 8, data := imageWords s i }] } })) ∧
    (¬ (s.link.ownQueue.length < 8 ∧ s.slots.imageWaiting ≠ []) → exec .slotImageWrite s = .next s) ∧
    (let due := s.report.statusWaiting = true ∧ s.report.statusQueued = false ∧ s.link.ownQueue.length < 8 ∧
        s.slots.imageWaiting = [] ∧ (s.command.waitingReads = [] ∨ s.report.statusFirst = true)
     (due → exec .statusBlockWrite s = .next (settle s { s with
        report := { s.report with statusWaiting := false, statusQueued := true, statusFirst := false },
        link := { s.link with ownQueue := s.link.ownQueue ++
          [{ purpose := .status, addr := base + 0x100, words := 16, data := statusWords s }] } })) ∧
     (¬ due → exec .statusBlockWrite s = .next s))) ∧
  (∀ (s : State) (o : OwnRequest) (q : List OwnRequest),
    (s.link.hostDown = [] ∨ ¬ s.link.hostRun < 3) → s.link.ownQueue = o :: q → o.data ≠ [] →
    ∃ u, exec .downstreamGrant s = .next (settle s u) ∧
      u = { s with report := u.report, link := { s.link with
        ownQueue := q, hostRun := 0, forwarded := .write o.addr o.data :: s.link.forwarded } } ∧
      (o.purpose = .status → u.report = { s.report with statusQueued := false }) ∧
      (∀ i, o.purpose = .image i → u.report = s.report) ∧ (o.purpose = .report none → u.report = s.report) ∧
      (∀ c, o.purpose = .report (some c) →
        (∀ pre e post, s.report.entries = pre ++ e :: post → pre.length = (c - s.report.headCopy).toNat →
          let marked := pre ++ { e with forwarded := true } :: post
          u.report = { s.report with entries := marked, attention := marked.any (fun x =>
            x.forwarded && s.report.mask.getLsbD (classCode x.cls)) }) ∧
        (s.report.entries.length ≤ (c - s.report.headCopy).toNat → u.report = s.report)))

/-- DOWNSTREAM_READ_RESPONSE (R146): a tag that names no fetch in flight is discarded; the data of a fetch in flight go to the
fetch's place, whichever of the reads in flight it belongs to; and that read is delivered, with ERROR if any of its fetches
returned ERROR, once every fetch has returned. A delivery whose entry is marked closes the pass it was translated in while
that is still open, with the unpin of its slot (R125); everything else is as it was. -/
def Obligations.ResponsesFillAndDeliverTheRead : Prop :=
  ∀ (d : Nat) (error : Bool) (data : List LinkWord) (s : State),
    ((∀ e ∈ s.link.readMap, ∀ f ∈ e.fetches, ¬ (f.dtag = d ∧ f.granted = true ∧ f.returned = false)) →
      exec (.downstreamReadResponse d error data) s = .next s) ∧
    (∀ before e after pre f post, s.link.readMap = before ++ e :: after →
      (∀ x ∈ before ++ after, x.tag ≠ e.tag ∧ ∀ g ∈ x.fetches, g.dtag ≠ d) →
      e.fetches = pre ++ f :: post → f.dtag = d → f.granted = true → f.returned = false → (∀ x ∈ pre ++ post, x.dtag ≠ d) →
      let new := ((dataBytes data).drop f.skip).take f.count
      let bytes := e.bytes.take f.place ++ (new.take (e.bytes.length - f.place) ++ e.bytes.drop (f.place + new.length))
      let whole := ∀ x ∈ pre ++ post, x.returned = true
      ∃ u, exec (.downstreamReadResponse d error data) s = .next u ∧
        (¬ whole → u = settle s { s with link := { s.link with readMap := before ++ { e with
          bytes := bytes, error := e.error || error, fetches := pre ++ { f with returned := true } :: post } :: after } }) ∧
        (whole →
          let pass := s.steady.pass
          let gone := { s with link := { s.link with
            readMap := before ++ after,
            delivered := { tag := e.tag, error := e.error || error, bytes := bytes } :: s.link.delivered } }
          (e.pass ≠ some pass.number ∨ pass.status = .closed → u = settle s gone) ∧
          (e.pass = some pass.number → pass.status ≠ .closed → u = settle s { gone with
            steady := { s.steady with pass := { pass with status := .closed, pinned := none, completions := 0 } },
            slots := { s.slots with
              pinMessages := s.slots.pinMessages ++ pass.pinned.toList.map PinMessage.unpin } })))

/-! ## The writes of the part -/

/-- REPORT_WRITE (R163, R165 to R167): with room in the ring and no write of a higher claim waiting, the oldest eligible report
is placed at the write count, 32 bytes per entry from offset 0x8000, which sets high water at 384 entries, and the rest of the
Report Unit is as it was; EXPOSURE SET, path faults and EVENTS LOST wait while high water is set; a FRAME SUMMARY is then shed instead; and EVENTS LOST clears the counters.
How a report begins to wait: a FRAME SUMMARY, FOCUS STATE, LENS EVENT or CAPTURE EVENT takes one of 12 general places or is
lost, and a FRAME SUMMARY given under high water is shed; a loss raises the counter of its class by 1, to at most 65535, and
sets the lost mark, with EVENTS LOST behind the others if the mark was clear; an EXPOSURE SET replaces the one that waits and
raises its merge count to at most 255; a path fault raises the count of its cause's slot to at most 65535, and keeps the
first address.
One report for each REPORT_WRITE, and when the row is not due, are the model's reading (log entry 30), and so is how EVENTS
LOST stands in the waiting order (log entry 34). -/
def Obligations.ReportWritePlacesTheOldestEligibleReport : Prop :=
  (∀ (x : Report) (r : ReportUnit),
    let places := (r.waiting.filter (fun y => y.cls = .frame ∨ y.cls = .focus ∨ y.cls = .lens ∨ y.cls = .capture)).length
    let up := fun (n : Nat) => min 65535 (n + 1)
    let loses := fun (lost : LostCounters) => { r with
      lost := lost, lostMark := true, waiting := r.waiting ++ (if r.lostMark then [] else [.eventsLost]) }
    (places < 12 → giveGeneral x r = { r with waiting := r.waiting ++ [x] }) ∧
    (12 ≤ places → x.cls = .frame → giveGeneral x r = loses { r.lost with frame := up r.lost.frame }) ∧
    (12 ≤ places → x.cls = .focus → giveGeneral x r = loses { r.lost with focus := up r.lost.focus }) ∧
    (12 ≤ places → x.cls = .lens → giveGeneral x r = loses { r.lost with lens := up r.lost.lens }) ∧
    (12 ≤ places → x.cls = .capture → giveGeneral x r = loses { r.lost with capture := up r.lost.capture }) ∧
    (r.highWater = true → giveSummary x r = loses { r.lost with frame := up r.lost.frame }) ∧
    (r.highWater = true → loseReport .frame r = giveSummary x r) ∧
    (r.highWater = false → giveSummary x r = giveGeneral x r)) ∧
  (∀ (e : ExposureReport) (c : FaultCause) (a : Nat) (w : List Report),
    ((∀ y ∈ w, y.cls ≠ .exposure) → mergeExposure e w = w ++ [.exposureSet e 0]) ∧
    (∀ pre old n post, w = pre ++ .exposureSet old n :: post → (∀ y ∈ pre, y.cls ≠ .exposure) →
      mergeExposure e w = pre ++ .exposureSet e (min 255 (n + 1)) :: post) ∧
    ((∀ n b, .pathFault c n b ∉ w) → mergeFault c a w = w ++ [.pathFault c 1 a]) ∧
    (∀ pre n b post, w = pre ++ .pathFault c n b :: post → (∀ m d, .pathFault c m d ∉ pre) →
      mergeFault c a w = pre ++ .pathFault c (min 65535 (n + 1)) b :: post)) ∧
  ∀ s : State,
    let r := s.report
    let eligible := fun (x : Report) => r.highWater = true →
      x.isCompletion = true ∨ (x.general = true)
    let due := (r.writeCount - r.headCopy).toNat < 512 ∧ s.link.ownQueue.length < 8 ∧ s.slots.imageWaiting = [] ∧
      s.command.waitingReads = [] ∧ r.statusWaiting = false
    let addr := s.link.strap.toNat * 0x20000000 + 0x1FF00000 + 0x8000 + r.writeCount.toNat % 512 * 32
    (¬ due ∨ (∀ x ∈ r.waiting, ¬ eligible x) → exec .reportWrite s = .next s) ∧
    (∀ pre x post, due → r.waiting = pre ++ x :: post → (∀ y ∈ pre, ¬ eligible y) → eligible x →
      let write : OwnRequest := { purpose := .report (some r.writeCount), addr := addr, words := 2,
                                  data := reportWords r.lost r.writeCount x }
      ∃ u, exec .reportWrite s = .next (settle s u) ∧ u = { s with link := u.link, report := u.report } ∧
        (x.cls = .frame → r.highWater = true →
          u.link = s.link ∧ u.report = loseReport .frame { r with waiting := pre ++ post }) ∧
        (¬ (x.cls = .frame ∧ r.highWater = true) →
          u.link = { s.link with ownQueue := s.link.ownQueue ++ [write] } ∧
          u.report = { r with
            waiting := pre ++ post, writeCount := r.writeCount + 1,
            entries := r.entries ++ [{ cls := x.cls, forwarded := false }],
            highWater := decide (384 ≤ (r.writeCount + 1 - r.headCopy).toNat),
            lost := if x = .eventsLost then { frame := 0, focus := 0, lens := 0, capture := 0 } else r.lost,
            lostMark := if x = .eventsLost then false else r.lostMark }))

/-! ## The work of a completed frame -/

/-- The measuring of stored data (R23 to R28): the samples of a link word are taken in order, none once the torn mark is set;
the pair of an even row goes into the line buffer, and the pair of an odd row completes a quad, whose luma goes to its
zone, its row, the latched windows that hold it and the profiles, and whose clipped mark to its zone.
STATISTICS_COMPLETION_WORK (R25 to R36): nothing is due while the completion buffer is empty; otherwise the
buffer's frame gives its statistics record to the frame record and to the three controllers, with the weighted mean and
the weighted clip fraction of its zone sums, the window values, the focus figure and the profiles, the two detectors run,
each unless it is suppressed or a condition fails, the active flicker period, and the references after it.  The fields go
into the record of the slot whose record frame is the frame's number, a FREE slot not counting for number 0, and nowhere when
there is none (R16).
What a torn frame's record carries as profiles, that no set is the newest while the history is empty, which record takes the
fields where two slots carry the frame's number, and that work of an earlier VIEW period makes the references valid too, are
the model's choices (log entries 47, 48, 69 and 76). -/
def Obligations.StatisticsWorkHandsTheRecordOn : Prop :=
  (∀ (off : Nat) (w : LinkWord) (ws : List LinkWord) (e : StatEngine) (m : Measurement),
    ((e.measuring = none ∨ ∃ m, e.measuring = some m ∧ m.torn = true) → measure off (w :: ws) e = e) ∧
    (e.measuring = some m → m.torn = false → measure off [] e = e) ∧
    (e.measuring = some m → m.torn = false →
      let l := m.latch
      let sample := fun (j : Nat) => (w.extractLsb' (16 * j) 16).toNat
      let pair := fun (j : Nat) (a : Accumulators) => addPair l (off / 2 + 2 * j) (sample (2 * j)) (sample (2 * j + 1)) a
      measure off (w :: ws) e = measure (off + 16) ws { e with measuring := some { m with
        acc := pair 3 (pair 2 (pair 1 (pair 0 m.acc))) } })) ∧
  (∀ (l : StatLatch) (pixel s0 s1 : Nat) (a : Accumulators),
    let c0 := min s0 4095
    let c1 := min s1 4095
    let clip := l.params.saturation ≤ c0 ∨ l.params.saturation ≤ c1
    let row := pixel / l.width
    let x := pixel % l.width / 2
    let y := row / 2
    let wq := l.width / 2
    let hq := l.height / 2
    (row % 2 = 0 → addPair l pixel s0 s1 a = { a with line := a.line.set x { sum := c0 + c1, mark := decide clip } }) ∧
    (∀ b, row % 2 = 1 → a.line[x]? = some b →
      let q := b.sum + c0 + c1
      let zone := y / (hq / 12) * 16 + x / (wq / 16)
      let holds := fun (r : Rect) => r.x ≤ x ∧ x < r.x + r.width ∧ r.y ≤ y ∧ y < r.y + r.height
      let region := l.mx ≤ x ∧ x < wq - l.mx ∧ l.my ≤ y ∧ y < hq - l.my
      let added := fun (old new : List Nat) (at' n : Nat) => new.length = old.length ∧
        ∀ i v, old[i]? = some v → new[i]? = some (if i = at' then v + n else v)
      let r := addPair l pixel s0 s1 a
      r.line = a.line ∧ r.previous = q ∧ added a.zoneSum r.zoneSum zone q ∧
      (b.mark = true ∨ clip → added a.zoneClip r.zoneClip zone 1) ∧
      (¬ (b.mark = true ∨ clip) → r.zoneClip = a.zoneClip) ∧ added a.rowSum r.rowSum y q ∧
      (region → added a.colProfile r.colProfile (x - l.mx) q ∧ added a.rowProfile r.rowProfile (y - l.my) q) ∧
      (¬ region → r.colProfile = a.colProfile ∧ r.rowProfile = a.rowProfile) ∧
      ∀ (i : Nat) (w : LatchedWindow) (c s : Nat), l.windows[i]? = some w → a.winContrast[i]? = some c → a.winLuma[i]? = some s →
        r.winLuma[i]? = some (if w.enabled = true ∧ holds w.rect then s + q else s) ∧
        r.winContrast[i]? = some (if w.enabled = true ∧ holds w.rect ∧ w.rect.x < x
          then min (2 ^ 40 - 1) (c + (((q : Int) - a.previous).natAbs - l.params.coring)) else c))) ∧
  ∀ s : State, (s.stats.buffer = none → exec .statisticsCompletionWork s = .next s) ∧
    ∀ m, s.stats.buffer = some m →
      let l := m.latch
      let weights := if total l.weights = 0 then List.replicate 192 1 else l.weights
      let quads := l.width / 2 / 16 * (l.height / 2 / 12)
      let handed := fun (r : StatRecord) (w : List WorkItem) =>
        w.map (fun i => if i.notice.frame = m.frame then { i with stats := some r } else i)
      let means := m.acc.rowSum.map (fun x => x / (l.width / 2))
      let figure := fun (c luma : Nat) (w : LatchedWindow) =>
        min (2 ^ 32 - 1) (c * 4096 / (luma / (w.rect.width * w.rect.height) + 64))
      let quantised := fun (p : Period) =>
        (∃ e, s.exposure.history.getLast? = some e ∧ e.quantised = p) ∨
        (∃ x, s.exposure.latches.find? (fun x => x.frame == m.frame) = some x ∧ x.applied.quantised = p)
      let ran := fun (p : Period) (ns : Nat) (old new : Detector) (seen : DetectorResult) =>
        let rows := ns / l.params.lineTime
        let runs := l.params.lineTime ≠ 0 ∧ 8 ≤ rows ∧ 2 * rows ≤ l.height / 2 ∧ m.torn = false ∧ ¬ quantised p
        (seen.on = new.on ∧ seen.level = new.level) ∧
        ((¬ runs ∨ s.stats.rowReference = none ∨ ∃ ref, s.stats.rowReference = some ref ∧ ref.length ≠ l.height / 2) →
          new = old ∧ seen.evaluated = false) ∧
        (∀ ref, runs → s.stats.rowReference = some ref → ref.length = l.height / 2 → means.length = l.height / 2 →
          let diff := fun (r : Nat) => ((means[r]?.getD 0 : Nat) : Int) - ((ref[r]?.getD 0 : Nat) : Int)
          let sum := fun (lag : Nat) => total ((List.range (l.height / 2 - rows)).map
            (fun r => (diff r - diff (r + lag)).natAbs))
          let level := if sum rows < sum (rows / 2) then 256 * (sum (rows / 2) - sum rows) / (sum (rows / 2) + 1) else 0
          let met := if old.on then level ≤ l.params.offThreshold else l.params.onThreshold ≤ level
          let turns := met ∧ old.run + 1 = (if old.on then 6 else 3)
          seen.evaluated = true ∧
          new = { on := if turns then !old.on else old.on, run := if met ∧ ¬ turns then old.run + 1 else 0, level := level })
      ∃ (u : State) (r : StatRecord), exec .statisticsCompletionWork s = .next (settle s u) ∧
        u = { s with stats := u.stats, slots := { s.slots with table := u.slots.table },
                     exposure := { s.exposure with work := handed r s.exposure.work },
                     focus := { s.focus with work := handed r s.focus.work },
                     steady := { s.steady with work := handed r s.steady.work } } ∧
        r.frame = m.frame ∧ r.torn = m.torn ∧ r.valid = !m.torn ∧ r.darkFloor = l.params.darkFloor ∧
        r.windowSet = l.windowSet ∧
        (m.torn = false →
          r.y = total (List.zipWith (fun w z => w * (z / quads)) weights m.acc.zoneSum) / total weights ∧
          r.h = 256 * total (List.zipWith (fun w c => w * c) weights m.acc.zoneClip) /
            total (weights.map (fun w => w * quads)) ∧
          (r.uniformFallback = true ↔ total l.weights = 0) ∧
          (∀ (i : Nat) (w : LatchedWindow) (c luma : Nat), l.windows[i]? = some w →
            m.acc.winContrast[i]? = some c → m.acc.winLuma[i]? = some luma →
            r.windows[i]? = some (if w.enabled
              then { enabled := true, contrast := c, mean := luma / (w.rect.width * w.rect.height), figure := figure c luma w }
              else { enabled := false, contrast := 0, mean := 0, figure := 0 })) ∧
          r.focusFigure = min (2 ^ 32 - 1) (total (r.windows.map (·.figure))) ∧
          r.current = { cols := m.acc.colProfile.map (fun x => x / (l.height / 2 - 2 * l.my)),
                        rows := m.acc.rowProfile.map (fun x => x / (l.width / 2 - 2 * l.mx)),
                        mx := l.mx, my := l.my, width := l.width, height := l.height } ∧
          u.stats.rowReference = some means ∧ u.stats.profileReference = some r.current) ∧
        (∀ q, s.stats.profileReference = some q → r.reference =
          if (q.mx, q.my, q.width, q.height) = (l.mx, l.my, l.width, l.height) then some q else none) ∧
        (s.stats.profileReference = none → r.reference = none) ∧
        (m.torn = true → r.y = 0 ∧ r.h = 0 ∧ r.focusFigure = 0 ∧ u.stats.rowReference = none ∧
          u.stats.profileReference = s.stats.profileReference) ∧
        ran .us10000 10000000 s.stats.det100 u.stats.det100 r.det100 ∧
        ran .us8333 8333333 s.stats.det120 u.stats.det120 r.det120 ∧
        (u.stats.det100.on = false → u.stats.det120.on = false → r.activePeriod = .off) ∧
        (u.stats.det100.on = true → (u.stats.det120.on = false ∨ u.stats.det120.level ≤ u.stats.det100.level) →
          r.activePeriod = .us10000) ∧
        (u.stats.det120.on = true → (u.stats.det100.on = false ∨ u.stats.det100.level < u.stats.det120.level) →
          r.activePeriod = .us8333) ∧
        u.stats.buffer = none ∧ u.stats.measuring = s.stats.measuring ∧ u.stats.params = s.stats.params ∧
        u.stats.patterns = s.stats.patterns ∧
        ((∀ e ∈ s.slots.table, ¬ TakesFields m.frame e) → u.slots.table = s.slots.table) ∧
        (∀ i e, s.slots.table[i]? = some e → TakesFields m.frame e →
          (∀ e' ∈ s.slots.table.take i, ¬ TakesFields m.frame e') →
          u.slots.table[i]? = some { e with record := { e.record with statistics := recordStatisticsOf r } } ∧
          ∀ j, j ≠ i → u.slots.table[j]? = s.slots.table[j]?)

/-- EXPOSURE_COMPLETION_WORK (R44, R46 to R52, R58 to R60): nothing is due until the oldest outstanding frame's record is
held.  The frame record gets the mean, the meter reading and the skip reason (R46 to R48): the one of the slot whose record
frame is the frame's number, a FREE slot not counting for number 0, or none (R16); in STANDBY no set is issued.  In
VIEW the settle run and SETTLED, and the scene reference's run with its "scene changed", follow a measured frame (R50, R51);
the alarm is sent; and one set is issued, tagged with the frame and pushed into the history of 4: a HELD copy of the standing
set under the AE hold and in LOCKED, the program line's set for X_iss + step in PROGRAM, the manual set in MANUAL.  The LIGHT
flags are the set's, the iris is asked for its stop when the lens is READY and the stop differs or none was asked for since
VIEW was entered, and the set is reported with what it came from, marked as changed or not.  The held lens values are read with
the lens READY (R40, R53), but for a HELD copy of a set of the history.
That the standing set of an empty history is such a read is the model's reading (log entry 50), and the model's are its AL
without derived values (log entry 74), what the Status Block keeps and that it shows a torn frame's skip reason with its meter
mark clear (log entries 31 and 78), the slot whose record takes the fields
where two carry the frame's number (log entry 69) and the work of an earlier VIEW period (log entry 76). -/
def Obligations.ExposureWorkIssuesASet : Prop :=
  ∀ s : State,
    ((∀ a r rest, s.exposure.work ≠ { notice := a, stats := some r } :: rest) →
      exec .exposureCompletionWork s = .next s) ∧
    ∀ a r rest, s.exposure.work = { notice := a, stats := some r } :: rest →
      ((∀ l ∈ s.exposure.latches, l.frame ≠ a.frame) → exec .exposureCompletionWork s =
        .next (settle s { s with exposure := { s.exposure with work := rest } })) ∧
      ∀ l, s.exposure.latches.find? (fun l => l.frame == a.frame) = some l →
        let p := l.params
        let kept := s.exposure.latches.filter (fun l => l.frame != a.frame)
        let standing := standingSet l.program s
        let bias := if p.hLim < r.h then min 64 (2 * (r.h - p.hLim)) else 0
        let em : Int := if r.valid then (logL r.y : Int) - logL p.target - p.compensation + bias else 0
        let e := if r.valid then em + (standing.xl - l.applied.xl) else 0
        let skip : SkipReason := if a.torn then .torn else if a.moving.iris then .irisMoving
          else if s.focus.aeHold then .focusHold
          else match p.mode with
            | .program => .stepped
            | .manual => .manual
            | .locked => .locked
        let measured := a.torn = false ∧ a.moving.iris = false
        let step := if measured ∧ s.focus.aeHold = false ∧ p.mode = .program ∧ p.deadBand < e.natAbs
          then max (-(p.stepMax : Int)) (min p.stepMax (-(Int.tdiv (e * p.gain) 16))) else 0
        let held := s.focus.aeHold = true ∨ p.mode = .locked
        let lensRead : LensValues := match s.lens.mode, s.zoom.derived with
          | .ready, some d => { focal := d.focal, alOpen := d.alOpen, stops := d.stops, stepAl := d.stepAl }
          | _, _ => s.exposure.held
        let settles := if ¬ measured then (s.exposure.settled, s.exposure.settleRun)
          else if s.exposure.settled then (if 12 < e.natAbs then (false, 0) else (true, s.exposure.settleRun))
          else if e.natAbs ≤ 4 then (if s.exposure.settleRun + 1 = 2 then (true, 0) else (false, s.exposure.settleRun + 1))
          else (false, 0)
        let x := s.exposure.scene
        let differs := measured ∧ x.valid = true ∧ 48 < ((logL r.y : Int) - x.level).natAbs
        let scene := if ¬ (measured ∧ x.valid = true) then x
          else if ¬ differs then { x with run := 0 }
          else if x.run + 1 = 3 then { x with valid := false, run := 0 } else { x with run := x.run + 1 }
        let metered := fun (u : State) =>
          ((∀ y ∈ s.slots.table, ¬ TakesFields a.frame y) → u.slots.table = s.slots.table) ∧
          ∀ i y, s.slots.table[i]? = some y → TakesFields a.frame y →
            (∀ y' ∈ s.slots.table.take i, ¬ TakesFields a.frame y') →
            u.slots.table[i]? = some { y with record := { y.record with
              metering := some { y := r.y, eMeas := em, skip := skip } } } ∧
            ∀ j, j ≠ i → u.slots.table[j]? = s.slots.table[j]?
        (s.command.mode = .standby → ∃ u, exec .exposureCompletionWork s = .next (settle s u) ∧ metered u ∧
          u = { s with exposure := { s.exposure with
                         work := rest, latches := kept,
                         held := if s.exposure.history = [] then lensRead else s.exposure.held },
                       slots := { s.slots with table := u.slots.table } }) ∧
        (s.command.mode = .view → ∃ (u : State) (issued : ExposureSet),
          let n := a.frame
          let asks := ¬ held ∧ s.lens.mode = .ready ∧ (issued.irisStop ≠ standing.irisStop ∨ s.exposure.firstIssue = true)
          let changed := s.exposure.firstIssue = true ∨
            (issued.tl, issued.gl, issued.al, issued.irisStop, issued.shutter, issued.gainCode, issued.quantised) ≠
              (standing.tl, standing.gl, standing.al, standing.irisStop, standing.shutter, standing.gainCode, standing.quantised)
          let rep : ExposureReport :=
            { set := issued, skip := skip, meter := if r.valid then some (em, e) else none, step := step,
              settled := settles.1, changed := decide changed }
          exec .exposureCompletionWork s = .next (settle s u) ∧ metered u ∧
          (held → issued = { standing with source := .held, tag := some n }) ∧
          (¬ held → p.mode = .program → issued = programSet s l r.activePeriod (standing.xl + step) n) ∧
          (¬ held → p.mode = .manual → issued = manualSet s l r.activePeriod n) ∧
          u = { s with
            slots := { s.slots with table := u.slots.table },
            exposure := { s.exposure with
              work := rest, latches := kept, settled := settles.1, settleRun := settles.2, scene := scene,
              history := (s.exposure.history ++ [issued]).drop (s.exposure.history.length - 3),
              lightHigh := issued.lightHigh, lightLow := issued.lightLow,
              firstIssue := s.exposure.firstIssue && !decide asks,
              held := if held ∧ s.exposure.history ≠ [] then s.exposure.held else lensRead,
              shown := { y := r.y, eMeas := em, skip := skip, present := r.valid, mode := p.mode } },
            focus := { s.focus with fromExposure := s.focus.fromExposure ++
              (if differs ∧ x.run + 1 = 3 then [.sceneChanged n] else []) ++
              [.alarm (if measured then (if 96 < e.natAbs then .far else .near) else .unmeasured) n] },
            lens := if asks then { s.lens with
                fromExposure := s.lens.fromExposure ++ [.target .iris (8 * issued.irisStop) .plain] }
              else s.lens,
            report := { s.report with waiting := mergeExposure rep s.report.waiting } })

/-- The logarithm of R41: its value at every x, 0 taken as 1; that it never falls; and its bounds for lumas and times.
The antilogarithm, the gain code and the gain level of R42 at every level and code, and where they invert one another. -/
def Obligations.LogarithmIsExactAndMonotone : Prop :=
  (∀ x e : Nat, 2 ^ e ≤ x → x < 2 ^ (e + 1) → logL x = 32 * e + 32 * (x - 2 ^ e) / 2 ^ e) ∧ logL 0 = 0 ∧
  (∀ x y : Nat, x ≤ y → logL x ≤ logL y) ∧ (∀ x : Nat, x ≤ 16380 → logL x ≤ 447) ∧
  (∀ x : Nat, x < 2 ^ 32 → logL x ≤ 1023) ∧
  (∀ e f : Nat, f < 32 → antilog (32 * e + f) = (2 ^ e * (32 + f)) / 32 ∧ gainCodeOf (32 * e + f) = 2 ^ e * (32 + f) * 8) ∧
  (∀ c : Nat, gainLevelOf c = (logL (c / 8) : Int) - 160) ∧ (∀ g : Nat, gainLevelOf (gainCodeOf g) = g) ∧
  (∀ t : Nat, logL (antilog t) ≤ t) ∧ (∀ t : Nat, 160 ≤ t → logL (antilog t) = t)

/-- A set of the program line stays inside the limits of its PROGRAM table (R53 to R56): the time level from TL_min to TL_max
and the gain level at most GL_max, and its XL is TL + GL - AL.
The set itself: the handheld limit (R53); the first stop at which the time reaches TL_min, or the last, with LIGHT_HIGH when
none does (R54), and the standing stop with the lens not READY (R57); gain above the handheld limit, then time again, with
LIGHT_LOW at TL_max (R55); and the shutter time cut to whole light periods, the lost light moved into gain (R56).
The manual set (R64): the shutter time, the gain code and the stop as commanded, each clamped, with the code or time of the
clamped level when its clamp was needed, and FLICKER_EXPOSED for a time below the active period. -/
def Obligations.ProgramSetsStayInTheLimits : Prop :=
  ∀ (s : State) (l : ExposureLatch) (period : Period) (target : Int) (n : BitVec 32), l.program.tlMin ≤ l.program.tlMax →
    let e := programSet s l period target n
    l.program.tlMin ≤ e.tl ∧ e.tl ≤ l.program.tlMax ∧ e.gl ≤ l.program.glMax ∧
    e.xl = (e.tl : Int) + e.gl - e.al ∧ e.source = .program ∧ e.tag = some n ∧
    ∀ focal alOpen stops stepAl : Nat,
      ((∃ d, s.lens.mode = .ready ∧ s.zoom.derived = some d ∧
        (focal, alOpen, stops, stepAl) = (d.focal, d.alOpen, d.stops, d.stepAl)) ∨
       (s.lens.mode ≠ .ready ∧ (focal, alOpen, stops, stepAl) =
        (s.exposure.held.focal, s.exposure.held.alOpen, s.exposure.held.stops, s.exposure.held.stepAl))) →
      let p := l.program
      let al := fun (st : Nat) => alOpen + st * stepAl
      let standing := (standingSet p s).irisStop
      let active := if period = .us10000 then 10000 else 8333
      let hand := max p.tlMin (min p.tlMax (logL (1000000 / max 1 (focal * p.crop / 160)) + if l.steady then p.credit else 0))
      let tl0 := if target + al e.irisStop < p.tlMin then p.tlMin else (target + al e.irisStop).toNat
      let excess := tl0 - hand - p.glMax
      let gl := min (tl0 - hand) p.glMax
      let tl := min (min tl0 hand + excess) p.tlMax
      let quantised := active * (antilog tl / active)
      let m := manualSet s l period n
      let mTl := logL l.params.manualShutter
      let mGl := (logL (l.params.manualGain / 8) : Int) - 160
      e.al = al e.irisStop ∧ e.irisStop ≤ stops - 1 ∧
      (s.lens.mode = .ready → (∀ k < e.irisStop, target + al k < p.tlMin) ∧
        (e.irisStop < stops - 1 → (p.tlMin : Int) ≤ target + al e.irisStop)) ∧
      (s.lens.mode ≠ .ready → e.irisStop = min standing (stops - 1)) ∧
      e.lightHigh = decide (target + al e.irisStop < p.tlMin) ∧
      e.lightLow = decide (p.tlMax < min tl0 hand + excess) ∧ e.lensHeld = decide (s.lens.mode ≠ .ready) ∧
      e.gainCode = gainCodeOf e.gl ∧
      (period = .off → (e.tl, e.gl, e.shutter, e.quantised, e.flickerExposed) = (tl, gl, antilog tl, .off, false)) ∧
      (period ≠ .off → antilog tl < active ∨ logL quantised < p.tlMin →
        (e.tl, e.gl, e.shutter, e.quantised, e.flickerExposed) = (tl, gl, antilog tl, .off, true)) ∧
      (period ≠ .off → active ≤ antilog tl → p.tlMin ≤ logL quantised →
        (e.tl, e.gl, e.shutter, e.quantised, e.flickerExposed) =
          (logL quantised, min (gl + (tl - logL quantised)) p.glMax, quantised, period, false)) ∧
      m.tl = max p.tlMin (min p.tlMax mTl) ∧ (m.gl : Int) = max 0 (min (p.glMax : Int) mGl) ∧
      m.irisStop = min (if s.lens.mode = .ready then l.params.manualIris else standing) (stops - 1) ∧
      m.al = al m.irisStop ∧ m.xl = (m.tl : Int) + m.gl - m.al ∧
      m.shutter = (if m.tl = mTl then l.params.manualShutter else antilog m.tl) ∧
      m.gainCode = (if (m.gl : Int) = mGl then l.params.manualGain else gainCodeOf m.gl) ∧
      m.flickerExposed = decide (period ≠ .off ∧ m.shutter < active) ∧
      (m.quantised, m.lightHigh, m.lightLow, m.lensHeld, m.source, m.tag) =
        (.off, false, false, decide (s.lens.mode ≠ .ready), .manual, some n)

/-- STEADY_COMPLETION_WORK (R115, R118, R119): nothing is due until the oldest outstanding frame's record is held. In
STANDBY the offset stays; with the latched enable clear it is centred; and an estimated frame moves each axis by its
motion, leaks it, at the panning leak while its panning mark is set, clamps it to 16 times the margin, counts the clamp run
and sets and clears the mark; the frame record shows motion, quality, hold reason and offset.  An untorn frame leaves the
note the next one is judged by.  The fields go into the record of the slot whose record frame is the frame's number, a FREE
slot not counting for number 0, and nowhere when there is none (R16).
The hold chain of R117 in its order, and the estimate of R116: among the shifts within the range the least SAD, the smaller
shift and then the negative one among equals, the axis quality from the mean SAD, and the mark at the range.
Which slot's record takes the fields, where two carry the frame's number, and what the work of an earlier VIEW period does are
the model's choices (log entries 69 and 76). -/
def Obligations.SteadyWorkMovesTheOffset : Prop :=
  (∀ s : State,
    ((∀ a r rest, s.steady.work ≠ { notice := a, stats := some r } :: rest) →
      exec .steadyCompletionWork s = .next s) ∧
    ∀ a r rest l, s.steady.work = { notice := a, stats := some r } :: rest →
      s.steady.latches.find? (fun l => l.frame == a.frame) = some l →
      let c := { s.steady with
        work := rest, latches := s.steady.latches.filter (fun l => l.frame != a.frame),
        note := if a.torn then s.steady.note else some { xl := l.xl, zoomMoving := a.moving.zoom } }
      let centre : AxisState := { o16 := 0, run := 0, panning := false }
      let e := estimate l a r s.steady.note
      let moved := fun (d : Int) (margin : Nat) (x : AxisState) =>
        let raw := x.o16 + 16 * d
        let leak := if x.panning then min 128 (2 * l.leak) else l.leak
        let free := raw - Int.tdiv (raw * leak) 256
        let held := max (-(16 * margin : Int)) (min (16 * margin) free)
        let run := if held = free then 0 else min 4 (x.run + 1)
        ({ o16 := held, run := run,
           panning := decide ((x.panning = true ∨ run = 4) ∧ ¬ held.natAbs < 8 * margin) } : AxisState)
      (s.command.mode = .standby → exec .steadyCompletionWork s = .next (settle s { s with steady := c })) ∧
      (s.command.mode = .view → l.enable = false → exec .steadyCompletionWork s =
        .next (settle s { s with steady := { c with axisX := centre, axisY := centre } })) ∧
      (s.command.mode = .view → l.enable = true → ∃ u, exec .steadyCompletionWork s = .next (settle s u) ∧
        u = { s with steady := { c with axisX := moved e.dx r.current.mx s.steady.axisX,
                                        axisY := moved e.dy r.current.my s.steady.axisY },
                     slots := { s.slots with table := u.slots.table } } ∧
        ((∀ x ∈ s.slots.table, ¬ TakesFields a.frame x) → u.slots.table = s.slots.table) ∧
        (∀ i x, s.slots.table[i]? = some x → TakesFields a.frame x →
          (∀ x' ∈ s.slots.table.take i, ¬ TakesFields a.frame x') →
          (∀ j, j ≠ i → u.slots.table[j]? = s.slots.table[j]?) ∧
          ∃ f, u.slots.table[i]? = some { x with record := { x.record with steady := some f } } ∧
            (f.dx, f.dy, f.quality, f.hold) = (e.dx, e.dy, e.quality, e.hold) ∧
            (f.ox, f.oy) = (roundOffset u.steady.axisX.o16, roundOffset u.steady.axisY.o16) ∧
            f.ox.natAbs ≤ r.current.mx ∧ f.oy.natAbs ≤ r.current.my))) ∧
  (∀ o : Int, (0 ≤ o → roundOffset o = (o + 8) / 16) ∧ roundOffset (-o) = -roundOffset o) ∧
  (∀ (l : SteadyLatch) (a : Announcement) (r : StatRecord) (note : Option ReferenceNote),
    let e := estimate l a r note
    (a.torn = true → e = { dx := 0, dy := 0, quality := 0, hold := .torn }) ∧
    (a.torn = false → r.reference = none ∨ note = none → e = { dx := 0, dy := 0, quality := 0, hold := .noReference }) ∧
    (∀ q n, a.torn = false → r.reference = some q → note = some n →
      let zooms := a.moving.zoom = true ∨ n.zoomMoving = true
      let steps := 16 < (l.xl - n.xl).natAbs
      let x := axisMotion l.range r.current.cols q.cols
      let y := axisMotion l.range r.current.rows q.rows
      let quality := min x.2.1 y.2.1
      (zooms → e = { dx := 0, dy := 0, quality := 0, hold := .zoomMoving }) ∧
      (¬ zooms → steps → e = { dx := 0, dy := 0, quality := 0, hold := .exposureStep }) ∧
      (¬ zooms → ¬ steps → quality < l.qualityMin →
        e = { dx := 0, dy := 0, quality := quality, hold := .lowQuality }) ∧
      (¬ zooms → ¬ steps → ¬ quality < l.qualityMin →
        e = { dx := x.1, dy := y.1, quality := quality,
              hold := if x.2.2 = true ∨ y.2.2 = true then .atRange else .noHold }))) ∧
  (∀ (range : Nat) (current reference : List Nat), current.length = reference.length → range < current.length →
    let n := current.length
    let mean := fun (p : List Nat) => total p / p.length
    let c := fun (i : Int) => ((current[i.toNat]?.getD 0 : Nat) : Int) - (mean current : Nat)
    let f := fun (i : Int) => ((reference[i.toNat]?.getD 0 : Nat) : Int) - (mean reference : Nat)
    let sad := fun (s : Int) => 1024 * total ((List.range n).map (fun (i : Nat) =>
      if 0 ≤ (i : Int) + s ∧ (i : Int) + s < n then (c i - f (i + s)).natAbs else 0)) / (n - s.natAbs)
    let all := (List.range (2 * range + 1)).map (fun (i : Nat) => (i : Int) - range)
    let average := total (all.map sad) / (2 * range + 1)
    let m := axisMotion range current reference
    ∃ best : Int, m.1 = -best ∧ best.natAbs ≤ range ∧ (m.2.2 = true ↔ best.natAbs = range) ∧
      m.2.1 = 256 * (average - sad best) / (average + 1) ∧
      ∀ s : Int, s.natAbs ≤ range → sad best ≤ sad s ∧
        (sad best = sad s → best.natAbs ≤ s.natAbs ∧ (best.natAbs = s.natAbs → best ≤ s)))

/-- FOCUS_COMPLETION_WORK and FOCUS_FRAME_LIMIT (R97, R98, R101 to R105, R108): nothing is due until the oldest outstanding
frame's record is held. A frame in STANDBY, IDLE or FAILED is only discarded. While a search sweeps every frame is counted;
the 97th ends it FAILED with TIMEOUT, a target and a fraction for the fallback; before that a frame while the move mark is
set, or with a reason of the validity chain, gives no sample.
A valid sample joins the list and may be the best. In COARSE two samples past the peak enter FINE, and otherwise the next
position is sent, the sweep turns once at the range end, and its second end enters FINE or fails with LOW_CONTRAST. In FINE
it gives its position of the plan a figure; the next position is sent, or PEAK entered at the vertex. In LOCKED and MONITOR a
valid frame takes the pending baseline, which after SET FOCUS WINDOWS needs a frame measured with the new windows (R96), or in
MONITOR is compared with it, the third drop in a row restarting the search.
The model's: the row FOCUS_FRAME_LIMIT (log entry 39), the frames and the best figure of the reports (log entries 24 and 54),
the numbers of the window sets (log entry 53), the drop run's end (log entry 33), a neighbour the clamp moved (log entry 73),
what the REACHED of the stop before the fallback finds (log entry 75), the work of an earlier VIEW period (log entry 76). -/
def Obligations.FocusWorkCountsAndSamplesFrames : Prop :=
  ∀ s : State,
    ((∀ a r rest, s.focus.work ≠ { notice := a, stats := some r } :: rest) →
      exec .focusCompletionWork s = .next s ∧ exec .focusFrameLimit s = .next s) ∧
    ∀ a r rest, s.focus.work = { notice := a, stats := some r } :: rest →
      let out := exec .focusCompletionWork s
      let f := { s.focus with work := rest }
      let counted := { f with framesUsed := s.focus.framesUsed + 1 }
      let view := s.command.mode = .view
      let search := s.focus.search
      let sweeping := view ∧ (search = .coarse ∨ search = .fine ∨ search = .peak)
      let holding := view ∧ (search = .locked ∨ search = .monitor)
      let lit := ∃ w ∈ r.windows, w.enabled = true ∧ r.darkFloor ≤ w.mean
      let settled := a.moving.focus = false ∧ a.focusSettled = true
      let valid := a.torn = false ∧ settled ∧ a.moving.zoom = false ∧ lit
      let asks := fun (m : List LensMessage) => { s.lens with fromFocus := s.lens.fromFocus ++ m }
      (¬ view ∨ search = .idle ∨ search = .failed → out = .next (settle s { s with focus := f })) ∧
      (¬ (sweeping ∧ 96 ≤ s.focus.framesUsed) → exec .focusFrameLimit s = .next s) ∧
      (∀ d, sweeping → 96 ≤ s.focus.framesUsed → s.zoom.derived = some d → d.pInf ≤ d.pNear → s.focus.fallback ≤ 1024 →
        let target := d.pInf + s.focus.fallback * (d.pNear - d.pInf) / 1024
        ∃ (u : State) (rep : FocusReport), out = .next (settle s u) ∧ exec .focusFrameLimit s = .next (settle s u) ∧
          u = { s with
            focus := { counted with search := .failed, aeHold := false, samples := [], best := none, plan := [],
                                    moveMark := true },
            lens := asks ((if s.focus.moveMark then [.stop .focus .plain] else []) ++ [.target .focus target .plain]),
            zoom := { s.zoom with fromFocus := s.zoom.fromFocus ++ [.fraction s.focus.fallback] },
            report := giveGeneral (.focusState rep) s.report } ∧
          rep.cause = .timeout ∧ rep.state = .failed ∧ rep.before = search ∧ rep.reason = s.focus.lastFailure) ∧
      (sweeping → s.focus.framesUsed < 96 → (s.focus.moveMark = true ∨ valid ∧ search = .peak) →
        out = .next (settle s { s with focus := counted })) ∧
      (sweeping → s.focus.framesUsed < 96 → s.focus.moveMark = false → ¬ valid →
        ∃ why, out = .next (settle s { s with focus := { counted with lastFailure := why } }) ∧
          (a.torn = true → why = .torn) ∧ (a.torn = false → ¬ settled → why = .focusMoving) ∧
          (a.torn = false → settled → a.moving.zoom = true → why = .zoomMoving) ∧
          (a.torn = false → settled → a.moving.zoom = false → why = .dark)) ∧
      (∀ d, sweeping → s.focus.framesUsed < 96 → s.focus.moveMark = false → valid → s.zoom.derived = some d →
        d.pInf ≤ d.pNear →
        let p := a.endSample.focus
        let clamp := fun (q : Int) => (max (d.pInf : Int) (min q d.pNear)).toNat
        let x : FocusSample := { position := p, figure := r.focusFigure, frame := a.frame, sweep := s.focus.sweep }
        let samples := (s.focus.samples ++ [x]).drop (s.focus.samples.length - 63)
        let mine : BestRecord := { position := p, figure := r.focusFigure, frame := a.frame }
        let best := match s.focus.best with
          | some b => if b.figure < r.focusFigure then mine else b
          | none => mine
        let g := { counted with samples := samples, best := some best }
        let sends := fun (q : Nat) (h : FocusController) => out = .next (settle s
          { s with lens := asks [.target .focus q .plain], focus := { h with moveMark := true } })
        (search = .coarse →
          let dir : Int := if s.focus.forward then 1 else -1
          let past := fun (y : FocusSample) => 0 < ((y.position : Int) - best.position) * dir ∧
            y.figure < best.figure * (256 - s.focus.drop) / 256
          let passed := ∃ pre y, samples.filter (fun y => y.sweep == s.focus.sweep) = pre ++ [y, x] ∧ past y ∧ past x
          let next := clamp (p + dir * s.focus.coarseStep)
          let back := clamp (s.focus.startPosition - dir * s.focus.coarseStep)
          let turned := { g with sweep := 2, forward := !s.focus.forward }
          let ended := ¬ passed ∧ next = p ∧ (s.focus.sweep ≠ 1 ∨ back = p)
          let last := if s.focus.sweep = 1 then turned else g
          let fine := fun (c : FocusCause) (h : FocusController) =>
            let sf := max 1 (s.focus.coarseStep / 4)
            let b : Int := best.position
            let all := [b - 2 * sf, b - sf, b, b + sf, b + 2 * sf].map clamp
            ∃ first rest, (first :: rest).Nodup ∧ (∀ q, q ∈ first :: rest ↔ q ∈ all) ∧ (first :: rest).Sublist all ∧
              out = .next (settle s (reportFocus .coarse { cause := c, frame := a.frame, peakOrStep := sf } { s with
                lens := asks [.target .focus first .plain],
                focus := { h with search := .fine, fineStep := sf, moveMark := true,
                                  plan := (first :: rest).map (fun q => { position := q, figure := none }) } }))
          (passed → fine .peakPassed g) ∧
          (¬ passed → next ≠ p → sends next g) ∧
          (¬ passed → next = p → s.focus.sweep = 1 → back ≠ p → sends back turned) ∧
          (ended → s.focus.contrastFloor ≤ best.figure → fine .sweepEnd last) ∧
          (ended → best.figure < s.focus.contrastFloor → s.focus.fallback ≤ 1024 → ∃ (rep : FocusReport),
            out = .next (settle s { s with
              focus := { last with search := .failed, aeHold := false, samples := [], best := none, plan := [],
                                   moveMark := true },
              lens := asks [.target .focus (d.pInf + s.focus.fallback * (d.pNear - d.pInf) / 1024) .plain],
              zoom := { s.zoom with fromFocus := s.zoom.fromFocus ++ [.fraction s.focus.fallback] },
              report := giveGeneral (.focusState rep) s.report }) ∧
            (rep.cause, rep.state, rep.before, rep.best) = (.lowContrast, .failed, .coarse, some best))) ∧
        (search = .fine →
          let visited := s.focus.plan.find? (fun e => e.figure.isNone)
          let filled := s.focus.plan.map (fun e => if e.position = p then { e with figure := some r.focusFigure } else e)
          let plan := if visited.map (·.position) = some p then filled else s.focus.plan
          let h := { g with plan := plan }
          (∀ v, plan.find? (fun e => e.figure.isNone) = some v → sends v.position h) ∧
          (∀ (pre : List PlanEntry) (b fb : Nat) (post : List PlanEntry),
            plan = pre ++ { position := b, figure := some fb } :: post → (plan.map (·.position)).Nodup →
            (∀ y ∈ pre, ∃ f, y.figure = some f ∧ f < fb) → (∀ y ∈ post, ∃ f, y.figure = some f ∧ f ≤ fb) →
            let sf := s.focus.fineStep
            let there := fun (q : Int) (f : Nat) => ∃ y ∈ plan, (y.position : Int) = q ∧ y.figure = some f
            let peak := fun (v : Int) => ∃ (rep : FocusReport), out = .next (settle s { s with
                lens := asks [.target .focus (clamp v) .plain],
                focus := { h with search := .peak, peakTarget := clamp v, moveMark := true },
                report := giveGeneral (.focusState rep) s.report }) ∧
              (rep.cause, rep.state, rep.before, rep.peakOrStep, rep.frame) = (.peakSet, .peak, .fine, clamp v, a.frame) ∧
              rep.best = some { best with figure := fb }
            (∀ lo hi, there (b - sf) lo → there (b + sf) hi →
              let den : Int := (lo : Int) - 2 * fb + hi
              (den < 0 → peak (max ((b : Int) - sf) (min (b + sf) (b + Int.tdiv (sf * ((lo : Int) - hi)) (2 * den))))) ∧
              (0 ≤ den → peak b)) ∧
            ((∀ lo, ¬ there (b - sf) lo) ∨ (∀ hi, ¬ there (b + sf) hi) → peak b)))) ∧
      (holding → (s.focus.moveMark = true ∨ ¬ valid ∨ s.focus.zoomPause = true ∨
          (search = .locked ∧ s.focus.baselinePending = false) ∨
          (s.focus.baselinePending = true ∧ r.windowSet < s.focus.baselineSet)) →
        out = .next (settle s { s with focus := f })) ∧
      (holding → s.focus.moveMark = false → valid → s.focus.zoomPause = false → s.focus.baselinePending = true →
        s.focus.baselineSet ≤ r.windowSet → out = .next (settle s (reportFocus search { cause := .baseline, frame := a.frame }
          { s with focus := { f with lockFigure := r.focusFigure, baselinePending := false, baselineSet := 0 },
                   exposure := { s.exposure with messages := s.exposure.messages ++ [.take a.frame r.y] } }))) ∧
      (holding → search = .monitor → s.focus.moveMark = false → valid → s.focus.zoomPause = false →
        s.focus.baselinePending = false →
        let fallen := r.focusFigure < s.focus.lockFigure * (256 - s.focus.monitorDrop) / 256
        (¬ fallen → out = .next (settle s { s with focus := { f with dropRun := 0 } })) ∧
        (fallen → s.focus.dropRun < 2 →
          out = .next (settle s { s with focus := { f with dropRun := s.focus.dropRun + 1 } })) ∧
        (∀ d, fallen → 2 ≤ s.focus.dropRun → s.lens.mode = .ready → s.zoom.derived = some d → s.focus.mode ≠ .manual →
          s.zoom.moving = false → out = .next (settle s (reportFocus .monitor { cause := .restartDrop, frame := a.frame }
            { s with focus := { f with
              samples := [], best := none, plan := [], framesUsed := 0, farRun := 0, lastFailure := .noReason,
              forward := decide (s.zoom.u ≤ 512), coarseStep := d.coarse, sweep := 1,
              startPosition := s.lens.focus.position, lockFigure := 0, baselinePending := false, baselineSet := 0,
              zoomPause := false, dropRun := 0, aeHold := true, search := .coarse } }))))

/-! ## Notices between the controllers -/

/-- TAKE_REFERENCE and DROP_REFERENCE (R51), EXPOSURE_ALARM (R106) and SCENE_CHANGED (R108): each takes the oldest waiting item
of its kind and is not due otherwise. A taken reference is valid at L(Y) with its run at 0, a dropped one invalid with its
run at 0. A FAR alarm while a search sweeps counts up and the second in a row abandons the search; NEAR restarts the count.
A changed scene restarts MONITOR, is reported in LOCKED, and is ignored in the zoom pause and in every other state.
The lists in which the notices wait are the model's (log entry 3), and so is the frame of a report (log entry 24). -/
def Obligations.ExposureNoticesReachTheFocus : Prop :=
  ∀ s : State,
    let x := s.exposure
    let f := s.focus
    ((∀ n y rest, x.messages ≠ .take n y :: rest) → exec .takeReference s = .next s) ∧
    (∀ n y rest, x.messages = .take n y :: rest → exec .takeReference s = .next (settle s { s with exposure :=
      { x with messages := rest, scene := { valid := true, level := logL y, run := 0 } } })) ∧
    ((∀ rest, x.messages ≠ .drop :: rest) → exec .dropReference s = .next s) ∧
    (∀ rest, x.messages = .drop :: rest → exec .dropReference s = .next (settle s { s with exposure :=
      { x with messages := rest, scene := { x.scene with valid := false, run := 0 } } })) ∧
    ((∀ v n rest, f.fromExposure ≠ .alarm v n :: rest) → exec .exposureAlarm s = .next s) ∧
    (∀ v n rest, f.fromExposure = .alarm v n :: rest →
      let g := { f with fromExposure := rest }
      let sweeping := f.search = .coarse ∨ f.search = .fine ∨ f.search = .peak
      let stopped := if f.moveMark then { s.lens with fromFocus := s.lens.fromFocus ++ [.stop .focus .plain] } else s.lens
      let out := exec .exposureAlarm s
      (¬ sweeping ∨ v = .unmeasured → out = .next (settle s { s with focus := g })) ∧
      (sweeping → v = .near → out = .next (settle s { s with focus := { g with farRun := 0 } })) ∧
      (sweeping → v = .far → f.farRun = 0 → out = .next (settle s { s with focus := { g with farRun := 1 } })) ∧
      (sweeping → v = .far → 1 ≤ f.farRun → out = .next (settle s (reportFocus f.search { cause := .exposure, frame := n }
        { s with lens := stopped,
                 focus := { g with farRun := f.farRun + 1, search := .idle, aeHold := false, samples := [], best := none,
                                   plan := [], moveMark := false } })))) ∧
    ((∀ n rest, f.fromExposure ≠ .sceneChanged n :: rest) → exec .sceneChanged s = .next s) ∧
    (∀ n rest, f.fromExposure = .sceneChanged n :: rest →
      let u := { s with focus := { f with fromExposure := rest } }
      let out := exec .sceneChanged s
      (f.zoomPause = true ∨ (f.search ≠ .monitor ∧ f.search ≠ .locked) → out = .next (settle s u)) ∧
      (f.zoomPause = false → f.search = .locked →
        out = .next (settle s (reportFocus .locked { cause := .sceneChanged, frame := n } u))) ∧
      (∀ d, f.zoomPause = false → f.search = .monitor → s.command.mode = .view → s.lens.mode = .ready →
        s.zoom.derived = some d → f.mode ≠ .manual → s.zoom.moving = false →
        out = .next (settle s (reportFocus .monitor { cause := .restartScene, frame := n } { u with focus :=
          { u.focus with
            samples := [], best := none, plan := [], framesUsed := 0, farRun := 0, lastFailure := .noReason,
            forward := decide (s.zoom.u ≤ 512), coarseStep := d.coarse, sweep := 1,
            startPosition := s.lens.focus.position, lockFigure := 0, baselinePending := false, baselineSet := 0,
            zoomPause := false, dropRun := 0, aeHold := true, search := .coarse } }))))

/-- FOCUS_MOVE_END, FOCUS_STEP_LOSS and LENS_FAULT (R99, R103, R106), ZOOM_STARTED and ZOOM_STOPPED (R99, R106, R108): each takes
the oldest waiting notice of its kind and is not due otherwise. The end of the controller's own move clears the move mark
and in PEAK locks, in MONITOR when the mode is CONTINUOUS; a step loss and a started zoom abandon a sweeping search; a lens
fault leaves every state but IDLE for FAILED; and the zoom's start and end set and clear the pause of LOCKED and MONITOR.
The lists in which the notices wait are the model's (log entry 3), and so are the frame of a report (log entry 24) and what the
REACHED of the stop before a fallback move finds, which clears that move's mark (log entry 75). -/
def Obligations.FocusActsOnLensAndZoomNotices : Prop :=
  ∀ s : State,
    let f := s.focus
    let sweeping := f.search = .coarse ∨ f.search = .fine ∨ f.search = .peak
    let holding := f.search = .locked ∨ f.search = .monitor
    let resting := fun (g : FocusController) (st : SearchState) =>
      { g with search := st, aeHold := false, samples := [], best := none, plan := [], moveMark := false }
    let stopped := if f.moveMark then { s.lens with fromFocus := s.lens.fromFocus ++ [.stop .focus .plain] } else s.lens
    ((∀ reached p rest, f.fromLens ≠ .moveEnd reached p :: rest) → exec .focusMoveEnd s = .next s) ∧
    (∀ reached p rest, f.fromLens = .moveEnd reached p :: rest →
      let g := { f with fromLens := rest }
      let locks := f.moveMark = true ∧ reached = true ∧ f.search = .peak
      (¬ locks → exec .focusMoveEnd s = .next (settle s { s with focus := { g with moveMark := false } })) ∧
      (locks → exec .focusMoveEnd s = .next (settle s (reportFocus .peak { cause := .locked, peakOrStep := f.peakTarget }
        { s with
          zoom := { s.zoom with fromFocus := s.zoom.fromFocus ++ [.position f.peakTarget] },
          focus := { g with
            moveMark := false, search := if f.mode = .continuous then .monitor else .locked, aeHold := false,
            baselinePending := true, zoomPause := false, dropRun := 0, samples := [], plan := [] } })))) ∧
    ((∀ m rest, f.fromLens ≠ .stepLoss m :: rest) → exec .focusStepLoss s = .next s) ∧
    (∀ m rest, f.fromLens = .stepLoss m :: rest →
      let g := { f with fromLens := rest }
      (sweeping → exec .focusStepLoss s = .next (settle s (reportFocus f.search { cause := .stepLoss }
        { s with focus := resting g .idle, lens := stopped }))) ∧
      (¬ sweeping → exec .focusStepLoss s = .next (settle s { s with focus := g }))) ∧
    ((∀ rest, f.fromLens ≠ .fault :: rest) → exec .lensFault s = .next s) ∧
    (∀ rest, f.fromLens = .fault :: rest →
      let g := { f with fromLens := rest }
      (f.search = .idle → exec .lensFault s = .next (settle s { s with focus := g })) ∧
      (f.search ≠ .idle → exec .lensFault s = .next (settle s (reportFocus f.search { cause := .lensFault }
        { s with focus := resting g .failed })))) ∧
    ((∀ rest, f.fromZoom ≠ .started :: rest) → exec .zoomStarted s = .next s) ∧
    (∀ rest, f.fromZoom = .started :: rest →
      let g := { f with fromZoom := rest }
      (sweeping → exec .zoomStarted s = .next (settle s (reportFocus f.search { cause := .zoom }
        { s with focus := resting g .idle }))) ∧
      (holding → exec .zoomStarted s = .next (settle s
        { s with focus := { g with moveMark := false, zoomPause := true, dropRun := 0 },
                 exposure := { s.exposure with messages := s.exposure.messages ++ [.drop] } })) ∧
      (f.search = .idle ∨ f.search = .failed →
        exec .zoomStarted s = .next (settle s { s with focus := { g with moveMark := false } }))) ∧
    ((∀ rest, f.fromZoom ≠ .stopped :: rest) → exec .zoomStopped s = .next s) ∧
    (∀ rest, f.fromZoom = .stopped :: rest →
      let g := { f with fromZoom := rest }
      (holding → exec .zoomStopped s =
        .next (settle s { s with focus := { g with zoomPause := false, baselinePending := true } })) ∧
      (¬ holding → exec .zoomStopped s = .next (settle s { s with focus := g })))

/-! ## The Capture Unit and the Slot Manager -/

/-- CAPTURE_COMPLETION (R131, R133) and CAPTURE_TRIGGER (R132): the unit takes its oldest message while no work and no command
is in hand, each row the message of its kind.  A completion is held in ARMED (with room made first), kept in RUNNING, and
skipped with its reason when it was spilled or the fence is full; a toggle that has been acknowledged since it was handed on
is nothing, and another one triggers an ARMED capture, its held frames kept first, or is reported as ignored.
CAPTURE_SLOT_ANSWER (R129 to R133, R136 to R138): nothing is due until an answer and the work it belongs to are there; the
answer is then consumed.  A held frame joins the held list; one that has gone does not; a kept burst frame raises the index
and the count with KEPT, and ends the capture with BURST_DONE at the burst length or INDEX_LIMIT at index 32767 (R134); one
that has gone is skipped; and RELEASE SLOT completes with DONE, CONFLICT for "pinned" or BAD_PARAMETER for "gone".  Arming, a
trigger's keeps and a stop's unholds ask for their next frame, and with the last answer the unit is ARMED, RUNNING with
TRIGGERED, or IDLE with ENDED, and the command completes.  Where the work of a completion or a trigger ends, the command
that waited for it begins (R129): ARM CAPTURE, which passes over the announcements that wait (R131), STOP CAPTURE, RELEASE
SLOT or SET MODE STANDBY, as on its arrival.
Buffer high (R135): set from n - 4 KEPT and HELD slots on, cleared at (n - 3) / 2 of them, each change with its event.
The order of events on an answer and the capture state they carry, what an event leaves unnamed, that a waiting command goes
before the messages, and that a third flip is no trigger, are the model's (log entries 20, 26, 55 and 70). -/
def Obligations.CaptureUnitTakesMessagesAndAnswers : Prop :=
  (∀ s : State,
    let c := s.capture
    let free := c.work = none ∧ c.command = none
    let ask := fun (k : SlotRequestKind) (e : HeldEntry) (id : Nat) (index : Int) =>
      { s.slots with captureRequest := some { kind := k, slot := e.slot, frame := e.frame, captureId := id, index := index } }
    ((¬ free ∨ ∀ a rest, c.messages ≠ .completion a :: rest) → exec .captureCompletion s = .next s) ∧
    (∀ a rest, free → c.messages = .completion a :: rest →
      let d := { c with messages := rest }
      let e : HeldEntry := { slot := a.slot, frame := a.frame }
      let out := exec .captureCompletion s
      let skips := fun (why : Nat) => out = .next (settle s (captureEvent
        { event := .skipped, slot := some a.slot, frame := a.frame, detail := why }
        { s with capture := { d with skipCount := min 65535 (c.skipCount + 1) } }))
      let fenced := countSlots s .kept + countSlots s .held
      (c.mode = .idle ∨ (c.mode = .armed ∧ (c.effectiveP = 0 ∨ a.outcome = .spilled)) →
        out = .next (settle s { s with capture := d })) ∧
      (c.mode = .armed → c.effectiveP ≠ 0 → a.outcome ≠ .spilled → c.heldList.length < c.effectiveP →
        out = .next (settle s { s with capture := { d with work := some (.holdFrame e) }, slots := ask .hold e 0 0 })) ∧
      (∀ old more, c.mode = .armed → c.effectiveP ≠ 0 → a.outcome ≠ .spilled → c.heldList = old :: more →
        c.effectiveP ≤ c.heldList.length →
        out = .next (settle s { s with capture := { d with work := some (.makeRoom e) }, slots := ask .unhold old 0 0 })) ∧
      (c.mode = .running → a.outcome = .spilled → skips 1) ∧
      (c.mode = .running → a.outcome ≠ .spilled → s.command.config.slotCount - 3 ≤ fenced → skips 2) ∧
      (c.mode = .running → a.outcome ≠ .spilled → fenced < s.command.config.slotCount - 3 →
        out = .next (settle s { s with capture := { d with work := some (.keepFrame e a.torn) },
                                       slots := ask .keep e c.id c.nextIndex }))) ∧
    ((¬ free ∨ ∀ v rest, c.messages ≠ .toggle v :: rest) → exec .captureTrigger s = .next s) ∧
    (∀ v rest, free → c.messages = .toggle v :: rest →
      let d := { c with messages := rest }
      let id := c.id % 65535 + 1
      let n := c.heldList.length
      let out := exec .captureTrigger s
      (v = c.acknowledge → out = .next (settle s { s with capture := d })) ∧
      (v ≠ c.acknowledge → c.mode ≠ .armed → out = .next (settle s (captureEvent
        { event := .triggerIgnored, detail := captureModeCode c.mode } { s with capture := { d with acknowledge := v } }))) ∧
      (v ≠ c.acknowledge → c.mode = .armed → c.heldList = [] → out = .next (settle s (captureEvent
        { event := .triggered } { s with capture := { d with acknowledge := v, id := id, mode := .running } }))) ∧
      (∀ e more, v ≠ c.acknowledge → c.mode = .armed → c.heldList = e :: more →
        out = .next (settle s { s with
          capture := { d with acknowledge := v, id := id, work := some (.keepHeld e more (-(n : Int)) n) },
          slots := ask .keep e id (-(n : Int)) })))) ∧
  (∀ s : State,
    let c := s.capture
    let out := exec .captureSlotAnswer s
    (s.slots.captureAnswer = none ∨ c.work = none → out = .next s) ∧
    ∀ a w, s.slots.captureAnswer = some a → c.work = some w →
      let v := { s with slots := { s.slots with captureAnswer := none }, capture := { c with work := none } }
      let asking := fun (u : State) (k : SlotRequestKind) (e : HeldEntry) (id : Nat) (index : Int) (next : CaptureWork) =>
        { u with
          slots := { u.slots with captureRequest := some { kind := k, slot := e.slot, frame := e.frame, captureId := id,
                                                           index := index } },
          capture := { u.capture with work := some next } }
      let asks := fun (u : State) (k : SlotRequestKind) (e : HeldEntry) (id : Nat) (index : Int) (next : CaptureWork) =>
        out = .next (settle s (asking u k e id index next))
      let ended := fun (why : EndCause) (u : State) => captureEvent
        { event := .ended, detail := endCauseCode why, countA := u.capture.keptCount, skipCount := u.capture.skipCount }
        { u with capture := { u.capture with mode := .idle } }
      let stops := fun (h : InHand) (u : State) (why : StopReason) (cause : EndCause) =>
        match u.capture.mode, u.capture.heldList with
        | .idle, _ => completedWith h .done 0 u
        | .running, _ => completedWith h .done 0 (ended cause u)
        | .armed, [] => completedWith h .done 0 (ended cause u)
        | .armed, e :: rest => asking u .unhold e 0 0 (.stopping rest why)
      let begins := fun (h : InHand) (u : State) (k : CaptureCommand) => match k with
        | .arm pre burst =>
          let p := min pre (u.command.config.slotCount - 3 - countSlots u .kept)
          let all := candidates u
          let toggles := u.capture.messages.filter (fun m => match m with | .toggle _ => true | .completion _ => false)
          let x := { u with capture := { u.capture with effectiveP := p, messages := toggles } }
          if u.command.mode ≠ .view then completedWith h .notReady 0 u
          else if u.capture.mode ≠ .idle then completedWith h .conflict 0 u
          else if 8 < pre ∨ 64 < burst then completedWith h .badParameter 0 u
          else match all.drop (all.length - p) with
            | e :: rest => asking x .hold e 0 0 (.arming e rest (decide (p < pre)) burst)
            | [] => completedWith h (if p < pre then .clamped else .done) (if p < pre then (p : Int) else 0)
              { x with capture := { x.capture with mode := .armed, burst := burst, nextIndex := 1, keptCount := 0,
                                                   skipCount := 0 } }
        | .stop => stops h u .stopCommand .stopped
        | .standby => stops h u .modeStandby .standby
        | .release n => match u.slots.table[n]? with
          | some e =>
            if u.command.valid = true ∧ n < u.command.config.slotCount ∧ e.state = .kept then
              asking u .release { slot := n, frame := e.recordFrame } 0 0 .releasing
            else completedWith h .badParameter 0 u
          | none => completedWith h .badParameter 0 u
      let goesOn := fun (u : State) => (c.command = none → out = .next (settle s u)) ∧
        ∀ k h, c.command = some k → s.command.inHand = some h →
          out = .next (settle s (begins h { u with capture := { u.capture with command := none } } k))
      (∀ e, w = .holdFrame e → a = .done → goesOn (evalBufferHigh
        { v with capture := { v.capture with heldList := c.heldList ++ [e] } })) ∧
      (∀ e, w = .holdFrame e → a ≠ .done → goesOn v) ∧
      (∀ e t, w = .keepFrame e t → a ≠ .done → goesOn (captureEvent
        { event := .skipped, slot := some e.slot, frame := e.frame, detail := 3 }
        { v with capture := { v.capture with skipCount := min 65535 (c.skipCount + 1) } })) ∧
      (∀ e t, w = .keepFrame e t → a = .done →
        let kept := evalBufferHigh (captureEvent
          { event := .kept, slot := some e.slot, index := c.nextIndex, frame := e.frame, torn := t }
          { v with capture := { v.capture with nextIndex := c.nextIndex + 1, keptCount := c.keptCount + 1 } })
        let full := 1 ≤ c.burst ∧ c.keptCount + 1 = c.burst
        (full → goesOn (ended .burstDone kept)) ∧
        (¬ full → c.nextIndex = 32767 → goesOn (ended .indexLimit kept)) ∧
        (¬ full → c.nextIndex ≠ 32767 → goesOn kept)) ∧
      (∀ e, w = .makeRoom e →
        let room := { v with capture := { v.capture with heldList := c.heldList.tail } }
        asks (if a = .done then evalBufferHigh room else room) .hold e 0 0 (.holdFrame e)) ∧
      (∀ h, w = .releasing → c.command = none → s.command.inHand = some h →
        (a = .pinned → out = .next (settle s (completedWith h .conflict 0 v))) ∧
        (a = .gone → out = .next (settle s (completedWith h .badParameter 0 v))) ∧
        (a = .done → out = .next (settle s (completedWith h .done 0 (evalBufferHigh v))))) ∧
      (∀ h e rest clamped burst, w = .arming e rest clamped burst → s.command.inHand = some h →
        let u := if a = .done then evalBufferHigh { v with capture := { v.capture with heldList := c.heldList ++ [e] } } else v
        (∀ e' more, rest = e' :: more → asks u .hold e' 0 0 (.arming e' more clamped burst)) ∧
        (rest = [] → out = .next (settle s (completedWith h (if clamped then .clamped else .done)
          (if clamped then (c.effectiveP : Int) else 0)
          { u with capture := { u.capture with mode := .armed, burst := burst, nextIndex := 1, keptCount := 0,
                                               skipCount := 0 } })))) ∧
      (∀ e rest index k, w = .keepHeld e rest index k →
        let torn := (s.slots.table[e.slot]?.map (fun x => x.record.torn)).getD false
        let u := if a = .done then evalBufferHigh (captureEvent
          { event := .kept, slot := some e.slot, index := index, frame := e.frame, torn := torn } v) else v
        (∀ e' more, rest = e' :: more → asks u .keep e' c.id (index + 1) (.keepHeld e' more (index + 1) k)) ∧
        (rest = [] → goesOn (captureEvent { event := .triggered, countA := k }
          { u with capture := { u.capture with heldList := [], mode := .running } }))) ∧
      (∀ h rest why, w = .stopping rest why → s.command.inHand = some h →
        let u := if a = .done then evalBufferHigh v else v
        let cause : EndCause := if why = .stopCommand then .stopped else .standby
        (∀ e' more, rest = e' :: more → asks u .unhold e' 0 0 (.stopping more why)) ∧
        (rest = [] → out = .next (settle s (completedWith h .done 0
          (ended cause { u with capture := { u.capture with heldList := [] } })))))) ∧
  (∀ s : State, 4 ≤ s.command.config.slotCount →
    let n := s.command.config.slotCount
    let kept := countSlots s .kept
    let held := countSlots s .held
    let turns := fun (e : CaptureEventKind) (flag : Bool) => evalBufferHigh s = captureEvent
      { event := e, keptSlots := kept, heldSlots := held } { s with capture := { s.capture with bufferHigh := flag } }
    let low := kept + held ≤ (n - 3) / 2 ∧ kept + held < n - 4
    (s.capture.bufferHigh = false → n - 4 ≤ kept + held → turns .bufferHigh true) ∧
    (s.capture.bufferHigh = true → low → turns .bufferLow false) ∧
    (s.capture.bufferHigh = false → kept + held < n - 4 → evalBufferHigh s = s) ∧
    (s.capture.bufferHigh = true → ¬ low → evalBufferHigh s = s))

/-- HOLD_REQUEST, UNHOLD_REQUEST, KEEP_REQUEST and RELEASE_REQUEST (R5, R6): the Slot Manager takes the waiting request of the
row's kind and answers it. It is carried out only on a slot other than 0 whose record frame is the named frame, in the
state the rule's table requires; every other is refused with no change to any slot: "pinned" for the release of a pinned
KEPT slot, "gone" otherwise. Pins do not affect hold, unhold and keep.
The list in which the requests wait is the model's (log entry 3). -/
def Obligations.SlotRequestsFollowTheTable : Prop :=
  ∀ s : State,
    let row := fun (k : SlotRequestKind) => match k with
      | .hold => Instr.holdRequest
      | .unhold => Instr.unholdRequest
      | .keep => Instr.keepRequest
      | .release => Instr.releaseRequest
    (∀ k, (∀ r, s.slots.captureRequest = some r → r.kind ≠ k) → exec (row k) s = .next s) ∧
    ∀ r, s.slots.captureRequest = some r →
      let out := exec (row r.kind) s
      let named := fun (e : Slot) => r.slot ≠ 0 ∧ s.slots.table[r.slot]? = some e ∧ e.recordFrame = r.frame
      let fits := fun (e : Slot) => match r.kind with
        | .hold => e.state = .filled
        | .unhold => e.state = .held
        | .keep => e.state = .held ∨ e.state = .filled
        | .release => e.state = .kept ∧ e.pins = 0
      let after := fun (e : Slot) => match r.kind with
        | .hold => { e with state := .held }
        | .unhold => { e with state := .filled }
        | .keep => { e with state := .kept, record := { e.record with capture := some { id := r.captureId, index := r.index } } }
        | .release => { e with state := .free, lastFrame := e.recordFrame, recordFrame := 0 }
      let answered := fun (a : SlotAnswer) => { s.slots with captureRequest := none, captureAnswer := some a }
      (∀ e, named e → fits e → ∃ u, out = .next (settle s u) ∧
        u = { s with slots := { answered .done with table := u.slots.table } } ∧
        u.slots.table[r.slot]? = some (after e) ∧ ∀ j, j ≠ r.slot → u.slots.table[j]? = s.slots.table[j]?) ∧
      (∀ e, named e → r.kind = .release → e.state = .kept → e.pins ≠ 0 →
        out = .next (settle s { s with slots := answered .pinned })) ∧
      ((∀ e, named e → ¬ fits e ∧ ¬ (r.kind = .release ∧ e.state = .kept)) →
        out = .next (settle s { s with slots := answered .gone }))

/-! ## The Lens Drive -/

/-- TARGET_REQUEST and STOP_REQUEST (R70) of a requester: not due without a waiting request of that kind.  Outside READY the
request is refused with no change to the motor. In READY a target is clamped to the motor's range: a PENDING or RUNNING
motor takes it; a PREEMPTED one also in its stack entry; an IDLE one at its target tells the owner REACHED; an IDLE one
elsewhere becomes PENDING with it, and with the bus free the grant decision runs (R71, R72), which makes it RUNNING with its
first segment sent when no other move waits.  A stop drops a PENDING move with REACHED, turns a RUNNING one to where its
segment will end, sets a PREEMPTED one's remaining target to its position, and leaves an IDLE motor alone.  The requester
then acts on the answer, and ZOOM TO, ZOOM STOP and MOVE FOCUS complete: refused, NOT_READY with the zoom target as before,
and none for the request of a cam commit (R87); taken, DONE or CLAMPED, with the fraction set from the position and a lock or
failure left by MOVE FOCUS (R109), and the zoom target at where ZOOM STOP ends the move (R89).
The lists in which the requests wait are the model's (log entry 3), that the commands wait for the answer is its reading
(log entry 16), and so is the frame 0 of MOVE FOCUS's report (log entry 24); its choices are a grant to a motor already at its
target (log entry 58), that report before the COMMAND DONE (log entry 61), and the target a refused ZOOM TO restores (log
entry 68). -/
def Obligations.LensTakesTargetAndStopRequests : Prop :=
  ∀ (q : Requester) (s : State),
    let l := s.lens
    let waiting := l.channel q
    let popped := popChannel q l
    let done := fun (st : Status) (value : Int) (u : State) =>
      match s.command.inHand with
      | some h => completedWith h st value u
      | none => u
    let clamp := fun (clamped : Bool) (p : Nat) => done (if clamped then .clamped else .done) (if clamped then (p : Int) else 0)
    let refused := fun (w : RequestPurpose) (u : State) =>
      match w with
      | .zoomTo before _ => done .notReady 0 { u with zoom := { u.zoom with target := before } }
      | .moveFocus .. => done .notReady 0 { u with focus := { u.focus with moveMark := false } }
      | .camCommit => { u with zoom := { u.zoom with target := none } }
      | .plain => if q = .focus then { u with focus := { u.focus with moveMark := false } } else u
      | .zoomStop => u
    let taken := fun (w : RequestPurpose) (p : Nat) (u : State) =>
      match w with
      | .zoomTo _ clamped => clamp clamped p u
      | .moveFocus c clamped =>
        let v := { u with zoom := { u.zoom with fromFocus := u.zoom.fromFocus ++ [.position c] } }
        clamp clamped c
          (if s.focus.search = .locked ∨ s.focus.search = .monitor ∨ s.focus.search = .failed then
            reportFocus s.focus.search { cause := .moved }
              { v with
                  focus := { v.focus with
                    search := .idle, aeHold := false, samples := [], best := none, plan := [], moveMark := false,
                    lockFigure := 0, baselinePending := false, baselineSet := 0, zoomPause := false, dropRun := 0 },
                  exposure := { v.exposure with messages := v.exposure.messages ++ [.drop] } }
          else v)
      | _ => u
    let telling := fun (m : Motor) (p : Nat) (u : State) =>
      match m, q with
      | .iris, _ => { u with exposure := { u.exposure with irisReached := some p } }
      | .focus, .focus => { u with focus := { u.focus with fromLens := u.focus.fromLens ++ [.moveEnd true p] } }
      | _, _ => { u with zoom := { u.zoom with fromLens := u.zoom.fromLens ++ [.moveEnd m true p] } }
    ((∀ m p w rest, waiting ≠ .target m p w :: rest) → exec (.targetRequest q) s = .next s) ∧
    ((∀ m w rest, waiting ≠ .stop m w :: rest) → exec (.stopRequest q) s = .next s) ∧
    (∀ m p w rest, waiting = .target m p w :: rest → (LensMessage.target m p w).completes = false ∨ s.command.inHand ≠ none →
      let r := l.motor m
      let t := min p (match m with | .zoom => 1023 | .focus => 2047 | .iris => 40)
      let out := exec (.targetRequest q) s
      let started := if m = .zoom then { s.zoom with fromLens := s.zoom.fromLens ++ [.start] } else s.zoom
      (l.mode ≠ .ready → out = .next (settle s (refused w { s with lens := popped }))) ∧
      (l.mode = .ready → r.state = .pending ∨ r.state = .running → out = .next (settle s (taken w p { s with
        lens := popped.setMotor m { r with target := t, owner := q } }))) ∧
      (l.mode = .ready → r.state = .preempted → out = .next (settle s (taken w p { s with
        lens := { popped.setMotor m { r with target := t, owner := q } with
                  stack := l.stack.map (fun e => if e.motor = m then { e with target := t } else e) } }))) ∧
      (l.mode = .ready → r.state = .idle → t = r.position → out = .next (settle s (taken w p (telling m t { s with
        lens := popped.setMotor m { r with target := t, owner := q } })))) ∧
      (l.mode = .ready → r.state = .idle → t ≠ r.position → (l.segment ≠ none ∨ l.awaiting = true) →
        out = .next (settle s (taken w p { s with
          zoom := started, lens := popped.setMotor m { r with target := t, owner := q, state := .pending } }))) ∧
      (l.mode = .ready → r.state = .idle → t ≠ r.position → l.segment = none → l.awaiting = false → ∃ u,
        out = .next (settle s (taken w p u)) ∧ GrantMade { s with
          zoom := started, lens := popped.setMotor m { r with target := t, owner := q, state := .pending } } u) ∧
      (l.mode = .ready → r.state = .idle → t ≠ r.position → l.segment = none → l.awaiting = false → l.current = none →
        l.stack = [] → (∀ m', (l.motor m').state ≠ .pending) →
        let n := min 16 (natDist t r.position)
        out = .next (settle s (taken w p { s with
          zoom := started,
          lens := { popped.setMotor m { r with target := t, owner := q, state := .running, moved := true } with
            current := some m,
            segment := some { motor := m, up := decide (r.position < t), steps := n, period := r.period,
                              timeout := n * r.period + 5000, homing := false } } })))) ∧
    (∀ m w rest, waiting = .stop m w :: rest → w = .plain ∨ (w = .zoomStop ∧ m = .zoom ∧ s.command.inHand ≠ none) →
      let r := l.motor m
      let out := exec (.stopRequest q) s
      let stopped := fun (u : State) (before : Option Nat) =>
        if w = .zoomStop then done .done 0 { u with zoom := { u.zoom with target := before } } else u
      (l.mode ≠ .ready → out = .next (settle s
        (if w = .zoomStop then done .notReady 0 { s with lens := popped } else { s with lens := popped }))) ∧
      (l.mode = .ready → r.state = .idle → out = .next (settle s (stopped { s with lens := popped } s.zoom.target))) ∧
      (l.mode = .ready → r.state = .pending → m = .focus → r.owner = .focus → out = .next (settle s { s with
        lens := popped.setMotor m { r with state := .idle },
        focus := { s.focus with fromLens := s.focus.fromLens ++ [.moveEnd true r.position] } })) ∧
      (l.mode = .ready → r.state = .pending → m = .focus → r.owner ≠ .focus → out = .next (settle s { s with
        lens := popped.setMotor m { r with state := .idle },
        zoom := { s.zoom with fromLens := s.zoom.fromLens ++ [.moveEnd .focus true r.position] } })) ∧
      (l.mode = .ready → r.state = .pending → m = .iris → out = .next (settle s { s with
        lens := popped.setMotor m { r with state := .idle },
        exposure := { s.exposure with irisReached := some r.position } })) ∧
      (l.mode = .ready → r.state = .pending → m = .zoom → out = .next (settle s (stopped { s with
        lens := popped.setMotor m { r with state := .idle },
        zoom := { s.zoom with fromLens := s.zoom.fromLens ++ [.moveEnd .zoom true r.position, .finish] } }
        (some r.position)))) ∧
      (l.mode = .ready → r.state = .running → (∀ g, l.segment = some g → g.motor ≠ m) → out = .next (settle s (stopped
        { s with lens := popped.setMotor m { r with target := r.position } } (some r.position)))) ∧
      (∀ g, l.mode = .ready → r.state = .running → l.segment = some g → g.motor = m →
        let final := if g.up then r.position + g.steps else r.position - g.steps
        out = .next (settle s (stopped { s with lens := popped.setMotor m { r with target := final } } (some final)))) ∧
      (l.mode = .ready → r.state = .preempted → out = .next (settle s (stopped { s with
        lens := { popped.setMotor m { r with target := r.position } with
                  stack := l.stack.map (fun e => if e.motor = m then { e with target := r.position } else e) } }
        (some r.position)))))

/-- LENS_SEGMENT_DONE (R68, R71 to R77): ignored while no segment is in flight; otherwise the segment ends and both home
sensor levels are taken.  In READY the motor has moved by the segment's steps in its direction, unless the edge check finds
it more than 2 steps off: then its position is corrected, STEP_LOSS is reported and both controllers are told. A zoom segment hands the new position over and the bus waits for the tracking answer; after a focus or iris
segment the grant decision runs: the move goes on with its next segment, is preempted, or at its target ends with REACHED
to its owner, and the next move is chosen.  In HOMING the three iris segments are followed by the seeks, each to its limit
until the edge is found.  In PARKING, with the same edge check, a move that was current is dropped with the notice
to its owner, then focus goes to 0, then zoom, and then the lens is PARKED with its event.  Under a SOFT RESET (R82) the
segment is the last: a position is corrected and, in READY, a zoom position handed over, every motor is IDLE without
move-end notices, the lens state settles, READY forms the derived values (R94), and an event waits for the completion.
FAULT_ANSWER and SEGMENT_TIMEOUT (R69), and NO_HOME (R76): without a segment in flight (for NO_HOME, without the last
segment of a seek) nothing happens; otherwise the lens is in FAULT, no segment is in flight, every move is dropped with
DROPPED to its owner, the positions, settings and marks stay as they were, a focus segment's end is noted, the event names
motor and cause, and both controllers are told.  A DONE with no transition at the seek limit does the same as NO_HOME, and
both take the sensor levels.
The model's reading: times come with the commands, the silent hand-over under a SOFT RESET, a LENS EVENT's unnamed fields, the
row NO_HOME (log entries 5, 18, 25 and 39).  Its choices: a grant at the target (R72), the order of two DROPPED notices,
homing's position under a SOFT RESET, and that a late answer is the segment's in flight (log entries 58, 59, 66 and 77). -/
def Obligations.SegmentsEndInAMoveOrAFault : Prop :=
  (∀ (zb fb : Bool) (t now : Nat) (s : State),
    let l := s.lens
    let out := exec (.lensSegmentDone zb fb t now) s
    (l.segment = none → out = .next s) ∧
    ∀ g : Segment, l.segment = some g →
      let m : Motor := g.motor
      let r := l.motor m
      let h : Int := if m = .zoom then 64 else 1024
      let d : Int := if g.up then (r.position : Int) + t - h else (r.position : Int) - t - (h - 1)
      let lost := m ≠ .iris ∧ 0 < t ∧ 2 < d.natAbs
      let past := g.steps - t
      let p := if g.up then r.position + g.steps else r.position - g.steps
      let edge := if g.up then h.toNat + past else h.toNat - 1 - past
      let pos := if lost then edge else p
      let ended := { l with segment := none, zoomBlocked := zb, focusBlocked := fb,
                            lastFocusEnd := if m = Motor.focus then some now else l.lastFocusEnd }
      let quiet := l.mode = .ready ∧ l.draining = false ∧ g.homing = false
      (quiet → m = .zoom → ¬ lost → out = .next (settle s { s with
        lens := { ended with zoom := { l.zoom with position := p }, awaiting := true },
        zoom := { s.zoom with fromLens := s.zoom.fromLens ++ [.handover p] } })) ∧
      (quiet → m = .zoom → lost → ∃ e : LensEvent, (e.event, e.motor, e.difference, e.zoom) = (.stepLoss, some .zoom, d, edge) ∧
        out = .next (settle s { s with
          lens := { ended with zoom := { l.zoom with position := edge }, awaiting := true },
          zoom := { s.zoom with fromLens := s.zoom.fromLens ++ [.stepLoss .zoom, .handover edge] },
          focus := { s.focus with fromLens := s.focus.fromLens ++ [.stepLoss .zoom] },
          report := giveGeneral (.lensEvent e) s.report })) ∧
      (quiet → m ≠ .zoom → ¬ lost → ∃ u, out = .next (settle s u) ∧
        GrantMade { s with lens := ended.setMotor m { r with position := p } } u) ∧
      (quiet → m ≠ .zoom → lost → ∃ (u v : State) (e : LensEvent), out = .next (settle s u) ∧ GrantMade v u ∧
        v = { s with lens := ended.setMotor m { r with position := edge },
                     zoom := { s.zoom with fromLens := s.zoom.fromLens ++ [.stepLoss m] },
                     focus := { s.focus with fromLens := s.focus.fromLens ++ [.stepLoss m] },
                     report := giveGeneral (.lensEvent e) s.report } ∧
        (e.event, e.motor, e.difference, e.focus) = (.stepLoss, some m, d, edge)) ∧
      (quiet → m ≠ .zoom → ¬ lost → l.current = some m → r.target ≠ p → l.arbitration = .sequential →
        let n := min 16 (natDist r.target p)
        out = .next (settle s { s with lens := { ended.setMotor m { r with position := p, moved := true } with
          segment := some { motor := m, up := decide (p < r.target), steps := n, period := r.period,
                            timeout := n * r.period + 5000, homing := false } } })) ∧
      (quiet → m = .focus → ¬ lost → l.current = some m → r.target = p → r.owner = .focus → r.state = .running →
        l.stack = [] → (∀ m', (l.motor m').state ≠ .pending) → out = .next (settle s { s with
          lens := { ended.setMotor m { r with position := p, state := .idle } with current := none },
          focus := { s.focus with fromLens := s.focus.fromLens ++ [.moveEnd true p] } })) ∧
      (∀ k, l.mode = .homing → l.draining = false → g.homing = true → l.homing = some (.iris k) → k < 2 →
        out = .next (settle s { s with lens := { ended with
          homing := some (.iris (k + 1)), iris := { l.iris with moved := true },
          segment := some { motor := .iris, up := false, steps := 16, period := l.iris.period,
                            timeout := 16 * l.iris.period + 5000, homing := true } } })) ∧
      (l.mode = .homing → l.draining = false → g.homing = true → l.homing = some (.iris 2) →
        out = .next (settle s { s with lens := { ended with
          homing := some (.seek .zoom (!zb) 16), iris := { l.iris with position := 0 }, zoom := { l.zoom with moved := true },
          segment := some { motor := .zoom, up := !zb, steps := 16, period := l.zoom.period,
                            timeout := 16 * l.zoom.period + 5000, homing := true } } })) ∧
      (∀ up sent, l.mode = .homing → l.draining = false → g.homing = true → l.homing = some (.seek .focus up sent) → 0 < t →
        let q := if up then 1024 + past else 1024 - 1 - past
        ∃ e : LensEvent, (e.event, e.zoom, e.focus, e.iris) = (.homed, l.zoom.position, q, l.iris.position) ∧
          out = .next (settle s { s with
            lens := { ended with mode := .ready, homing := none, focus := { l.focus with position := q } },
            zoom := { s.zoom with fromLens := s.zoom.fromLens ++ [.lensState .ready] },
            focus := { s.focus with lensTold := .ready }, report := giveGeneral (.lensEvent e) s.report })) ∧
      (quiet → m = .iris → l.current = some .iris → l.iris.target = p → r.state = .running →
        l.stack = [] → (∀ m', (l.motor m').state ≠ .pending) → out = .next (settle s { s with
          lens := { ended.setMotor m { r with position := p, state := .idle } with current := none },
          exposure := { s.exposure with irisReached := some p } })) ∧
      (∀ up sent, l.mode = .homing → l.draining = false → g.homing = true → l.homing = some (.seek .zoom up sent) → 0 < t →
        let q := if up then 64 + past else 64 - 1 - past
        out = .next (settle s { s with lens := { ended with
          homing := some (.seek .focus (!fb) 16), zoom := { l.zoom with position := q },
          focus := { l.focus with moved := true },
          segment := some { motor := .focus, up := !fb, steps := 16, period := l.focus.period,
                            timeout := 16 * l.focus.period + 5000, homing := true } } })) ∧
      (∀ k up sent, l.mode = .homing → l.draining = false → g.homing = true → l.homing = some (.seek k up sent) → t = 0 →
        let limit := if k = .zoom then 1088 else 2112
        let n := min 16 (limit - sent)
        k ≠ .iris → sent < limit → out = .next (settle s { s with lens := { ended.setMotor k { l.motor k with moved := true } with
          homing := some (.seek k up (sent + n)),
          segment := some { motor := k, up := up, steps := n, period := (l.motor k).period,
                            timeout := n * (l.motor k).period + 5000, homing := true } } })) ∧
      (l.mode = .parking → l.draining = false → g.homing = false →
        l.current = none ∨ (l.current = some m ∧ r.state = .running) → ∃ v : State,
        (¬ lost → v = s) ∧
        (lost → ∃ e : LensEvent, v = { s with
            zoom := { s.zoom with fromLens := s.zoom.fromLens ++ [.stepLoss m] },
            focus := { s.focus with fromLens := s.focus.fromLens ++ [.stepLoss m] },
            report := giveGeneral (.lensEvent e) s.report } ∧
          (e.event, e.motor, e.difference) = (.stepLoss, some m, d) ∧ (if m = .zoom then e.zoom else e.focus) = edge) ∧
        let drops := l.current = some m
        let moved := ended.setMotor m { r with position := pos, state := if drops then .idle else r.state }
        let zoomTold := v.zoom.fromLens ++
          (if drops ∧ m = Motor.zoom then [ZoomNotice.moveEnd .zoom false pos, .finish]
           else if drops ∧ m = Motor.focus ∧ r.owner ≠ Requester.focus then [.moveEnd .focus false pos] else [])
        let w := { v with
          zoom := { v.zoom with fromLens := zoomTold },
          focus := { v.focus with fromLens := v.focus.fromLens ++
            (if drops ∧ m = Motor.focus ∧ r.owner = Requester.focus then [FocusLensNotice.moveEnd false pos] else []) } }
        let toZero := fun (k : Motor) =>
          { moved.setMotor k { moved.motor k with moved := true } with
            current := none,
            segment := some { motor := k, up := false, steps := min 16 (moved.motor k).position, period := (moved.motor k).period,
                              timeout := min 16 (moved.motor k).position * (moved.motor k).period + 5000, homing := false } }
        (moved.focus.position ≠ 0 → out = .next (settle s { w with lens := toZero .focus })) ∧
        (moved.focus.position = 0 → moved.zoom.position ≠ 0 → out = .next (settle s { w with lens := toZero .zoom })) ∧
        (moved.focus.position = 0 → moved.zoom.position = 0 → ∃ e : LensEvent,
          (e.event, e.after, e.zoom, e.focus, e.iris) = (.parked, .parked, 0, 0, moved.iris.position) ∧
          out = .next (settle s { w with
            lens := { moved with mode := .parked, current := none },
            zoom := { w.zoom with fromLens := zoomTold ++ [.lensState .parked] },
            focus := { w.focus with lensTold := .parked }, report := giveGeneral (.lensEvent e) v.report }))) ∧
      (l.draining = true → ∃ (u : State) (events : List LensEvent), out = .next (settle s u) ∧
        let loses := g.homing = false ∧ lost
        let moved := ended.setMotor m { r with position := if g.homing then r.position else pos }
        let mode : LensMode := if l.mode = .homing then .unhomed else if l.mode = .parking then .ready else l.mode
        let hands := m = .zoom ∧ l.mode = .ready
        (¬ loses → events = []) ∧
        (loses → ∃ e : LensEvent, events = [e] ∧ (e.event, e.motor, e.difference) = (.stepLoss, some m, d) ∧
          (if m = .zoom then e.zoom else e.focus) = edge) ∧
        u = { s with
          lens := { moved with
            mode := mode, draining := false, homing := none, current := none, stack := [],
            awaiting := if hands then true else l.awaiting, heldEvents := l.heldEvents ++ events,
            zoom := { moved.zoom with state := .idle }, focus := { moved.focus with state := .idle },
            iris := { moved.iris with state := .idle } },
          zoom := { s.zoom with
            fromLens := s.zoom.fromLens ++ (if loses then [.stepLoss m] else []) ++
              (if hands then [ZoomNotice.handover moved.zoom.position] else []) ++
              (if l.zoom.state ≠ .idle then [.finish] else []) ++ (if mode = l.mode then [] else [.lensState mode]),
            silent := if hands then s.zoom.silent + 1 else s.zoom.silent,
            derived := if mode = .ready then derive moved.zoom.position s.zoom.cam else s.zoom.derived },
          focus := { s.focus with
            lensTold := if mode = l.mode then s.focus.lensTold else mode,
            fromLens := s.focus.fromLens ++ (if loses then [.stepLoss m] else []) } })) ∧
  (∀ (zb fb : Bool) (now : Nat) (s : State),
    let l := s.lens
    let faults := fun (out : Host.Outcome State Fault Refusal) (g : Segment) (cause : LensFaultCause) (levels : Bool × Bool) =>
      ∃ (u : State) (e : LensEvent), out = .next (settle s u) ∧
        u = { s with
          lens := { l with
            mode := .fault, segment := none, current := none, stack := [], awaiting := false, homing := none,
            draining := false, zoomBlocked := levels.1, focusBlocked := levels.2,
            lastFocusEnd := if g.motor = .focus then some now else l.lastFocusEnd, heldEvents := u.lens.heldEvents,
            zoom := { l.zoom with state := .idle }, focus := { l.focus with state := .idle },
            iris := { l.iris with state := .idle } },
          report := u.report, zoom := { s.zoom with fromLens := u.zoom.fromLens },
          focus := { s.focus with fromLens := u.focus.fromLens, lensTold := .fault } } ∧
        u.zoom.fromLens = s.zoom.fromLens ++
          (if l.draining = false ∧ l.focus.state ≠ .idle ∧ l.focus.owner ≠ .focus
            then [.moveEnd .focus false l.focus.position] else []) ++
          (if l.draining = false ∧ l.zoom.state ≠ .idle then [.moveEnd .zoom false l.zoom.position] else []) ++
          (if l.zoom.state ≠ .idle then [.finish] else []) ++ [.lensState .fault] ∧
        u.focus.fromLens = s.focus.fromLens ++
          (if l.draining = false ∧ l.focus.state ≠ .idle ∧ l.focus.owner = .focus
            then [.moveEnd false l.focus.position] else []) ++ [.fault] ∧
        (e.event, e.motor, e.cause, e.before, e.after) = (.fault, some g.motor, some cause, some l.mode, .fault) ∧
        (l.draining = false → u.report = giveGeneral (.lensEvent e) s.report ∧ u.lens.heldEvents = l.heldEvents) ∧
        (l.draining = true → u.report = s.report ∧ u.lens.heldEvents = l.heldEvents ++ [e])
    (l.segment = none → exec (.faultAnswer now) s = .next s ∧ exec (.segmentTimeout now) s = .next s) ∧
    (∀ g, l.segment = some g → faults (exec (.faultAnswer now) s) g .driverFault (l.zoomBlocked, l.focusBlocked) ∧
      faults (exec (.segmentTimeout now) s) g .timeout (l.zoomBlocked, l.focusBlocked)) ∧
    ((¬ ∃ m up sent, l.mode = .homing ∧ l.draining = false ∧ l.homing = some (.seek m up sent) ∧ sent = seekLimit m) →
      exec (.noHome zb fb now) s = .next s) ∧
    (∀ g up m, l.mode = .homing → l.draining = false → l.segment = some g → g.homing = true → g.motor = m →
      (m = .zoom ∧ l.homing = some (.seek .zoom up 1088)) ∨ (m = .focus ∧ l.homing = some (.seek .focus up 2112)) →
      faults (exec (.noHome zb fb now) s) g .noHome (zb, fb) ∧
      faults (exec (.lensSegmentDone zb fb 0 now) s) g .noHome (zb, fb)))

/-! ## The Zoom Controller -/

/-- The notices of the Lens Drive to the Zoom Controller (R90, R92, R93): each row takes the oldest notice when it is of its
kind and is not due otherwise. A hand-over forms the derived values and answers with a tracking target, when it differs
from where focus is heading, and the tracking answer; one that a SOFT RESET was taken before is answered without a
target. The zoom start fixes u unless it is fresh; the zoom end clears the moving mark and is told once. A zoom move that
was dropped, and a lens FAULT, clear the target; READY forms the derived values.
SET_FROM_POSITION and SET_FRACTION (R91), and TRACKING_ANSWER (R73): each takes the oldest waiting request of its kind and
is not due otherwise. With a cam table u becomes the fraction, at most 1024, and is fresh; with none the request is
ignored. The tracking answer ends the wait, and the grant decision that waited for it runs (R71, R72): the next zoom
segment goes out when the zoom move is not at its target and not preempted.
The derived values (R85): between two nodes of the table each field is interpolated with the quotient truncated toward zero,
the stop count of the lower node is cut to the stops whose level stays at 320 or less, and p_near stays above p_inf; from the
last node on every value is that node's; with no table there are none.
The lists in which notices and requests wait are the model's (log entry 3), as are the silent hand-over (log entry 18), a grant
to a motor already at its target (log entry 58), the READY of a SOFT RESET taken as that of homing (log entry 67), a late
answer that ends a later wait (log entry 52), and a position made unknown and still used (log entry 72). -/
def Obligations.ZoomActsOnItsNoticesAndRequests : Prop :=
  (∀ (l : List CamNode) (z : Nat),
    let formed := fun (a b : CamNode) => ∃ d, derive z l = some d ∧
      let f := fun (g : CamNode → Nat) =>
        ((g a : Int) + Int.tdiv (((g b : Int) - g a) * ((z : Int) - a.zoom)) ((b.zoom : Int) - a.zoom)).toNat
      (d.focal, d.alOpen, d.stepAl, d.pInf, d.coarse) = (f (·.focal), f (·.alOpen), f (·.stepAl), f (·.pInf), f (·.coarse)) ∧
      d.pNear = (if f (·.pNear) ≤ f (·.pInf) then f (·.pInf) + 1 else f (·.pNear)) ∧
      1 ≤ d.stops ∧ d.stops ≤ max 1 a.stops ∧ (d.stops = 1 ∨ d.alOpen + (d.stops - 1) * d.stepAl ≤ 320) ∧
      ∀ c, d.stops < c → c ≤ a.stops → 320 < d.alOpen + (c - 1) * d.stepAl
    (l = [] → derive z l = none) ∧
    (l.Pairwise (fun x y => x.zoom < y.zoom) →
      (∀ pre a b post, l = pre ++ a :: b :: post → a.zoom ≤ z → z < b.zoom → formed a b) ∧
      (∀ pre a, l = pre ++ [a] → a.zoom ≤ z → formed a a))) ∧
  (∀ s : State,
    let z := s.zoom
    let stopped := fun (y : ZoomController) => if z.moving then
        { s with zoom := { y with moving := false }, focus := { s.focus with fromZoom := s.focus.fromZoom ++ [.stopped] } }
      else { s with zoom := y }
    ((∀ p rest, z.fromLens ≠ .handover p :: rest) → exec .zoomPositionHandover s = .next s) ∧
    (∀ p rest, z.fromLens = .handover p :: rest →
      let y := { z with fromLens := rest, derived := derive p z.cam }
      let heading := if s.lens.focus.state = .idle then s.lens.focus.position else s.lens.focus.target
      let out := exec .zoomPositionHandover s
      let sends := fun (m : List LensMessage) => out = .next (settle s
        { s with zoom := y, lens := { s.lens with fromZoom := s.lens.fromZoom ++ m ++ [.trackingAnswer] } })
      (0 < z.silent → out = .next (settle s
        { s with zoom := { y with silent := z.silent - 1 }, lens := { s.lens with fromZoom := s.lens.fromZoom ++ [.trackingAnswer] } })) ∧
      (z.silent = 0 → z.cam = [] → sends []) ∧
      (∀ d, z.silent = 0 → derive p z.cam = some d →
        let goal := d.pInf + z.u * (d.pNear - d.pInf) / 1024
        (goal = heading → sends []) ∧ (goal ≠ heading → sends [.target .focus goal .plain]))) ∧
    ((∀ rest, z.fromLens ≠ .start :: rest) → exec .zoomStart s = .next s) ∧
    (∀ rest, z.fromLens = .start :: rest →
      let began := fun (u : Nat) => exec .zoomStart s = .next (settle s
        { s with zoom := { z with fromLens := rest, u := u, fresh := false, moving := true },
                 focus := { s.focus with fromZoom := s.focus.fromZoom ++ [.started] } })
      (z.fresh = true ∨ z.derived = none → began z.u) ∧
      (∀ d, z.fresh = false → z.derived = some d → d.pInf < d.pNear → began
        (max 0 (min (((s.lens.focus.position : Int) - d.pInf) * 1024 / ((d.pNear : Int) - d.pInf)) 1024)).toNat)) ∧
    ((∀ rest, z.fromLens ≠ .finish :: rest) → exec .zoomEnd s = .next s) ∧
    (∀ rest, z.fromLens = .finish :: rest → exec .zoomEnd s = .next (settle s (stopped { z with fromLens := rest }))) ∧
    ((∀ m reached p rest, z.fromLens ≠ .moveEnd m reached p :: rest) → exec .zoomMoveEnd s = .next s) ∧
    (∀ m reached p rest, z.fromLens = .moveEnd m reached p :: rest →
      (m = .zoom ∧ reached = false → exec .zoomMoveEnd s =
        .next (settle s (stopped { z with fromLens := rest, target := none }))) ∧
      (¬ (m = .zoom ∧ reached = false) → exec .zoomMoveEnd s =
        .next (settle s { s with zoom := { z with fromLens := rest } }))) ∧
    ((∀ m rest, z.fromLens ≠ .stepLoss m :: rest) → exec .zoomStepLoss s = .next s) ∧
    (∀ m rest, z.fromLens = .stepLoss m :: rest → exec .zoomStepLoss s = .next (settle s { s with zoom :=
      { z with fromLens := rest, derived := if m = .zoom then derive s.lens.zoom.position z.cam else z.derived } })) ∧
    ((∀ m rest, z.fromLens ≠ .lensState m :: rest) → exec .lensStateChange s = .next s) ∧
    (∀ m rest, z.fromLens = .lensState m :: rest →
      (m = .fault → exec .lensStateChange s = .next (settle s (stopped { z with fromLens := rest, target := none }))) ∧
      (m = .ready → exec .lensStateChange s = .next (settle s { s with zoom :=
        { z with fromLens := rest, derived := derive s.lens.zoom.position z.cam, fresh := false, target := none } })) ∧
      (m ≠ .fault → m ≠ .ready → exec .lensStateChange s =
        .next (settle s { s with zoom := { z with fromLens := rest } })))) ∧
  (∀ s : State,
    let z := s.zoom
    let l := s.lens
    ((∀ p rest, z.fromFocus ≠ .position p :: rest) → exec .setFromPosition s = .next s) ∧
    (∀ p rest, z.fromFocus = .position p :: rest →
      (z.cam = [] → exec .setFromPosition s = .next (settle s { s with zoom := { z with fromFocus := rest } })) ∧
      (∀ d, z.cam ≠ [] → z.derived = some d → d.pInf < d.pNear → exec .setFromPosition s = .next (settle s { s with zoom :=
        { z with fromFocus := rest, fresh := true,
                 u := (max 0 (min (((p : Int) - d.pInf) * 1024 / ((d.pNear : Int) - d.pInf)) 1024)).toNat } }))) ∧
    ((∀ v rest, z.fromFocus ≠ .fraction v :: rest) → exec .setFraction s = .next s) ∧
    (∀ v rest, z.fromFocus = .fraction v :: rest →
      (z.cam = [] → exec .setFraction s = .next (settle s { s with zoom := { z with fromFocus := rest } })) ∧
      (z.cam ≠ [] → exec .setFraction s = .next (settle s { s with zoom :=
        { z with fromFocus := rest, fresh := true, u := min v 1024 } }))) ∧
    ((∀ rest, l.fromZoom ≠ .trackingAnswer :: rest) → exec .trackingAnswer s = .next s) ∧
    (∀ rest, l.fromZoom = .trackingAnswer :: rest →
      let out := exec .trackingAnswer s
      (l.awaiting = false ∨ l.mode ≠ .ready → out = .next (settle s { s with lens := { l with fromZoom := rest } })) ∧
      (l.awaiting = true → l.mode = .ready → ∃ u, out = .next (settle s u) ∧
        GrantMade { s with lens := { l with fromZoom := rest, awaiting := false } } u) ∧
      (l.awaiting = true → l.mode = .ready → l.current = some .zoom → l.zoom.position ≠ l.zoom.target →
        l.arbitration = .sequential →
        let n := min 16 (natDist l.zoom.target l.zoom.position)
        out = .next (settle s { s with lens := { l with
          fromZoom := rest, awaiting := false, zoom := { l.zoom with moved := true },
          segment := some { motor := .zoom, up := decide (l.zoom.position < l.zoom.target), steps := n,
                            period := l.zoom.period, timeout := n * l.zoom.period + 5000, homing := false } } }))))

/-! ## What every step keeps -/

/-- The AE hold is raised exactly while the search state is COARSE, FINE or PEAK (R107), and the exposure history and the
focus sample list keep to 4 and 64 entries (R44, R95): every step keeps both. -/
def Obligations.StepKeepsTheHoldAndTheBoundedLists : Prop :=
  ∀ s t : State, step s = .next t →
    (HoldMatchesSearch s → HoldMatchesSearch t) ∧ (ListsBounded s → ListsBounded t)

/-- The report ring, its high-water flag and the attention line stay consistent at every step (R163, R164, R168). -/
def Obligations.StepKeepsTheRingConsistent : Prop :=
  ∀ s t : State, RingConsistent s.report → step s = .next t → RingConsistent t.report

/-- The waiting order of reports keeps to its places at every step (R163, R165, R167); and the four places reserved for
completions always suffice: nothing but the one command in EXECUTING owes a completion, it owes one, and a place is free for
it (R152, R163).  With that, the lens drains only while a SOFT RESET executes, at every step (R82). -/
def Obligations.StepKeepsTheWaitingOrder : Prop :=
  ∀ s t : State, step s = .next t →
    (WaitingConsistent s.report → WaitingConsistent t.report) ∧ (CompletionsReserved s → CompletionsReserved t) ∧
    (CompletionsReserved s → DrainsUnderSoftReset s → DrainsUnderSoftReset t)

/-- The buffers and the own tags of the Pass-Through Unit stay in their bounds at every step (R141, R142, R147, R148). -/
def Obligations.StepKeepsTheLinkBounded : Prop :=
  ∀ s t : State, LinkBounded s.link → step s = .next t → LinkBounded t.link

/-- The slot table keeps its rules at every step (R1 to R4, R7, R20): slot 0 never holds a finished frame, one slot fills
exactly while a frame is in progress, pins are on slots that can be shown, and no frame is in progress in STANDBY. -/
def Obligations.StepKeepsTheSlotTable : Prop :=
  ∀ s t : State, SlotsConsistent s → step s = .next t → SlotsConsistent t

/-- The state right after power-on reset meets every invariant, for every strap value. -/
def Obligations.ResetMeetsTheInvariants : Prop :=
  ∀ strap : BitVec 3, let s := State.resetWith strap
    HoldMatchesSearch s ∧ RingConsistent s.report ∧ WaitingConsistent s.report ∧ LinkBounded s.link ∧ SlotsConsistent s ∧
      ListsBounded s ∧ CompletionsReserved s ∧ DrainsUnderSoftReset s

/-- What only some commands do, over all commands: only SET MODE with the mode byte VIEW, with its conditions met, enters VIEW
(R157); and only CAPTURE_APERTURE_WRITE, with a head request that has a piece at the base of the capture aperture, taken in
VIEW, raises the frame sequence number, by one: that piece starts a frame (R8, R12, R15).  Power-on reset sets the number
to 0 (R15).  Every such write raises the number, also one cut into several pieces, while the frame size is not 0.
That the pieces of a request are handled in one step is the model's choice (log entry 10). -/
def Obligations.OnlySomeCommandsEnterViewOrCountFrames : Prop :=
  (∀ (c : Instr) (s t : State), exec c s = .next t →
    (s.command.mode = .standby → t.command.mode = .view → (∃ tag, c = .setModeView tag 1) ∧ CommandArrives s ∧
      s.command.valid = true ∧ s.lens.mode = .ready ∧ s.command.camMark = true ∧ s.command.programMark = true) ∧
    (t.slots.seq = s.slots.seq ∨
      (t.slots.seq = s.slots.seq + 1 ∧ s.command.mode = .view ∧ ∃ now a d, c = .captureApertureWrite now ∧
        headRequest s = some (.write a d) ∧
        ∃ p ∈ requestPieces s (.write a d), p.region = .capture ∧ p.addr = s.command.config.captureBase) ∨
      (t.slots.seq = 0 ∧ ∃ strap, c = .powerOnReset strap))) ∧
  (∀ (now : Nat) (s : State) (a : BitVec 32) (d : List LinkWord), headRequest s = some (.write a d) →
    s.command.mode = .view → 0 < frameSize s →
    (∃ p ∈ requestPieces s (.write a d), p.region = .capture ∧ p.addr = s.command.config.captureBase) →
    ∃ t, exec (.captureApertureWrite now) s = .next t ∧ t.slots.seq = s.slots.seq + 1)

/-- A KEPT frame stays KEPT, with its frame and its data's slot, until a release request or power-on reset (R2, R4, R18, R19):
no frame start, no capture, no CONFIGURE FRAME and no SOFT RESET takes its slot. -/
def Obligations.KeptFramesStayUntilReleased : Prop :=
  ∀ (c : Instr) (s t : State) (i : Nat) (e : Slot), SlotsConsistent s → s.command.valid = true → exec c s = .next t →
    s.slots.table[i]? = some e → e.state = .kept → c ≠ .releaseRequest → (∀ strap, c ≠ .powerOnReset strap) →
    ∃ e', t.slots.table[i]? = some e' ∧ e'.state = .kept ∧ e'.recordFrame = e.recordFrame ∧
      t.command.config.poolBase = s.command.config.poolBase ∧ t.command.config.stride = s.command.config.stride

/-- A command record decodes to the command it was written for (section 12.2, R171): for every well-formed host command, with
every field at every value its record admits.
That one command, SET MODE, has two rows, told apart by its mode byte, is the model's reading of the table (log entry 27). -/
def Obligations.CommandRecordsDecodeToTheirCommand : Prop :=
  ∀ (c : Instr) (b : List Byte), c.wellFormed = true → encodeRecord c = some b → decodeRecord b = c

/-- The records the part writes (R171, sections 12.3 to 12.5), byte for byte: each kind of report with its kind, class and
report count, the slot record image of a slot and of a position beyond the table, and the Status Block hold every field at
its offset, little-endian and cut to its size, and 0 in every other byte.  Codes are those of section 12.7, listed first.
That a field that does not apply holds 0, and a slot number that does not apply 0xFF, is the model's reading (log
entry 23); the set the Status Block shows with no set issued, also while there are no derived values, what it shows of the
exposure between issues, and its skip_reason while meter_present is clear, are its choices (log entries 31, 57, 74 and 78). -/
def Obligations.RecordsHoldTheirFieldsAtTheirOffsets : Prop :=
  ([ReportClass.completion, .exposure, .frame, .focus, .lens, .capture, .fault].map classCode = [0, 1, 2, 3, 4, 5, 6] ∧
   [Status.done, .clamped, .notReady, .conflict, .badParameter, .unknownCommand, .memoryError].map statusCode =
     [0, 1, 2, 3, 4, 5, 6] ∧
   [SlotState.free, .filling, .filled, .held, .kept].map slotStateCode = [1, 2, 3, 4, 5] ∧
   [FrameOutcome.notYet, .complete, .torn, .spilled].map outcomeCode = [0, 1, 2, 3] ∧
   [ExposureMode.program, .manual, .locked].map exposureModeCode = [0, 1, 2] ∧
   [SetSource.program, .manual, .held].map sourceCode = [0, 1, 2] ∧
   [Period.off, .us10000, .us8333].map periodCode = [0, 1, 2] ∧
   [SkipReason.stepped, .torn, .irisMoving, .focusHold, .manual, .locked].map skipCode = [0, 1, 2, 3, 4, 5] ∧
   [LensMode.unhomed, .homing, .ready, .parking, .parked, .fault].map lensModeCode = [0, 1, 2, 3, 4, 5] ∧
   [Motor.zoom, .focus, .iris].map motorCode = [0, 1, 2] ∧
   [LensEventKind.homed, .parked, .fault, .stepLoss].map lensEventCode = [1, 2, 3, 4] ∧
   [LensFaultCause.driverFault, .timeout, .noHome].map lensCauseCode = [1, 2, 3] ∧
   [FocusMode.single, .continuous, .manual].map focusModeCode = [0, 1, 2] ∧
   [SearchState.idle, .coarse, .fine, .peak, .locked, .monitor, .failed].map searchCode = [0, 1, 2, 3, 4, 5, 6] ∧
   [FocusCause.start, .restartDrop, .restartScene, .peakPassed, .sweepEnd, .peakSet, .locked, .baseline, .lowContrast, .timeout,
    .lensFault, .cancelled, .zoom, .stepLoss, .exposure, .standby, .mode, .moved, .sceneChanged].map focusCauseCode =
     [1, 2, 3, 4, 5, 6, 7, 8, 9, 10, 11, 12, 13, 14, 15, 16, 17, 18, 19] ∧
   [FocusReason.noReason, .torn, .focusMoving, .zoomMoving, .dark].map focusReasonCode = [0, 1, 2, 3, 4] ∧
   [HoldReason.noHold, .torn, .noReference, .zoomMoving, .exposureStep, .lowQuality, .atRange].map holdCode =
     [0, 1, 2, 3, 4, 5, 6] ∧
   [CaptureMode.idle, .armed, .running].map captureModeCode = [0, 1, 2] ∧
   [CaptureEventKind.triggered, .triggerIgnored, .kept, .skipped, .ended, .bufferHigh, .bufferLow].map captureEventCode =
     [1, 2, 3, 4, 5, 6, 7] ∧
   [KeepSkip.spilled, .full, .gone].map keepSkipCode = [1, 2, 3] ∧
   [EndCause.burstDone, .indexLimit, .stopped, .standby].map endCauseCode = [1, 2, 3, 4] ∧
   [PassStatus.closed, .opened, .blank].map passCode = [0, 1, 2] ∧ [OpMode.standby, .view].map opModeCode = [0, 1] ∧
   [TableKind.cam, .program, .weights].map tableKindCode = [1, 2, 3] ∧
   [FaultCause.captureOutOfOrder, .captureOverrun, .captureRestart, .viewWrite, .viewBeyond, .viewNoView, .viewNoFrame,
    .viewStale, .apertureInactive, .badCommandTail, .badReportHead].map faultCode = [1, 2, 3, 4, 5, 6, 7, 8, 9, 10, 11]) ∧
  let packed := fun (l : List Bool) => l.foldr (fun b n => b.toNat + 2 * n) 0
  let s16 := fun (x : Int) => (x % 65536).toNat
  let flags := fun (e : ExposureSet) => packed [e.flickerExposed, e.lightHigh, e.lightLow, e.lensHeld] +
    16 * periodCode e.quantised + 64 * sourceCode e.source
  let set := fun (off : Nat) (e : ExposureSet) =>
    [(off, 2, e.tl), (off + 2, 2, e.gl), (off + 4, 2, e.al), (off + 6, 2, s16 e.xl), (off + 8, 4, e.shutter),
     (off + 12, 2, e.gainCode), (off + 14, 1, e.irisStop), (off + 15, 1, flags e)]
  let sample := fun (off : Nat) (l : LensSample) =>
    [(off, 2, l.zoom), (off + 2, 2, l.focus), (off + 4, 1, l.irisStop), (off + 5, 1, l.known.toNat)]
  (∀ (lost : LostCounters) (count : BitVec 16),
    let report := fun (r : Report) (kind cls : Nat) (payload : List (Nat × Nat × Nat)) =>
      (reportWords lost count r).length = 2 ∧
      HoldsFields (reportWords lost count r) ([(0, 1, kind), (1, 1, cls), (2, 2, count.toNat)] ++ payload)
    (∀ (code tag ring : BitVec 16) (st : Status) (v : Int), report (.commandDone code tag ring st v) 1 0
      [(0x4, 2, code.toNat), (0x6, 2, tag.toNat), (0x8, 2, ring.toNat), (0xA, 1, statusCode st),
       (0xC, 4, (v % 4294967296).toNat)]) ∧
    (∀ (r : ExposureReport) (merge : Nat), let e := r.set; report (.exposureSet r merge) 2 1
      [(0x4, 4, (e.tag.getD 0).toNat), (0x8, 4, e.shutter), (0xC, 2, e.tl), (0xE, 2, e.gl), (0x10, 2, e.al),
       (0x12, 2, s16 e.xl), (0x14, 2, e.gainCode), (0x16, 2, s16 ((r.meter.map (·.1)).getD 0)),
       (0x18, 2, s16 ((r.meter.map (·.2)).getD 0)), (0x1A, 1, (r.step % 256).toNat), (0x1B, 1, e.irisStop),
       (0x1C, 1, flags e), (0x1D, 1, packed [r.settled, r.changed, r.meter.isSome]), (0x1E, 1, skipCode r.skip),
       (0x1F, 1, merge)]) ∧
    (∀ (frame : BitVec 32) (slot : Nat) (o : FrameOutcome) (torn : Bool), report (.frameSummary frame slot o torn) 3 2
      [(0x4, 4, frame.toNat), (0x8, 1, slot), (0x9, 1, outcomeCode o), (0xA, 1, torn.toNat)]) ∧
    (∀ r : FocusReport, report (.focusState r) 4 3
      [(0x4, 1, searchCode r.state), (0x5, 1, searchCode r.before), (0x6, 1, focusCauseCode r.cause),
       (0x7, 1, focusReasonCode r.reason), (0x8, 2, r.position.getD 0), (0xA, 2, r.peakOrStep),
       (0xC, 2, (r.best.map (·.position)).getD 0), (0xE, 1, r.framesUsed), (0xF, 1, r.sweep),
       (0x10, 4, (r.best.map (·.figure)).getD 0), (0x14, 4, r.lockFigure), (0x18, 4, r.frame.toNat),
       (0x1C, 1, packed [r.position.isSome, r.best.isSome])]) ∧
    (∀ r : LensEvent, report (.lensEvent r) 5 4
      [(0x4, 1, lensEventCode r.event), (0x5, 1, (r.motor.map motorCode).getD 0), (0x6, 1, (r.cause.map lensCauseCode).getD 0),
       (0x7, 1, (r.before.map lensModeCode).getD 0), (0x8, 1, lensModeCode r.after), (0xA, 2, s16 r.difference),
       (0xC, 2, r.zoom), (0xE, 2, r.focus), (0x10, 2, r.iris)]) ∧
    (∀ r : CaptureReport, report (.captureEvent r) 6 5
      [(0x4, 1, captureEventCode r.event), (0x5, 1, captureModeCode r.mode), (0x6, 2, r.id), (0x8, 1, r.acknowledge.toNat),
       (0x9, 1, r.slot.getD 0xFF), (0xA, 2, s16 r.index), (0xC, 4, r.frame.toNat), (0x10, 1, r.detail),
       (0x11, 1, r.torn.toNat), (0x12, 2, r.countA), (0x14, 2, r.skipCount), (0x16, 1, r.keptSlots), (0x17, 1, r.heldSlots)]) ∧
    (∀ (c : FaultCause) (n a : Nat), report (.pathFault c n a) 7 6 [(0x4, 1, faultCode c), (0x6, 2, n), (0x8, 4, a)]) ∧
    report .eventsLost 8 6 [(0x4, 2, lost.frame), (0x6, 2, lost.focus), (0x8, 2, lost.lens), (0xA, 2, lost.capture)]) ∧
  (∀ (s : State) (i : Nat), (imageWords s i).length = 8 ∧
    (s.slots.table[i]? = none → HoldsFields (imageWords s i) [(0, 1, i)]) ∧
    ∀ e, s.slots.table[i]? = some e →
      let r := e.record
      let x := r.statistics
      let steady := fun (f : SteadyFields → Int) => s16 ((r.steady.map f).getD 0)
      HoldsFields (imageWords s i)
        ([(0x00, 1, i), (0x01, 1, slotStateCode e.state), (0x02, 1, e.pins), (0x03, 1, outcomeCode r.outcome),
          (0x04, 4, if e.state = .free then 0 else r.frame.toNat), (0x08, 4, e.lastFrame.toNat), (0x0C, 4, r.bytesStored),
          (0x10, 1, packed [r.torn, r.issueFrame.isNone, r.metering.isSome, x.valid, x.uniformFallback, r.steady.isSome,
                            r.capture.isSome, r.focusSettled]),
          (0x11, 1, packed [r.moving.zoom, r.moving.focus, r.moving.iris])] ++
         sample 0x14 r.startSample ++ sample 0x1A r.endSample ++ set 0x20 r.applied ++
         [(0x30, 4, (r.issueFrame.getD 0).toNat), (0x34, 2, (r.metering.map (·.y)).getD 0),
          (0x36, 2, s16 ((r.metering.map (·.eMeas)).getD 0)), (0x38, 1, (r.metering.map (skipCode ·.skip)).getD 0),
          (0x3A, 2, x.y), (0x3C, 2, x.h), (0x3E, 1, x.det100.level), (0x3F, 1, x.det120.level),
          (0x40, 1, packed [x.det100.evaluated, x.det100.on, x.det120.evaluated, x.det120.on]), (0x44, 4, x.focusFigure),
          (0x48, 2, x.windowMeans[0]?.getD 0), (0x4A, 2, x.windowMeans[1]?.getD 0), (0x4C, 2, x.windowMeans[2]?.getD 0),
          (0x4E, 2, x.windowMeans[3]?.getD 0), (0x50, 2, x.windowMeans[4]?.getD 0),
          (0x54, 2, steady (·.dx)), (0x56, 2, steady (·.dy)), (0x58, 1, (r.steady.map (·.quality)).getD 0),
          (0x59, 1, (r.steady.map (holdCode ·.hold)).getD 0), (0x5A, 2, steady (·.ox)), (0x5C, 2, steady (·.oy)),
          (0x60, 2, (r.capture.map (·.id)).getD 0), (0x62, 2, s16 ((r.capture.map (·.index)).getD 0))])) ∧
  (∀ s : State,
    let e := standingSet s.exposure.program s
    let best := s.focus.best
    (statusWords s).length = 16 ∧ HoldsFields (statusWords s)
      ([(0x00, 1, opModeCode s.command.mode), (0x01, 1, s.command.valid.toNat), (0x02, 2, s.command.head.toNat),
        (0x04, 2, s.report.writeCount.toNat), (0x06, 2, s.report.headCopy.toNat),
        (0x08, 1, packed [s.report.highWater, s.report.attention]), (0x0A, 2, s.report.lost.frame),
        (0x0C, 2, s.report.lost.focus), (0x0E, 2, s.report.lost.lens), (0x10, 2, s.report.lost.capture)] ++ set 0x20 e ++
       [(0x30, 4, (e.tag.getD 0).toNat), (0x34, 2, s.exposure.shown.y), (0x36, 2, s16 s.exposure.shown.eMeas),
        (0x38, 1, skipCode s.exposure.shown.skip), (0x39, 1, exposureModeCode s.exposure.shown.mode),
        (0x3A, 1, packed [s.exposure.settled, s.exposure.lightHigh, s.exposure.lightLow, s.exposure.shown.present,
                          e.tag.isSome]),
        (0x40, 1, lensModeCode s.lens.mode), (0x42, 2, s.lens.zoom.position), (0x44, 2, s.lens.focus.position),
        (0x46, 2, s.lens.iris.position), (0x50, 2, s.zoom.target.getD 0xFFFF), (0x52, 1, s.zoom.moving.toNat),
        (0x54, 2, s.zoom.u), (0x56, 2, (s.zoom.derived.map (·.focal)).getD 0), (0x60, 1, searchCode s.focus.search),
        (0x61, 1, focusModeCode s.focus.mode), (0x62, 1, best.isSome.toNat), (0x64, 4, s.focus.lockFigure),
        (0x68, 4, (best.map (·.figure)).getD 0), (0x6C, 2, (best.map (·.position)).getD 0),
        (0x70, 4, (best.map (·.frame.toNat)).getD 0), (0x80, 1, s.steady.enable.toNat),
        (0x81, 1, packed [s.steady.axisX.panning, s.steady.axisY.panning]), (0x82, 2, s16 (roundOffset s.steady.axisX.o16)),
        (0x84, 2, s16 (roundOffset s.steady.axisY.o16)), (0x86, 1, s.steady.source.getD 0xFF),
        (0x87, 1, passCode s.steady.pass.status), (0x88, 1, s.steady.pass.pinned.getD 0xFF),
        (0xA0, 1, captureModeCode s.capture.mode), (0xA1, 1, s.capture.acknowledge.toNat), (0xA2, 2, s.capture.id),
        (0xA4, 1, s.capture.effectiveP), (0xA5, 1, s.capture.burst), (0xA6, 1, s.capture.heldList.length),
        (0xA7, 1, s.capture.bufferHigh.toNat), (0xA8, 2, s.capture.keptCount), (0xAA, 2, s.capture.skipCount)]))
end

