-- ==== Sys2Proof/Laws/State.lean ====
section
/-!
SUPPORT. The update of one block of State: one lemma per update, which gives every field.
-/
namespace Sys2Proof.Machine
variable (s : State)

@[simp] theorem State.onLink_link (f : PassThrough → PassThrough) : (s.onLink f).link = f s.link := rfl
@[simp] theorem State.onLink_slots (f : PassThrough → PassThrough) : (s.onLink f).slots = s.slots := rfl
@[simp] theorem State.onLink_stats (f : PassThrough → PassThrough) : (s.onLink f).stats = s.stats := rfl
@[simp] theorem State.onLink_exposure (f : PassThrough → PassThrough) : (s.onLink f).exposure = s.exposure := rfl
@[simp] theorem State.onLink_lens (f : PassThrough → PassThrough) : (s.onLink f).lens = s.lens := rfl
@[simp] theorem State.onLink_zoom (f : PassThrough → PassThrough) : (s.onLink f).zoom = s.zoom := rfl
@[simp] theorem State.onLink_focus (f : PassThrough → PassThrough) : (s.onLink f).focus = s.focus := rfl
@[simp] theorem State.onLink_steady (f : PassThrough → PassThrough) : (s.onLink f).steady = s.steady := rfl
@[simp] theorem State.onLink_capture (f : PassThrough → PassThrough) : (s.onLink f).capture = s.capture := rfl
@[simp] theorem State.onLink_command (f : PassThrough → PassThrough) : (s.onLink f).command = s.command := rfl
@[simp] theorem State.onLink_report (f : PassThrough → PassThrough) : (s.onLink f).report = s.report := rfl
@[simp] theorem State.onLink_pending (f : PassThrough → PassThrough) : (s.onLink f).pending = s.pending := rfl

@[simp] theorem State.onSlots_link (f : SlotManager → SlotManager) : (s.onSlots f).link = s.link := rfl
@[simp] theorem State.onSlots_slots (f : SlotManager → SlotManager) : (s.onSlots f).slots = f s.slots := rfl
@[simp] theorem State.onSlots_stats (f : SlotManager → SlotManager) : (s.onSlots f).stats = s.stats := rfl
@[simp] theorem State.onSlots_exposure (f : SlotManager → SlotManager) : (s.onSlots f).exposure = s.exposure := rfl
@[simp] theorem State.onSlots_lens (f : SlotManager → SlotManager) : (s.onSlots f).lens = s.lens := rfl
@[simp] theorem State.onSlots_zoom (f : SlotManager → SlotManager) : (s.onSlots f).zoom = s.zoom := rfl
@[simp] theorem State.onSlots_focus (f : SlotManager → SlotManager) : (s.onSlots f).focus = s.focus := rfl
@[simp] theorem State.onSlots_steady (f : SlotManager → SlotManager) : (s.onSlots f).steady = s.steady := rfl
@[simp] theorem State.onSlots_capture (f : SlotManager → SlotManager) : (s.onSlots f).capture = s.capture := rfl
@[simp] theorem State.onSlots_command (f : SlotManager → SlotManager) : (s.onSlots f).command = s.command := rfl
@[simp] theorem State.onSlots_report (f : SlotManager → SlotManager) : (s.onSlots f).report = s.report := rfl
@[simp] theorem State.onSlots_pending (f : SlotManager → SlotManager) : (s.onSlots f).pending = s.pending := rfl

@[simp] theorem State.onLens_link (f : LensDrive → LensDrive) : (s.onLens f).link = s.link := rfl
@[simp] theorem State.onLens_slots (f : LensDrive → LensDrive) : (s.onLens f).slots = s.slots := rfl
@[simp] theorem State.onLens_stats (f : LensDrive → LensDrive) : (s.onLens f).stats = s.stats := rfl
@[simp] theorem State.onLens_exposure (f : LensDrive → LensDrive) : (s.onLens f).exposure = s.exposure := rfl
@[simp] theorem State.onLens_lens (f : LensDrive → LensDrive) : (s.onLens f).lens = f s.lens := rfl
@[simp] theorem State.onLens_zoom (f : LensDrive → LensDrive) : (s.onLens f).zoom = s.zoom := rfl
@[simp] theorem State.onLens_focus (f : LensDrive → LensDrive) : (s.onLens f).focus = s.focus := rfl
@[simp] theorem State.onLens_steady (f : LensDrive → LensDrive) : (s.onLens f).steady = s.steady := rfl
@[simp] theorem State.onLens_capture (f : LensDrive → LensDrive) : (s.onLens f).capture = s.capture := rfl
@[simp] theorem State.onLens_command (f : LensDrive → LensDrive) : (s.onLens f).command = s.command := rfl
@[simp] theorem State.onLens_report (f : LensDrive → LensDrive) : (s.onLens f).report = s.report := rfl
@[simp] theorem State.onLens_pending (f : LensDrive → LensDrive) : (s.onLens f).pending = s.pending := rfl

@[simp] theorem State.onZoom_link (f : ZoomController → ZoomController) : (s.onZoom f).link = s.link := rfl
@[simp] theorem State.onZoom_slots (f : ZoomController → ZoomController) : (s.onZoom f).slots = s.slots := rfl
@[simp] theorem State.onZoom_stats (f : ZoomController → ZoomController) : (s.onZoom f).stats = s.stats := rfl
@[simp] theorem State.onZoom_exposure (f : ZoomController → ZoomController) : (s.onZoom f).exposure = s.exposure := rfl
@[simp] theorem State.onZoom_lens (f : ZoomController → ZoomController) : (s.onZoom f).lens = s.lens := rfl
@[simp] theorem State.onZoom_zoom (f : ZoomController → ZoomController) : (s.onZoom f).zoom = f s.zoom := rfl
@[simp] theorem State.onZoom_focus (f : ZoomController → ZoomController) : (s.onZoom f).focus = s.focus := rfl
@[simp] theorem State.onZoom_steady (f : ZoomController → ZoomController) : (s.onZoom f).steady = s.steady := rfl
@[simp] theorem State.onZoom_capture (f : ZoomController → ZoomController) : (s.onZoom f).capture = s.capture := rfl
@[simp] theorem State.onZoom_command (f : ZoomController → ZoomController) : (s.onZoom f).command = s.command := rfl
@[simp] theorem State.onZoom_report (f : ZoomController → ZoomController) : (s.onZoom f).report = s.report := rfl
@[simp] theorem State.onZoom_pending (f : ZoomController → ZoomController) : (s.onZoom f).pending = s.pending := rfl

@[simp] theorem State.onFocus_link (f : FocusController → FocusController) : (s.onFocus f).link = s.link := rfl
@[simp] theorem State.onFocus_slots (f : FocusController → FocusController) : (s.onFocus f).slots = s.slots := rfl
@[simp] theorem State.onFocus_stats (f : FocusController → FocusController) : (s.onFocus f).stats = s.stats := rfl
@[simp] theorem State.onFocus_exposure (f : FocusController → FocusController) : (s.onFocus f).exposure = s.exposure := rfl
@[simp] theorem State.onFocus_lens (f : FocusController → FocusController) : (s.onFocus f).lens = s.lens := rfl
@[simp] theorem State.onFocus_zoom (f : FocusController → FocusController) : (s.onFocus f).zoom = s.zoom := rfl
@[simp] theorem State.onFocus_focus (f : FocusController → FocusController) : (s.onFocus f).focus = f s.focus := rfl
@[simp] theorem State.onFocus_steady (f : FocusController → FocusController) : (s.onFocus f).steady = s.steady := rfl
@[simp] theorem State.onFocus_capture (f : FocusController → FocusController) : (s.onFocus f).capture = s.capture := rfl
@[simp] theorem State.onFocus_command (f : FocusController → FocusController) : (s.onFocus f).command = s.command := rfl
@[simp] theorem State.onFocus_report (f : FocusController → FocusController) : (s.onFocus f).report = s.report := rfl
@[simp] theorem State.onFocus_pending (f : FocusController → FocusController) : (s.onFocus f).pending = s.pending := rfl

@[simp] theorem State.onSteady_link (f : SteadyController → SteadyController) : (s.onSteady f).link = s.link := rfl
@[simp] theorem State.onSteady_slots (f : SteadyController → SteadyController) : (s.onSteady f).slots = s.slots := rfl
@[simp] theorem State.onSteady_stats (f : SteadyController → SteadyController) : (s.onSteady f).stats = s.stats := rfl
@[simp] theorem State.onSteady_exposure (f : SteadyController → SteadyController) : (s.onSteady f).exposure = s.exposure := rfl
@[simp] theorem State.onSteady_lens (f : SteadyController → SteadyController) : (s.onSteady f).lens = s.lens := rfl
@[simp] theorem State.onSteady_zoom (f : SteadyController → SteadyController) : (s.onSteady f).zoom = s.zoom := rfl
@[simp] theorem State.onSteady_focus (f : SteadyController → SteadyController) : (s.onSteady f).focus = s.focus := rfl
@[simp] theorem State.onSteady_steady (f : SteadyController → SteadyController) : (s.onSteady f).steady = f s.steady := rfl
@[simp] theorem State.onSteady_capture (f : SteadyController → SteadyController) : (s.onSteady f).capture = s.capture := rfl
@[simp] theorem State.onSteady_command (f : SteadyController → SteadyController) : (s.onSteady f).command = s.command := rfl
@[simp] theorem State.onSteady_report (f : SteadyController → SteadyController) : (s.onSteady f).report = s.report := rfl
@[simp] theorem State.onSteady_pending (f : SteadyController → SteadyController) : (s.onSteady f).pending = s.pending := rfl

@[simp] theorem State.onCapture_link (f : CaptureUnit → CaptureUnit) : (s.onCapture f).link = s.link := rfl
@[simp] theorem State.onCapture_slots (f : CaptureUnit → CaptureUnit) : (s.onCapture f).slots = s.slots := rfl
@[simp] theorem State.onCapture_stats (f : CaptureUnit → CaptureUnit) : (s.onCapture f).stats = s.stats := rfl
@[simp] theorem State.onCapture_exposure (f : CaptureUnit → CaptureUnit) : (s.onCapture f).exposure = s.exposure := rfl
@[simp] theorem State.onCapture_lens (f : CaptureUnit → CaptureUnit) : (s.onCapture f).lens = s.lens := rfl
@[simp] theorem State.onCapture_zoom (f : CaptureUnit → CaptureUnit) : (s.onCapture f).zoom = s.zoom := rfl
@[simp] theorem State.onCapture_focus (f : CaptureUnit → CaptureUnit) : (s.onCapture f).focus = s.focus := rfl
@[simp] theorem State.onCapture_steady (f : CaptureUnit → CaptureUnit) : (s.onCapture f).steady = s.steady := rfl
@[simp] theorem State.onCapture_capture (f : CaptureUnit → CaptureUnit) : (s.onCapture f).capture = f s.capture := rfl
@[simp] theorem State.onCapture_command (f : CaptureUnit → CaptureUnit) : (s.onCapture f).command = s.command := rfl
@[simp] theorem State.onCapture_report (f : CaptureUnit → CaptureUnit) : (s.onCapture f).report = s.report := rfl
@[simp] theorem State.onCapture_pending (f : CaptureUnit → CaptureUnit) : (s.onCapture f).pending = s.pending := rfl

@[simp] theorem State.onCommand_link (f : CommandUnit → CommandUnit) : (s.onCommand f).link = s.link := rfl
@[simp] theorem State.onCommand_slots (f : CommandUnit → CommandUnit) : (s.onCommand f).slots = s.slots := rfl
@[simp] theorem State.onCommand_stats (f : CommandUnit → CommandUnit) : (s.onCommand f).stats = s.stats := rfl
@[simp] theorem State.onCommand_exposure (f : CommandUnit → CommandUnit) : (s.onCommand f).exposure = s.exposure := rfl
@[simp] theorem State.onCommand_lens (f : CommandUnit → CommandUnit) : (s.onCommand f).lens = s.lens := rfl
@[simp] theorem State.onCommand_zoom (f : CommandUnit → CommandUnit) : (s.onCommand f).zoom = s.zoom := rfl
@[simp] theorem State.onCommand_focus (f : CommandUnit → CommandUnit) : (s.onCommand f).focus = s.focus := rfl
@[simp] theorem State.onCommand_steady (f : CommandUnit → CommandUnit) : (s.onCommand f).steady = s.steady := rfl
@[simp] theorem State.onCommand_capture (f : CommandUnit → CommandUnit) : (s.onCommand f).capture = s.capture := rfl
@[simp] theorem State.onCommand_command (f : CommandUnit → CommandUnit) : (s.onCommand f).command = f s.command := rfl
@[simp] theorem State.onCommand_report (f : CommandUnit → CommandUnit) : (s.onCommand f).report = s.report := rfl
@[simp] theorem State.onCommand_pending (f : CommandUnit → CommandUnit) : (s.onCommand f).pending = s.pending := rfl

@[simp] theorem State.onReport_link (f : ReportUnit → ReportUnit) : (s.onReport f).link = s.link := rfl
@[simp] theorem State.onReport_slots (f : ReportUnit → ReportUnit) : (s.onReport f).slots = s.slots := rfl
@[simp] theorem State.onReport_stats (f : ReportUnit → ReportUnit) : (s.onReport f).stats = s.stats := rfl
@[simp] theorem State.onReport_exposure (f : ReportUnit → ReportUnit) : (s.onReport f).exposure = s.exposure := rfl
@[simp] theorem State.onReport_lens (f : ReportUnit → ReportUnit) : (s.onReport f).lens = s.lens := rfl
@[simp] theorem State.onReport_zoom (f : ReportUnit → ReportUnit) : (s.onReport f).zoom = s.zoom := rfl
@[simp] theorem State.onReport_focus (f : ReportUnit → ReportUnit) : (s.onReport f).focus = s.focus := rfl
@[simp] theorem State.onReport_steady (f : ReportUnit → ReportUnit) : (s.onReport f).steady = s.steady := rfl
@[simp] theorem State.onReport_capture (f : ReportUnit → ReportUnit) : (s.onReport f).capture = s.capture := rfl
@[simp] theorem State.onReport_command (f : ReportUnit → ReportUnit) : (s.onReport f).command = s.command := rfl
@[simp] theorem State.onReport_report (f : ReportUnit → ReportUnit) : (s.onReport f).report = f s.report := rfl
@[simp] theorem State.onReport_pending (f : ReportUnit → ReportUnit) : (s.onReport f).pending = s.pending := rfl

@[simp] theorem State.onSlot_link (i : Nat) (f : Slot → Slot) : (s.onSlot i f).link = s.link := rfl
@[simp] theorem State.onSlot_slots (i : Nat) (f : Slot → Slot) : (s.onSlot i f).slots =
    { s.slots with table := updAt f s.slots.table i } := rfl
@[simp] theorem State.onSlot_stats (i : Nat) (f : Slot → Slot) : (s.onSlot i f).stats = s.stats := rfl
@[simp] theorem State.onSlot_exposure (i : Nat) (f : Slot → Slot) : (s.onSlot i f).exposure = s.exposure := rfl
@[simp] theorem State.onSlot_lens (i : Nat) (f : Slot → Slot) : (s.onSlot i f).lens = s.lens := rfl
@[simp] theorem State.onSlot_zoom (i : Nat) (f : Slot → Slot) : (s.onSlot i f).zoom = s.zoom := rfl
@[simp] theorem State.onSlot_focus (i : Nat) (f : Slot → Slot) : (s.onSlot i f).focus = s.focus := rfl
@[simp] theorem State.onSlot_steady (i : Nat) (f : Slot → Slot) : (s.onSlot i f).steady = s.steady := rfl
@[simp] theorem State.onSlot_capture (i : Nat) (f : Slot → Slot) : (s.onSlot i f).capture = s.capture := rfl
@[simp] theorem State.onSlot_command (i : Nat) (f : Slot → Slot) : (s.onSlot i f).command = s.command := rfl
@[simp] theorem State.onSlot_report (i : Nat) (f : Slot → Slot) : (s.onSlot i f).report = s.report := rfl
@[simp] theorem State.onSlot_pending (i : Nat) (f : Slot → Slot) : (s.onSlot i f).pending = s.pending := rfl

@[simp] theorem onParams_link (f : ExposureParams → ExposureParams) : (onParams f s).link = s.link := rfl
@[simp] theorem onParams_slots (f : ExposureParams → ExposureParams) : (onParams f s).slots = s.slots := rfl
@[simp] theorem onParams_stats (f : ExposureParams → ExposureParams) : (onParams f s).stats = s.stats := rfl
@[simp] theorem onParams_exposure (f : ExposureParams → ExposureParams) : (onParams f s).exposure =
    { s.exposure with params := f s.exposure.params } := rfl
@[simp] theorem onParams_lens (f : ExposureParams → ExposureParams) : (onParams f s).lens = s.lens := rfl
@[simp] theorem onParams_zoom (f : ExposureParams → ExposureParams) : (onParams f s).zoom = s.zoom := rfl
@[simp] theorem onParams_focus (f : ExposureParams → ExposureParams) : (onParams f s).focus = s.focus := rfl
@[simp] theorem onParams_steady (f : ExposureParams → ExposureParams) : (onParams f s).steady = s.steady := rfl
@[simp] theorem onParams_capture (f : ExposureParams → ExposureParams) : (onParams f s).capture = s.capture := rfl
@[simp] theorem onParams_command (f : ExposureParams → ExposureParams) : (onParams f s).command = s.command := rfl
@[simp] theorem onParams_report (f : ExposureParams → ExposureParams) : (onParams f s).report = s.report := rfl
@[simp] theorem onParams_pending (f : ExposureParams → ExposureParams) : (onParams f s).pending = s.pending := rfl

/-! ## A motor's record -/

@[simp] theorem LensDrive.motor_setMotor (l : LensDrive) (m : Motor) (r : MotorRecord) :
    (l.setMotor m r).motor m = r := by cases m <;> rfl

theorem LensDrive.motor_setMotor_ne (l : LensDrive) {m m' : Motor} (r : MotorRecord) (h : m' ≠ m) :
    (l.setMotor m r).motor m' = l.motor m' := by cases m <;> cases m' <;> first | rfl | exact absurd rfl h

@[simp] theorem LensDrive.setMotor_frame (l : LensDrive) (m : Motor) (r : MotorRecord) :
    (l.setMotor m r).mode = l.mode ∧ (l.setMotor m r).stack = l.stack ∧ (l.setMotor m r).current = l.current ∧
    (l.setMotor m r).segment = l.segment ∧ (l.setMotor m r).awaiting = l.awaiting ∧
    (l.setMotor m r).zoomBlocked = l.zoomBlocked ∧ (l.setMotor m r).focusBlocked = l.focusBlocked ∧
    (l.setMotor m r).lastFocusEnd = l.lastFocusEnd ∧ (l.setMotor m r).settleMark = l.settleMark ∧
    (l.setMotor m r).arbitration = l.arbitration ∧ (l.setMotor m r).settleTime = l.settleTime ∧
    (l.setMotor m r).homing = l.homing ∧ (l.setMotor m r).draining = l.draining ∧
    (l.setMotor m r).heldEvents = l.heldEvents ∧ (l.setMotor m r).fromZoom = l.fromZoom ∧
    (l.setMotor m r).fromFocus = l.fromFocus ∧ (l.setMotor m r).fromExposure = l.fromExposure := by
  cases m <;> simp [LensDrive.setMotor]

end Sys2Proof.Machine
end

