-- ==== Sys2Proof/Laws/Frames.lean ====
section
/-!
SUPPORT. The frame of every shared operation: the blocks it leaves as they were.
-/
namespace Sys2Proof.Machine
variable (s : State)

/-! ## Ops -/

@[simp] theorem raiseFault_frame (c : FaultCause) (a : Nat) :
    (raiseFault c a s).link = s.link ∧ (raiseFault c a s).slots = s.slots ∧ (raiseFault c a s).stats = s.stats ∧
    (raiseFault c a s).exposure = s.exposure ∧ (raiseFault c a s).lens = s.lens ∧ (raiseFault c a s).zoom = s.zoom ∧
    (raiseFault c a s).focus = s.focus ∧ (raiseFault c a s).steady = s.steady ∧
    (raiseFault c a s).capture = s.capture ∧ (raiseFault c a s).command = s.command ∧
    (raiseFault c a s).pending = s.pending := by
  simp only [raiseFault]; (repeat' split) <;> simp
@[simp] theorem giveReport_frame (r : Report) :
    (giveReport r s).link = s.link ∧ (giveReport r s).slots = s.slots ∧ (giveReport r s).stats = s.stats ∧
    (giveReport r s).exposure = s.exposure ∧ (giveReport r s).lens = s.lens ∧ (giveReport r s).zoom = s.zoom ∧
    (giveReport r s).focus = s.focus ∧ (giveReport r s).steady = s.steady ∧ (giveReport r s).capture = s.capture ∧
    (giveReport r s).command = s.command ∧ (giveReport r s).pending = s.pending := by
  simp only [giveReport]; (repeat' split) <;> simp
@[simp] theorem enterReads_frame :
    (enterReads s).slots = s.slots ∧ (enterReads s).stats = s.stats ∧ (enterReads s).exposure = s.exposure ∧
    (enterReads s).lens = s.lens ∧ (enterReads s).zoom = s.zoom ∧ (enterReads s).focus = s.focus ∧
    (enterReads s).steady = s.steady ∧ (enterReads s).capture = s.capture ∧ (enterReads s).report = s.report ∧
    (enterReads s).pending = s.pending := by
  simp only [enterReads]; (repeat' split) <;> simp
@[simp] theorem noteImages_frame (b : State) :
    (noteImages b s).link = s.link ∧ (noteImages b s).stats = s.stats ∧ (noteImages b s).exposure = s.exposure ∧
    (noteImages b s).lens = s.lens ∧ (noteImages b s).zoom = s.zoom ∧ (noteImages b s).focus = s.focus ∧
    (noteImages b s).steady = s.steady ∧ (noteImages b s).capture = s.capture ∧
    (noteImages b s).command = s.command ∧ (noteImages b s).report = s.report ∧ (noteImages b s).pending = s.pending := by
  simp only [noteImages]; (repeat' split) <;> simp
@[simp] theorem noteStatus_frame (b : State) :
    (noteStatus b s).link = s.link ∧ (noteStatus b s).slots = s.slots ∧ (noteStatus b s).stats = s.stats ∧
    (noteStatus b s).exposure = s.exposure ∧ (noteStatus b s).lens = s.lens ∧ (noteStatus b s).zoom = s.zoom ∧
    (noteStatus b s).focus = s.focus ∧ (noteStatus b s).steady = s.steady ∧ (noteStatus b s).capture = s.capture ∧
    (noteStatus b s).command = s.command ∧ (noteStatus b s).pending = s.pending := by
  simp only [noteStatus]; (repeat' split) <;> simp
@[simp] theorem settle_frame (b : State) :
    (settle b s).stats = s.stats ∧ (settle b s).exposure = s.exposure ∧ (settle b s).lens = s.lens ∧
    (settle b s).zoom = s.zoom ∧ (settle b s).focus = s.focus ∧ (settle b s).steady = s.steady ∧
    (settle b s).capture = s.capture ∧ (settle b s).pending = s.pending := by
  simp only [settle]; (repeat' split) <;> simp
@[simp] theorem complete_frame (st : Status) (v : Int) :
    (complete st v s).link = s.link ∧ (complete st v s).slots = s.slots ∧ (complete st v s).stats = s.stats ∧
    (complete st v s).exposure = s.exposure ∧ (complete st v s).lens = s.lens ∧ (complete st v s).zoom = s.zoom ∧
    (complete st v s).focus = s.focus ∧ (complete st v s).steady = s.steady ∧
    (complete st v s).capture = s.capture ∧ (complete st v s).pending = s.pending := by
  simp only [complete]; (repeat' split) <;> simp
@[simp] theorem completeDone_frame :
    (completeDone s).link = s.link ∧ (completeDone s).slots = s.slots ∧ (completeDone s).stats = s.stats ∧
    (completeDone s).exposure = s.exposure ∧ (completeDone s).lens = s.lens ∧ (completeDone s).zoom = s.zoom ∧
    (completeDone s).focus = s.focus ∧ (completeDone s).steady = s.steady ∧ (completeDone s).capture = s.capture ∧
    (completeDone s).pending = s.pending := by
  simp only [completeDone]; (repeat' split) <;> simp
@[simp] theorem refuse_frame (st : Status) :
    (refuse st s).link = s.link ∧ (refuse st s).slots = s.slots ∧ (refuse st s).stats = s.stats ∧
    (refuse st s).exposure = s.exposure ∧ (refuse st s).lens = s.lens ∧ (refuse st s).zoom = s.zoom ∧
    (refuse st s).focus = s.focus ∧ (refuse st s).steady = s.steady ∧ (refuse st s).capture = s.capture ∧
    (refuse st s).pending = s.pending := by
  simp only [refuse]; (repeat' split) <;> simp
@[simp] theorem supplyFields_frame (n : BitVec 32) (f : FrameRecord → FrameRecord) :
    (supplyFields n f s).link = s.link ∧ (supplyFields n f s).stats = s.stats ∧
    (supplyFields n f s).exposure = s.exposure ∧ (supplyFields n f s).lens = s.lens ∧
    (supplyFields n f s).zoom = s.zoom ∧ (supplyFields n f s).focus = s.focus ∧
    (supplyFields n f s).steady = s.steady ∧ (supplyFields n f s).capture = s.capture ∧
    (supplyFields n f s).command = s.command ∧ (supplyFields n f s).report = s.report ∧
    (supplyFields n f s).pending = s.pending := by
  simp only [supplyFields]; (repeat' split) <;> simp

/-! ## Statistics -/

@[simp] theorem handRecord_frame (r : StatRecord) :
    (handRecord r s).link = s.link ∧ (handRecord r s).stats = s.stats ∧ (handRecord r s).lens = s.lens ∧
    (handRecord r s).zoom = s.zoom ∧ (handRecord r s).capture = s.capture ∧ (handRecord r s).command = s.command ∧
    (handRecord r s).report = s.report ∧ (handRecord r s).pending = s.pending := by
  simp only [handRecord]; (repeat' split) <;> simp
@[simp] theorem statisticsWork_frame (m : Measurement) :
    (statisticsWork m s).link = s.link ∧ (statisticsWork m s).lens = s.lens ∧ (statisticsWork m s).zoom = s.zoom ∧
    (statisticsWork m s).capture = s.capture ∧ (statisticsWork m s).command = s.command ∧
    (statisticsWork m s).report = s.report ∧ (statisticsWork m s).pending = s.pending := by
  simp only [statisticsWork]; (repeat' split) <;> simp
@[simp] theorem setStatisticsWork_frame (p : StatParams) :
    (setStatisticsWork p s).link = s.link ∧ (setStatisticsWork p s).slots = s.slots ∧
    (setStatisticsWork p s).exposure = s.exposure ∧ (setStatisticsWork p s).lens = s.lens ∧
    (setStatisticsWork p s).zoom = s.zoom ∧ (setStatisticsWork p s).focus = s.focus ∧
    (setStatisticsWork p s).steady = s.steady ∧ (setStatisticsWork p s).capture = s.capture ∧
    (setStatisticsWork p s).pending = s.pending := by
  simp only [setStatisticsWork]; (repeat' split) <;> simp

/-! ## Lens -/

@[simp] theorem tellZoom_frame (n : ZoomNotice) :
    (tellZoom n s).link = s.link ∧ (tellZoom n s).slots = s.slots ∧ (tellZoom n s).stats = s.stats ∧
    (tellZoom n s).exposure = s.exposure ∧ (tellZoom n s).lens = s.lens ∧ (tellZoom n s).focus = s.focus ∧
    (tellZoom n s).steady = s.steady ∧ (tellZoom n s).capture = s.capture ∧ (tellZoom n s).command = s.command ∧
    (tellZoom n s).report = s.report ∧ (tellZoom n s).pending = s.pending := by
  simp only [tellZoom]; (repeat' split) <;> simp
@[simp] theorem tellFocus_frame (n : FocusLensNotice) :
    (tellFocus n s).link = s.link ∧ (tellFocus n s).slots = s.slots ∧ (tellFocus n s).stats = s.stats ∧
    (tellFocus n s).exposure = s.exposure ∧ (tellFocus n s).lens = s.lens ∧ (tellFocus n s).zoom = s.zoom ∧
    (tellFocus n s).steady = s.steady ∧ (tellFocus n s).capture = s.capture ∧ (tellFocus n s).command = s.command ∧
    (tellFocus n s).report = s.report ∧ (tellFocus n s).pending = s.pending := by
  simp only [tellFocus]; (repeat' split) <;> simp
@[simp] theorem tellFocusMode_frame (m : LensMode) :
    (tellFocusMode m s).link = s.link ∧ (tellFocusMode m s).slots = s.slots ∧ (tellFocusMode m s).stats = s.stats ∧
    (tellFocusMode m s).exposure = s.exposure ∧ (tellFocusMode m s).lens = s.lens ∧
    (tellFocusMode m s).zoom = s.zoom ∧ (tellFocusMode m s).steady = s.steady ∧
    (tellFocusMode m s).capture = s.capture ∧ (tellFocusMode m s).command = s.command ∧
    (tellFocusMode m s).report = s.report ∧ (tellFocusMode m s).pending = s.pending := by
  simp only [tellFocusMode]; (repeat' split) <;> simp
@[simp] theorem tellIrisReached_frame (p : Nat) :
    (tellIrisReached p s).link = s.link ∧ (tellIrisReached p s).slots = s.slots ∧
    (tellIrisReached p s).stats = s.stats ∧ (tellIrisReached p s).lens = s.lens ∧
    (tellIrisReached p s).zoom = s.zoom ∧ (tellIrisReached p s).focus = s.focus ∧
    (tellIrisReached p s).steady = s.steady ∧ (tellIrisReached p s).capture = s.capture ∧
    (tellIrisReached p s).command = s.command ∧ (tellIrisReached p s).report = s.report ∧
    (tellIrisReached p s).pending = s.pending := by
  simp only [tellIrisReached]; (repeat' split) <;> simp
@[simp] theorem changeLens_frame (m : LensMode) :
    (changeLens m s).link = s.link ∧ (changeLens m s).slots = s.slots ∧ (changeLens m s).stats = s.stats ∧
    (changeLens m s).exposure = s.exposure ∧ (changeLens m s).steady = s.steady ∧
    (changeLens m s).capture = s.capture ∧ (changeLens m s).command = s.command ∧
    (changeLens m s).report = s.report ∧ (changeLens m s).pending = s.pending := by
  simp only [changeLens]; (repeat' split) <;> simp
@[simp] theorem giveLensEvent_frame (e : LensEvent) :
    (giveLensEvent e s).link = s.link ∧ (giveLensEvent e s).slots = s.slots ∧ (giveLensEvent e s).stats = s.stats ∧
    (giveLensEvent e s).exposure = s.exposure ∧ (giveLensEvent e s).zoom = s.zoom ∧
    (giveLensEvent e s).focus = s.focus ∧ (giveLensEvent e s).steady = s.steady ∧
    (giveLensEvent e s).capture = s.capture ∧ (giveLensEvent e s).command = s.command ∧
    (giveLensEvent e s).pending = s.pending := by
  simp only [giveLensEvent]; (repeat' split) <;> simp
@[simp] theorem setMotorState_frame (m : Motor) (st : MotorState) :
    (setMotorState m st s).link = s.link ∧ (setMotorState m st s).slots = s.slots ∧
    (setMotorState m st s).stats = s.stats ∧ (setMotorState m st s).exposure = s.exposure ∧
    (setMotorState m st s).focus = s.focus ∧ (setMotorState m st s).steady = s.steady ∧
    (setMotorState m st s).capture = s.capture ∧ (setMotorState m st s).command = s.command ∧
    (setMotorState m st s).report = s.report ∧ (setMotorState m st s).pending = s.pending := by
  simp only [setMotorState]; (repeat' split) <;> simp
@[simp] theorem noticeEnd_frame (m : Motor) (r : Bool) :
    (noticeEnd m r s).link = s.link ∧ (noticeEnd m r s).slots = s.slots ∧ (noticeEnd m r s).stats = s.stats ∧
    (noticeEnd m r s).lens = s.lens ∧ (noticeEnd m r s).steady = s.steady ∧ (noticeEnd m r s).capture = s.capture ∧
    (noticeEnd m r s).command = s.command ∧ (noticeEnd m r s).report = s.report ∧
    (noticeEnd m r s).pending = s.pending := by
  simp only [noticeEnd]; (repeat' split) <;> simp
@[simp] theorem endMove_frame (m : Motor) (r : Bool) :
    (endMove m r s).link = s.link ∧ (endMove m r s).slots = s.slots ∧ (endMove m r s).stats = s.stats ∧
    (endMove m r s).steady = s.steady ∧ (endMove m r s).capture = s.capture ∧ (endMove m r s).command = s.command ∧
    (endMove m r s).report = s.report ∧ (endMove m r s).pending = s.pending := by
  simp only [endMove]; (repeat' split) <;> simp
/-- DROPPED goes to no owner of an IRIS move (R69, R77). -/
@[simp] theorem noticeEnd_dropped (m : Motor) : (noticeEnd m false s).exposure = s.exposure := by
  simp only [noticeEnd]; (repeat' split) <;> simp_all

@[simp] theorem endMove_dropped (m : Motor) : (endMove m false s).exposure = s.exposure := by
  simp [endMove]

@[simp] theorem sendSegment_frame (m : Motor) (up : Bool) (n : Nat) :
    (sendSegment m up n s).link = s.link ∧ (sendSegment m up n s).slots = s.slots ∧
    (sendSegment m up n s).stats = s.stats ∧ (sendSegment m up n s).exposure = s.exposure ∧
    (sendSegment m up n s).zoom = s.zoom ∧ (sendSegment m up n s).focus = s.focus ∧
    (sendSegment m up n s).steady = s.steady ∧ (sendSegment m up n s).capture = s.capture ∧
    (sendSegment m up n s).command = s.command ∧ (sendSegment m up n s).report = s.report ∧
    (sendSegment m up n s).pending = s.pending := by
  simp only [sendSegment]; (repeat' split) <;> simp
@[simp] theorem sendMoveSegment_frame (m : Motor) :
    (sendMoveSegment m s).link = s.link ∧ (sendMoveSegment m s).slots = s.slots ∧
    (sendMoveSegment m s).stats = s.stats ∧ (sendMoveSegment m s).exposure = s.exposure ∧
    (sendMoveSegment m s).zoom = s.zoom ∧ (sendMoveSegment m s).focus = s.focus ∧
    (sendMoveSegment m s).steady = s.steady ∧ (sendMoveSegment m s).capture = s.capture ∧
    (sendMoveSegment m s).command = s.command ∧ (sendMoveSegment m s).report = s.report ∧
    (sendMoveSegment m s).pending = s.pending := by
  simp only [sendMoveSegment]; (repeat' split) <;> simp
@[simp] theorem popStack_frame (e : StackEntry) (l : List StackEntry) :
    (popStack e l s).link = s.link ∧ (popStack e l s).slots = s.slots ∧ (popStack e l s).stats = s.stats ∧
    (popStack e l s).exposure = s.exposure ∧ (popStack e l s).zoom = s.zoom ∧ (popStack e l s).focus = s.focus ∧
    (popStack e l s).steady = s.steady ∧ (popStack e l s).capture = s.capture ∧
    (popStack e l s).command = s.command ∧ (popStack e l s).report = s.report ∧ (popStack e l s).pending = s.pending := by
  simp only [popStack]; (repeat' split) <;> simp
/-- Starting a move changes the Lens Drive and what it tells the controllers. -/
@[simp] theorem startMove_frame (m : Motor) :
    (startMove m s).1.link = s.link ∧ (startMove m s).1.slots = s.slots ∧ (startMove m s).1.stats = s.stats ∧
    (startMove m s).1.steady = s.steady ∧
    (startMove m s).1.capture = s.capture ∧ (startMove m s).1.command = s.command ∧
    (startMove m s).1.report = s.report ∧ (startMove m s).1.pending = s.pending := by
  simp only [startMove]; split <;> simp

@[simp] theorem chooseNext_frame (fuel : Nat) :
    (chooseNext fuel s).link = s.link ∧ (chooseNext fuel s).slots = s.slots ∧ (chooseNext fuel s).stats = s.stats ∧
    (chooseNext fuel s).steady = s.steady ∧
    (chooseNext fuel s).capture = s.capture ∧ (chooseNext fuel s).command = s.command ∧
    (chooseNext fuel s).report = s.report ∧ (chooseNext fuel s).pending = s.pending := by
  induction fuel generalizing s with
  | zero => simp [chooseNext]
  | succ n ih => simp only [chooseNext]; (repeat' split) <;> simp [ih]

@[simp] theorem pushCurrent_frame (m : Motor) :
    (pushCurrent m s).link = s.link ∧ (pushCurrent m s).slots = s.slots ∧ (pushCurrent m s).stats = s.stats ∧
    (pushCurrent m s).exposure = s.exposure ∧ (pushCurrent m s).focus = s.focus ∧
    (pushCurrent m s).steady = s.steady ∧ (pushCurrent m s).capture = s.capture ∧
    (pushCurrent m s).command = s.command ∧ (pushCurrent m s).report = s.report ∧
    (pushCurrent m s).pending = s.pending := by
  simp only [pushCurrent]; (repeat' split) <;> simp
@[simp] theorem grant_frame :
    (grant s).link = s.link ∧ (grant s).slots = s.slots ∧ (grant s).stats = s.stats ∧ (grant s).steady = s.steady ∧
    (grant s).capture = s.capture ∧ (grant s).command = s.command ∧ (grant s).report = s.report ∧
    (grant s).pending = s.pending := by
  simp only [grant]; (repeat' split) <;> simp
@[simp] theorem dropMove_frame (m : Motor) :
    (dropMove m s).link = s.link ∧ (dropMove m s).slots = s.slots ∧ (dropMove m s).stats = s.stats ∧
    (dropMove m s).exposure = s.exposure ∧ (dropMove m s).steady = s.steady ∧ (dropMove m s).capture = s.capture ∧
    (dropMove m s).command = s.command ∧ (dropMove m s).report = s.report ∧ (dropMove m s).pending = s.pending := by
  simp only [dropMove]; (repeat' split) <;> simp
@[simp] theorem dropAllMoves_frame :
    (dropAllMoves s).link = s.link ∧ (dropAllMoves s).slots = s.slots ∧ (dropAllMoves s).stats = s.stats ∧
    (dropAllMoves s).exposure = s.exposure ∧ (dropAllMoves s).steady = s.steady ∧
    (dropAllMoves s).capture = s.capture ∧ (dropAllMoves s).command = s.command ∧
    (dropAllMoves s).report = s.report ∧ (dropAllMoves s).pending = s.pending := by
  simp only [dropAllMoves]; (repeat' split) <;> simp
@[simp] theorem failLens_frame (m : Motor) (c : LensFaultCause) :
    (failLens m c s).link = s.link ∧ (failLens m c s).slots = s.slots ∧ (failLens m c s).stats = s.stats ∧
    (failLens m c s).exposure = s.exposure ∧ (failLens m c s).steady = s.steady ∧
    (failLens m c s).capture = s.capture ∧ (failLens m c s).command = s.command ∧
    (failLens m c s).pending = s.pending := by
  simp only [failLens]; (repeat' split) <;> simp
@[simp] theorem noteFocusEnd_frame (g : Segment) (now : Nat) :
    (noteFocusEnd g now s).link = s.link ∧ (noteFocusEnd g now s).slots = s.slots ∧
    (noteFocusEnd g now s).stats = s.stats ∧ (noteFocusEnd g now s).exposure = s.exposure ∧
    (noteFocusEnd g now s).zoom = s.zoom ∧ (noteFocusEnd g now s).focus = s.focus ∧
    (noteFocusEnd g now s).steady = s.steady ∧ (noteFocusEnd g now s).capture = s.capture ∧
    (noteFocusEnd g now s).command = s.command ∧ (noteFocusEnd g now s).report = s.report ∧
    (noteFocusEnd g now s).pending = s.pending := by
  simp only [noteFocusEnd]; (repeat' split) <;> simp
@[simp] theorem sendSeek_frame (m : Motor) (up : Bool) (n : Nat) :
    (sendSeek m up n s).link = s.link ∧ (sendSeek m up n s).slots = s.slots ∧ (sendSeek m up n s).stats = s.stats ∧
    (sendSeek m up n s).exposure = s.exposure ∧ (sendSeek m up n s).zoom = s.zoom ∧
    (sendSeek m up n s).focus = s.focus ∧ (sendSeek m up n s).steady = s.steady ∧
    (sendSeek m up n s).capture = s.capture ∧ (sendSeek m up n s).command = s.command ∧
    (sendSeek m up n s).report = s.report ∧ (sendSeek m up n s).pending = s.pending := by
  simp only [sendSeek]; (repeat' split) <;> simp
@[simp] theorem startSeek_frame (m : Motor) :
    (startSeek m s).link = s.link ∧ (startSeek m s).slots = s.slots ∧ (startSeek m s).stats = s.stats ∧
    (startSeek m s).exposure = s.exposure ∧ (startSeek m s).zoom = s.zoom ∧ (startSeek m s).focus = s.focus ∧
    (startSeek m s).steady = s.steady ∧ (startSeek m s).capture = s.capture ∧ (startSeek m s).command = s.command ∧
    (startSeek m s).report = s.report ∧ (startSeek m s).pending = s.pending := by
  simp only [startSeek]; (repeat' split) <;> simp
@[simp] theorem setPosition_frame (m : Motor) (p : Nat) :
    (setPosition m p s).link = s.link ∧ (setPosition m p s).slots = s.slots ∧ (setPosition m p s).stats = s.stats ∧
    (setPosition m p s).exposure = s.exposure ∧ (setPosition m p s).zoom = s.zoom ∧
    (setPosition m p s).focus = s.focus ∧ (setPosition m p s).steady = s.steady ∧
    (setPosition m p s).capture = s.capture ∧ (setPosition m p s).command = s.command ∧
    (setPosition m p s).report = s.report ∧ (setPosition m p s).pending = s.pending := by
  simp only [setPosition]; (repeat' split) <;> simp
@[simp] theorem endHoming_frame :
    (endHoming s).link = s.link ∧ (endHoming s).slots = s.slots ∧ (endHoming s).stats = s.stats ∧
    (endHoming s).exposure = s.exposure ∧ (endHoming s).steady = s.steady ∧ (endHoming s).capture = s.capture ∧
    (endHoming s).command = s.command ∧ (endHoming s).pending = s.pending := by
  simp only [endHoming]; (repeat' split) <;> simp
@[simp] theorem homingDone_frame (g : Segment) (t : Nat) :
    (homingDone g t s).link = s.link ∧ (homingDone g t s).slots = s.slots ∧ (homingDone g t s).stats = s.stats ∧
    (homingDone g t s).exposure = s.exposure ∧ (homingDone g t s).steady = s.steady ∧
    (homingDone g t s).capture = s.capture ∧ (homingDone g t s).command = s.command ∧
    (homingDone g t s).pending = s.pending := by
  simp only [homingDone]; (repeat' split) <;> simp
@[simp] theorem parkNext_frame :
    (parkNext s).link = s.link ∧ (parkNext s).slots = s.slots ∧ (parkNext s).stats = s.stats ∧
    (parkNext s).exposure = s.exposure ∧ (parkNext s).steady = s.steady ∧ (parkNext s).capture = s.capture ∧
    (parkNext s).command = s.command ∧ (parkNext s).pending = s.pending := by
  simp only [parkNext]; (repeat' split) <;> simp
@[simp] theorem segmentMoved_frame (g : Segment) (t : Nat) :
    (segmentMoved g t s).link = s.link ∧ (segmentMoved g t s).slots = s.slots ∧
    (segmentMoved g t s).stats = s.stats ∧ (segmentMoved g t s).exposure = s.exposure ∧
    (segmentMoved g t s).steady = s.steady ∧ (segmentMoved g t s).capture = s.capture ∧
    (segmentMoved g t s).command = s.command ∧ (segmentMoved g t s).pending = s.pending := by
  simp only [segmentMoved]; (repeat' split) <;> simp
@[simp] theorem endDrain_frame :
    (endDrain s).link = s.link ∧ (endDrain s).slots = s.slots ∧ (endDrain s).stats = s.stats ∧
    (endDrain s).exposure = s.exposure ∧ (endDrain s).steady = s.steady ∧ (endDrain s).capture = s.capture ∧
    (endDrain s).command = s.command ∧ (endDrain s).report = s.report ∧ (endDrain s).pending = s.pending := by
  simp only [endDrain]; (repeat' split) <;> simp
@[simp] theorem dropWaiting_frame (m : Motor) :
    (dropWaiting m s).link = s.link ∧ (dropWaiting m s).slots = s.slots ∧ (dropWaiting m s).stats = s.stats ∧
    (dropWaiting m s).exposure = s.exposure ∧ (dropWaiting m s).steady = s.steady ∧
    (dropWaiting m s).capture = s.capture ∧ (dropWaiting m s).command = s.command ∧
    (dropWaiting m s).report = s.report ∧ (dropWaiting m s).pending = s.pending := by
  simp only [dropWaiting]; (repeat' split) <;> simp
@[simp] theorem dropWaitingMoves_frame :
    (dropWaitingMoves s).link = s.link ∧ (dropWaitingMoves s).slots = s.slots ∧
    (dropWaitingMoves s).stats = s.stats ∧ (dropWaitingMoves s).exposure = s.exposure ∧
    (dropWaitingMoves s).steady = s.steady ∧ (dropWaitingMoves s).capture = s.capture ∧
    (dropWaitingMoves s).command = s.command ∧ (dropWaitingMoves s).report = s.report ∧
    (dropWaitingMoves s).pending = s.pending := by
  simp only [dropWaitingMoves]; (repeat' split) <;> simp
@[simp] theorem startParking_frame :
    (startParking s).link = s.link ∧ (startParking s).slots = s.slots ∧ (startParking s).stats = s.stats ∧
    (startParking s).exposure = s.exposure ∧ (startParking s).steady = s.steady ∧
    (startParking s).capture = s.capture ∧ (startParking s).command = s.command ∧
    (startParking s).pending = s.pending := by
  simp only [startParking]; (repeat' split) <;> simp
@[simp] theorem handOver_frame :
    (handOver s).link = s.link ∧ (handOver s).slots = s.slots ∧ (handOver s).stats = s.stats ∧
    (handOver s).exposure = s.exposure ∧ (handOver s).steady = s.steady ∧ (handOver s).capture = s.capture ∧
    (handOver s).command = s.command ∧ (handOver s).report = s.report ∧ (handOver s).pending = s.pending := by
  simp [handOver]
@[simp] theorem drainDone_frame (g : Segment) :
    (drainDone g s).link = s.link ∧ (drainDone g s).slots = s.slots ∧ (drainDone g s).stats = s.stats ∧
    (drainDone g s).exposure = s.exposure ∧ (drainDone g s).steady = s.steady ∧ (drainDone g s).capture = s.capture ∧
    (drainDone g s).command = s.command ∧ (drainDone g s).report = s.report ∧ (drainDone g s).pending = s.pending := by
  simp only [drainDone]; (repeat' split) <;> simp
@[simp] theorem segmentDone_frame (g : Segment) (z f : Bool) (t now : Nat) :
    (segmentDone g z f t now s).link = s.link ∧ (segmentDone g z f t now s).slots = s.slots ∧
    (segmentDone g z f t now s).stats = s.stats ∧ (segmentDone g z f t now s).steady = s.steady ∧
    (segmentDone g z f t now s).capture = s.capture ∧ (segmentDone g z f t now s).command = s.command ∧
    (segmentDone g z f t now s).pending = s.pending := by
  simp only [segmentDone]; (repeat' split) <;> simp
@[simp] theorem softResetLens_frame :
    (softResetLens s).link = s.link ∧ (softResetLens s).slots = s.slots ∧ (softResetLens s).stats = s.stats ∧
    (softResetLens s).exposure = s.exposure ∧ (softResetLens s).steady = s.steady ∧
    (softResetLens s).capture = s.capture ∧ (softResetLens s).command = s.command ∧
    (softResetLens s).report = s.report ∧ (softResetLens s).pending = s.pending := by
  simp only [softResetLens]; (repeat' split) <;> simp
@[simp] theorem homeLensWork_frame :
    (homeLensWork s).link = s.link ∧ (homeLensWork s).slots = s.slots ∧ (homeLensWork s).stats = s.stats ∧
    (homeLensWork s).exposure = s.exposure ∧ (homeLensWork s).steady = s.steady ∧
    (homeLensWork s).capture = s.capture ∧ (homeLensWork s).pending = s.pending := by
  simp only [homeLensWork]; (repeat' split) <;> simp
@[simp] theorem parkLensWork_frame :
    (parkLensWork s).link = s.link ∧ (parkLensWork s).slots = s.slots ∧ (parkLensWork s).stats = s.stats ∧
    (parkLensWork s).exposure = s.exposure ∧ (parkLensWork s).steady = s.steady ∧
    (parkLensWork s).capture = s.capture ∧ (parkLensWork s).pending = s.pending := by
  simp only [parkLensWork]; (repeat' split) <;> simp
@[simp] theorem setLensDriveWork_frame (a b c d e f g h : Nat) :
    (setLensDriveWork a b c d e f g h s).link = s.link ∧ (setLensDriveWork a b c d e f g h s).slots = s.slots ∧
    (setLensDriveWork a b c d e f g h s).stats = s.stats ∧
    (setLensDriveWork a b c d e f g h s).exposure = s.exposure ∧
    (setLensDriveWork a b c d e f g h s).zoom = s.zoom ∧ (setLensDriveWork a b c d e f g h s).focus = s.focus ∧
    (setLensDriveWork a b c d e f g h s).steady = s.steady ∧
    (setLensDriveWork a b c d e f g h s).capture = s.capture ∧
    (setLensDriveWork a b c d e f g h s).pending = s.pending := by
  simp only [setLensDriveWork]; (repeat' split) <;> simp

/-! ## Zoom -/

@[simp] theorem zoomAsksLens_frame (m : LensMessage) :
    (zoomAsksLens m s).link = s.link ∧ (zoomAsksLens m s).slots = s.slots ∧ (zoomAsksLens m s).stats = s.stats ∧
    (zoomAsksLens m s).exposure = s.exposure ∧ (zoomAsksLens m s).zoom = s.zoom ∧
    (zoomAsksLens m s).focus = s.focus ∧ (zoomAsksLens m s).steady = s.steady ∧
    (zoomAsksLens m s).capture = s.capture ∧ (zoomAsksLens m s).command = s.command ∧
    (zoomAsksLens m s).report = s.report ∧ (zoomAsksLens m s).pending = s.pending := by
  simp only [zoomAsksLens]; (repeat' split) <;> simp
@[simp] theorem zoomTellsFocus_frame (n : FocusZoomNotice) :
    (zoomTellsFocus n s).link = s.link ∧ (zoomTellsFocus n s).slots = s.slots ∧
    (zoomTellsFocus n s).stats = s.stats ∧ (zoomTellsFocus n s).exposure = s.exposure ∧
    (zoomTellsFocus n s).lens = s.lens ∧ (zoomTellsFocus n s).zoom = s.zoom ∧
    (zoomTellsFocus n s).steady = s.steady ∧ (zoomTellsFocus n s).capture = s.capture ∧
    (zoomTellsFocus n s).command = s.command ∧ (zoomTellsFocus n s).report = s.report ∧
    (zoomTellsFocus n s).pending = s.pending := by
  simp only [zoomTellsFocus]; (repeat' split) <;> simp
@[simp] theorem popZoomNotice_frame :
    (popZoomNotice s).link = s.link ∧ (popZoomNotice s).slots = s.slots ∧ (popZoomNotice s).stats = s.stats ∧
    (popZoomNotice s).exposure = s.exposure ∧ (popZoomNotice s).lens = s.lens ∧ (popZoomNotice s).focus = s.focus ∧
    (popZoomNotice s).steady = s.steady ∧ (popZoomNotice s).capture = s.capture ∧
    (popZoomNotice s).command = s.command ∧ (popZoomNotice s).report = s.report ∧
    (popZoomNotice s).pending = s.pending := by
  simp only [popZoomNotice]; (repeat' split) <;> simp
@[simp] theorem endZoom_frame :
    (endZoom s).link = s.link ∧ (endZoom s).slots = s.slots ∧ (endZoom s).stats = s.stats ∧
    (endZoom s).exposure = s.exposure ∧ (endZoom s).lens = s.lens ∧ (endZoom s).steady = s.steady ∧
    (endZoom s).capture = s.capture ∧ (endZoom s).command = s.command ∧ (endZoom s).report = s.report ∧
    (endZoom s).pending = s.pending := by
  simp only [endZoom]; (repeat' split) <;> simp
@[simp] theorem sendTracking_frame :
    (sendTracking s).link = s.link ∧ (sendTracking s).slots = s.slots ∧ (sendTracking s).stats = s.stats ∧
    (sendTracking s).exposure = s.exposure ∧ (sendTracking s).zoom = s.zoom ∧ (sendTracking s).focus = s.focus ∧
    (sendTracking s).steady = s.steady ∧ (sendTracking s).capture = s.capture ∧
    (sendTracking s).command = s.command ∧ (sendTracking s).report = s.report ∧ (sendTracking s).pending = s.pending := by
  simp only [sendTracking]; (repeat' split) <;> simp
@[simp] theorem handover_frame (z : Nat) :
    (handover z s).link = s.link ∧ (handover z s).slots = s.slots ∧ (handover z s).stats = s.stats ∧
    (handover z s).exposure = s.exposure ∧ (handover z s).focus = s.focus ∧ (handover z s).steady = s.steady ∧
    (handover z s).capture = s.capture ∧ (handover z s).command = s.command ∧ (handover z s).report = s.report ∧
    (handover z s).pending = s.pending := by
  simp only [handover]; (repeat' split) <;> simp
@[simp] theorem zoomStartWork_frame :
    (zoomStartWork s).link = s.link ∧ (zoomStartWork s).slots = s.slots ∧ (zoomStartWork s).stats = s.stats ∧
    (zoomStartWork s).exposure = s.exposure ∧ (zoomStartWork s).lens = s.lens ∧
    (zoomStartWork s).steady = s.steady ∧ (zoomStartWork s).capture = s.capture ∧
    (zoomStartWork s).command = s.command ∧ (zoomStartWork s).report = s.report ∧
    (zoomStartWork s).pending = s.pending := by
  simp only [zoomStartWork]; (repeat' split) <;> simp
@[simp] theorem zoomMoveEndWork_frame (m : Motor) (r : Bool) :
    (zoomMoveEndWork m r s).link = s.link ∧ (zoomMoveEndWork m r s).slots = s.slots ∧
    (zoomMoveEndWork m r s).stats = s.stats ∧ (zoomMoveEndWork m r s).exposure = s.exposure ∧
    (zoomMoveEndWork m r s).lens = s.lens ∧ (zoomMoveEndWork m r s).steady = s.steady ∧
    (zoomMoveEndWork m r s).capture = s.capture ∧ (zoomMoveEndWork m r s).command = s.command ∧
    (zoomMoveEndWork m r s).report = s.report ∧ (zoomMoveEndWork m r s).pending = s.pending := by
  simp only [zoomMoveEndWork]; (repeat' split) <;> simp
@[simp] theorem zoomLensState_frame (m : LensMode) :
    (zoomLensState m s).link = s.link ∧ (zoomLensState m s).slots = s.slots ∧ (zoomLensState m s).stats = s.stats ∧
    (zoomLensState m s).exposure = s.exposure ∧ (zoomLensState m s).lens = s.lens ∧
    (zoomLensState m s).steady = s.steady ∧ (zoomLensState m s).capture = s.capture ∧
    (zoomLensState m s).command = s.command ∧ (zoomLensState m s).report = s.report ∧
    (zoomLensState m s).pending = s.pending := by
  simp only [zoomLensState]; (repeat' split) <;> simp
@[simp] theorem popFraction_frame :
    (popFraction s).link = s.link ∧ (popFraction s).slots = s.slots ∧ (popFraction s).stats = s.stats ∧
    (popFraction s).exposure = s.exposure ∧ (popFraction s).lens = s.lens ∧ (popFraction s).focus = s.focus ∧
    (popFraction s).steady = s.steady ∧ (popFraction s).capture = s.capture ∧ (popFraction s).command = s.command ∧
    (popFraction s).report = s.report ∧ (popFraction s).pending = s.pending := by
  simp only [popFraction]; (repeat' split) <;> simp
@[simp] theorem setSubject_frame (u : Nat) :
    (setSubject u s).link = s.link ∧ (setSubject u s).slots = s.slots ∧ (setSubject u s).stats = s.stats ∧
    (setSubject u s).exposure = s.exposure ∧ (setSubject u s).lens = s.lens ∧ (setSubject u s).focus = s.focus ∧
    (setSubject u s).steady = s.steady ∧ (setSubject u s).capture = s.capture ∧
    (setSubject u s).command = s.command ∧ (setSubject u s).report = s.report ∧ (setSubject u s).pending = s.pending := by
  simp only [setSubject]; (repeat' split) <;> simp
@[simp] theorem commitCam_frame (l : List CamNode) :
    (commitCam l s).link = s.link ∧ (commitCam l s).slots = s.slots ∧ (commitCam l s).stats = s.stats ∧
    (commitCam l s).exposure = s.exposure ∧ (commitCam l s).focus = s.focus ∧ (commitCam l s).steady = s.steady ∧
    (commitCam l s).capture = s.capture ∧ (commitCam l s).command = s.command ∧ (commitCam l s).report = s.report ∧
    (commitCam l s).pending = s.pending := by
  simp only [commitCam]; (repeat' split) <;> simp
@[simp] theorem zoomToWork_frame (z : Nat) :
    (zoomToWork z s).link = s.link ∧ (zoomToWork z s).slots = s.slots ∧ (zoomToWork z s).stats = s.stats ∧
    (zoomToWork z s).exposure = s.exposure ∧ (zoomToWork z s).focus = s.focus ∧ (zoomToWork z s).steady = s.steady ∧
    (zoomToWork z s).capture = s.capture ∧ (zoomToWork z s).pending = s.pending := by
  simp only [zoomToWork]; (repeat' split) <;> simp
@[simp] theorem zoomStopWork_frame :
    (zoomStopWork s).link = s.link ∧ (zoomStopWork s).slots = s.slots ∧ (zoomStopWork s).stats = s.stats ∧
    (zoomStopWork s).exposure = s.exposure ∧ (zoomStopWork s).zoom = s.zoom ∧ (zoomStopWork s).focus = s.focus ∧
    (zoomStopWork s).steady = s.steady ∧ (zoomStopWork s).capture = s.capture ∧ (zoomStopWork s).pending = s.pending := by
  simp only [zoomStopWork]; (repeat' split) <;> simp

/-! ## Focus -/

@[simp] theorem focusAsksLens_frame (m : LensMessage) :
    (focusAsksLens m s).link = s.link ∧ (focusAsksLens m s).slots = s.slots ∧ (focusAsksLens m s).stats = s.stats ∧
    (focusAsksLens m s).exposure = s.exposure ∧ (focusAsksLens m s).zoom = s.zoom ∧
    (focusAsksLens m s).focus = s.focus ∧ (focusAsksLens m s).steady = s.steady ∧
    (focusAsksLens m s).capture = s.capture ∧ (focusAsksLens m s).command = s.command ∧
    (focusAsksLens m s).report = s.report ∧ (focusAsksLens m s).pending = s.pending := by
  simp only [focusAsksLens]; (repeat' split) <;> simp
@[simp] theorem focusAsksZoom_frame (m : FractionMessage) :
    (focusAsksZoom m s).link = s.link ∧ (focusAsksZoom m s).slots = s.slots ∧ (focusAsksZoom m s).stats = s.stats ∧
    (focusAsksZoom m s).exposure = s.exposure ∧ (focusAsksZoom m s).lens = s.lens ∧
    (focusAsksZoom m s).focus = s.focus ∧ (focusAsksZoom m s).steady = s.steady ∧
    (focusAsksZoom m s).capture = s.capture ∧ (focusAsksZoom m s).command = s.command ∧
    (focusAsksZoom m s).report = s.report ∧ (focusAsksZoom m s).pending = s.pending := by
  simp only [focusAsksZoom]; (repeat' split) <;> simp
@[simp] theorem focusAsksExposure_frame (m : ReferenceMessage) :
    (focusAsksExposure m s).link = s.link ∧ (focusAsksExposure m s).slots = s.slots ∧
    (focusAsksExposure m s).stats = s.stats ∧ (focusAsksExposure m s).lens = s.lens ∧
    (focusAsksExposure m s).zoom = s.zoom ∧ (focusAsksExposure m s).focus = s.focus ∧
    (focusAsksExposure m s).steady = s.steady ∧ (focusAsksExposure m s).capture = s.capture ∧
    (focusAsksExposure m s).command = s.command ∧ (focusAsksExposure m s).report = s.report ∧
    (focusAsksExposure m s).pending = s.pending := by
  simp only [focusAsksExposure]; (repeat' split) <;> simp
@[simp] theorem sendFocus_frame (p : Nat) (r : RequestPurpose) :
    (sendFocus p r s).link = s.link ∧ (sendFocus p r s).slots = s.slots ∧ (sendFocus p r s).stats = s.stats ∧
    (sendFocus p r s).exposure = s.exposure ∧ (sendFocus p r s).zoom = s.zoom ∧
    (sendFocus p r s).steady = s.steady ∧ (sendFocus p r s).capture = s.capture ∧
    (sendFocus p r s).command = s.command ∧ (sendFocus p r s).report = s.report ∧
    (sendFocus p r s).pending = s.pending := by
  simp only [sendFocus]; (repeat' split) <;> simp
@[simp] theorem stopOwnMove_frame :
    (stopOwnMove s).link = s.link ∧ (stopOwnMove s).slots = s.slots ∧ (stopOwnMove s).stats = s.stats ∧
    (stopOwnMove s).exposure = s.exposure ∧ (stopOwnMove s).zoom = s.zoom ∧ (stopOwnMove s).steady = s.steady ∧
    (stopOwnMove s).capture = s.capture ∧ (stopOwnMove s).command = s.command ∧ (stopOwnMove s).report = s.report ∧
    (stopOwnMove s).pending = s.pending := by
  simp only [stopOwnMove]; (repeat' split) <;> simp
@[simp] theorem reportFocus_frame (b : SearchState) (n : FocusNote) :
    (reportFocus b n s).link = s.link ∧ (reportFocus b n s).slots = s.slots ∧ (reportFocus b n s).stats = s.stats ∧
    (reportFocus b n s).exposure = s.exposure ∧ (reportFocus b n s).lens = s.lens ∧
    (reportFocus b n s).zoom = s.zoom ∧ (reportFocus b n s).focus = s.focus ∧
    (reportFocus b n s).steady = s.steady ∧ (reportFocus b n s).capture = s.capture ∧
    (reportFocus b n s).command = s.command ∧ (reportFocus b n s).pending = s.pending := by
  simp only [reportFocus]; (repeat' split) <;> simp
@[simp] theorem startSearch_frame (n : FocusNote) :
    (startSearch n s).link = s.link ∧ (startSearch n s).slots = s.slots ∧ (startSearch n s).stats = s.stats ∧
    (startSearch n s).exposure = s.exposure ∧ (startSearch n s).lens = s.lens ∧ (startSearch n s).zoom = s.zoom ∧
    (startSearch n s).steady = s.steady ∧ (startSearch n s).capture = s.capture ∧
    (startSearch n s).command = s.command ∧ (startSearch n s).pending = s.pending := by
  simp only [startSearch]; (repeat' split) <;> simp
@[simp] theorem failSearch_frame (n : FocusNote) :
    (failSearch n s).link = s.link ∧ (failSearch n s).slots = s.slots ∧ (failSearch n s).stats = s.stats ∧
    (failSearch n s).exposure = s.exposure ∧ (failSearch n s).steady = s.steady ∧
    (failSearch n s).capture = s.capture ∧ (failSearch n s).command = s.command ∧
    (failSearch n s).pending = s.pending := by
  simp only [failSearch]; (repeat' split) <;> simp
@[simp] theorem abandonSearch_frame (b : Bool) (n : FocusNote) :
    (abandonSearch b n s).link = s.link ∧ (abandonSearch b n s).slots = s.slots ∧
    (abandonSearch b n s).stats = s.stats ∧ (abandonSearch b n s).exposure = s.exposure ∧
    (abandonSearch b n s).zoom = s.zoom ∧ (abandonSearch b n s).steady = s.steady ∧
    (abandonSearch b n s).capture = s.capture ∧ (abandonSearch b n s).command = s.command ∧
    (abandonSearch b n s).pending = s.pending := by
  simp only [abandonSearch]; (repeat' split) <;> simp
@[simp] theorem enterFine_frame (n : FocusNote) :
    (enterFine n s).link = s.link ∧ (enterFine n s).slots = s.slots ∧ (enterFine n s).stats = s.stats ∧
    (enterFine n s).exposure = s.exposure ∧ (enterFine n s).zoom = s.zoom ∧ (enterFine n s).steady = s.steady ∧
    (enterFine n s).capture = s.capture ∧ (enterFine n s).command = s.command ∧ (enterFine n s).pending = s.pending := by
  simp only [enterFine]; (repeat' split) <;> simp
@[simp] theorem sweepEnded_frame (n : BitVec 32) :
    (sweepEnded n s).link = s.link ∧ (sweepEnded n s).slots = s.slots ∧ (sweepEnded n s).stats = s.stats ∧
    (sweepEnded n s).exposure = s.exposure ∧ (sweepEnded n s).steady = s.steady ∧
    (sweepEnded n s).capture = s.capture ∧ (sweepEnded n s).command = s.command ∧
    (sweepEnded n s).pending = s.pending := by
  simp only [sweepEnded]; (repeat' split) <;> simp
@[simp] theorem coarseSample_frame (p : FocusSample) :
    (coarseSample p s).link = s.link ∧ (coarseSample p s).slots = s.slots ∧ (coarseSample p s).stats = s.stats ∧
    (coarseSample p s).exposure = s.exposure ∧ (coarseSample p s).steady = s.steady ∧
    (coarseSample p s).capture = s.capture ∧ (coarseSample p s).command = s.command ∧
    (coarseSample p s).pending = s.pending := by
  simp only [coarseSample]; (repeat' split) <;> simp
@[simp] theorem enterPeak_frame (n : BitVec 32) :
    (enterPeak n s).link = s.link ∧ (enterPeak n s).slots = s.slots ∧ (enterPeak n s).stats = s.stats ∧
    (enterPeak n s).exposure = s.exposure ∧ (enterPeak n s).zoom = s.zoom ∧ (enterPeak n s).steady = s.steady ∧
    (enterPeak n s).capture = s.capture ∧ (enterPeak n s).command = s.command ∧ (enterPeak n s).pending = s.pending := by
  simp only [enterPeak]; (repeat' split) <;> simp
@[simp] theorem fineSample_frame (p : FocusSample) :
    (fineSample p s).link = s.link ∧ (fineSample p s).slots = s.slots ∧ (fineSample p s).stats = s.stats ∧
    (fineSample p s).exposure = s.exposure ∧ (fineSample p s).zoom = s.zoom ∧ (fineSample p s).steady = s.steady ∧
    (fineSample p s).capture = s.capture ∧ (fineSample p s).command = s.command ∧
    (fineSample p s).pending = s.pending := by
  simp only [fineSample]; (repeat' split) <;> simp
@[simp] theorem lockFocus_frame :
    (lockFocus s).link = s.link ∧ (lockFocus s).slots = s.slots ∧ (lockFocus s).stats = s.stats ∧
    (lockFocus s).exposure = s.exposure ∧ (lockFocus s).lens = s.lens ∧ (lockFocus s).steady = s.steady ∧
    (lockFocus s).capture = s.capture ∧ (lockFocus s).command = s.command ∧ (lockFocus s).pending = s.pending := by
  simp only [lockFocus]; (repeat' split) <;> simp
@[simp] theorem restartSearch_frame (n : FocusNote) :
    (restartSearch n s).link = s.link ∧ (restartSearch n s).slots = s.slots ∧ (restartSearch n s).stats = s.stats ∧
    (restartSearch n s).exposure = s.exposure ∧ (restartSearch n s).lens = s.lens ∧
    (restartSearch n s).zoom = s.zoom ∧ (restartSearch n s).steady = s.steady ∧
    (restartSearch n s).capture = s.capture ∧ (restartSearch n s).command = s.command ∧
    (restartSearch n s).pending = s.pending := by
  simp only [restartSearch]; (repeat' split) <;> simp
@[simp] theorem takeBaseline_frame (p : FocusSample) (r : StatRecord) :
    (takeBaseline p r s).link = s.link ∧ (takeBaseline p r s).slots = s.slots ∧
    (takeBaseline p r s).stats = s.stats ∧ (takeBaseline p r s).lens = s.lens ∧ (takeBaseline p r s).zoom = s.zoom ∧
    (takeBaseline p r s).steady = s.steady ∧ (takeBaseline p r s).capture = s.capture ∧
    (takeBaseline p r s).command = s.command ∧ (takeBaseline p r s).pending = s.pending := by
  simp only [takeBaseline]; (repeat' split) <;> simp
@[simp] theorem monitorSample_frame (p : FocusSample) :
    (monitorSample p s).link = s.link ∧ (monitorSample p s).slots = s.slots ∧ (monitorSample p s).stats = s.stats ∧
    (monitorSample p s).exposure = s.exposure ∧ (monitorSample p s).lens = s.lens ∧
    (monitorSample p s).zoom = s.zoom ∧ (monitorSample p s).steady = s.steady ∧
    (monitorSample p s).capture = s.capture ∧ (monitorSample p s).command = s.command ∧
    (monitorSample p s).pending = s.pending := by
  simp only [monitorSample]; (repeat' split) <;> simp
@[simp] theorem holdingSample_frame (p : FocusSample) (r : StatRecord) :
    (holdingSample p r s).link = s.link ∧ (holdingSample p r s).slots = s.slots ∧
    (holdingSample p r s).stats = s.stats ∧ (holdingSample p r s).lens = s.lens ∧
    (holdingSample p r s).zoom = s.zoom ∧ (holdingSample p r s).steady = s.steady ∧
    (holdingSample p r s).capture = s.capture ∧ (holdingSample p r s).command = s.command ∧
    (holdingSample p r s).pending = s.pending := by
  simp only [holdingSample]; (repeat' split) <;> simp
@[simp] theorem sweepFrame_frame (a : Announcement) (r : StatRecord) :
    (sweepFrame a r s).link = s.link ∧ (sweepFrame a r s).slots = s.slots ∧ (sweepFrame a r s).stats = s.stats ∧
    (sweepFrame a r s).exposure = s.exposure ∧ (sweepFrame a r s).steady = s.steady ∧
    (sweepFrame a r s).capture = s.capture ∧ (sweepFrame a r s).command = s.command ∧
    (sweepFrame a r s).pending = s.pending := by
  simp only [sweepFrame]; (repeat' split) <;> simp
@[simp] theorem countFrame_frame (a : Announcement) (r : StatRecord) :
    (countFrame a r s).link = s.link ∧ (countFrame a r s).slots = s.slots ∧ (countFrame a r s).stats = s.stats ∧
    (countFrame a r s).exposure = s.exposure ∧ (countFrame a r s).steady = s.steady ∧
    (countFrame a r s).capture = s.capture ∧ (countFrame a r s).command = s.command ∧
    (countFrame a r s).pending = s.pending := by
  simp only [countFrame]; (repeat' split) <;> simp
@[simp] theorem focusWork_frame (a : Announcement) (r : StatRecord) :
    (focusWork a r s).link = s.link ∧ (focusWork a r s).slots = s.slots ∧ (focusWork a r s).stats = s.stats ∧
    (focusWork a r s).steady = s.steady ∧ (focusWork a r s).capture = s.capture ∧
    (focusWork a r s).command = s.command ∧ (focusWork a r s).pending = s.pending := by
  simp only [focusWork]; (repeat' split) <;> simp
@[simp] theorem alarmWork_frame (v : Alarm) (n : BitVec 32) :
    (alarmWork v n s).link = s.link ∧ (alarmWork v n s).slots = s.slots ∧ (alarmWork v n s).stats = s.stats ∧
    (alarmWork v n s).exposure = s.exposure ∧ (alarmWork v n s).zoom = s.zoom ∧
    (alarmWork v n s).steady = s.steady ∧ (alarmWork v n s).capture = s.capture ∧
    (alarmWork v n s).command = s.command ∧ (alarmWork v n s).pending = s.pending := by
  simp only [alarmWork]; (repeat' split) <;> simp
@[simp] theorem popFocusExposure_frame :
    (popFocusExposure s).link = s.link ∧ (popFocusExposure s).slots = s.slots ∧
    (popFocusExposure s).stats = s.stats ∧ (popFocusExposure s).exposure = s.exposure ∧
    (popFocusExposure s).lens = s.lens ∧ (popFocusExposure s).zoom = s.zoom ∧
    (popFocusExposure s).steady = s.steady ∧ (popFocusExposure s).capture = s.capture ∧
    (popFocusExposure s).command = s.command ∧ (popFocusExposure s).report = s.report ∧
    (popFocusExposure s).pending = s.pending := by
  simp only [popFocusExposure]; (repeat' split) <;> simp
@[simp] theorem sceneWork_frame (n : BitVec 32) :
    (sceneWork n s).link = s.link ∧ (sceneWork n s).slots = s.slots ∧ (sceneWork n s).stats = s.stats ∧
    (sceneWork n s).exposure = s.exposure ∧ (sceneWork n s).lens = s.lens ∧ (sceneWork n s).zoom = s.zoom ∧
    (sceneWork n s).steady = s.steady ∧ (sceneWork n s).capture = s.capture ∧ (sceneWork n s).command = s.command ∧
    (sceneWork n s).pending = s.pending := by
  simp only [sceneWork]; (repeat' split) <;> simp
@[simp] theorem popFocusLens_frame :
    (popFocusLens s).link = s.link ∧ (popFocusLens s).slots = s.slots ∧ (popFocusLens s).stats = s.stats ∧
    (popFocusLens s).exposure = s.exposure ∧ (popFocusLens s).lens = s.lens ∧ (popFocusLens s).zoom = s.zoom ∧
    (popFocusLens s).steady = s.steady ∧ (popFocusLens s).capture = s.capture ∧
    (popFocusLens s).command = s.command ∧ (popFocusLens s).report = s.report ∧ (popFocusLens s).pending = s.pending := by
  simp only [popFocusLens]; (repeat' split) <;> simp
@[simp] theorem focusMoveEndWork_frame (r : Bool) :
    (focusMoveEndWork r s).link = s.link ∧ (focusMoveEndWork r s).slots = s.slots ∧
    (focusMoveEndWork r s).stats = s.stats ∧ (focusMoveEndWork r s).exposure = s.exposure ∧
    (focusMoveEndWork r s).lens = s.lens ∧ (focusMoveEndWork r s).steady = s.steady ∧
    (focusMoveEndWork r s).capture = s.capture ∧ (focusMoveEndWork r s).command = s.command ∧
    (focusMoveEndWork r s).pending = s.pending := by
  simp only [focusMoveEndWork]; (repeat' split) <;> simp
@[simp] theorem lensFaultWork_frame :
    (lensFaultWork s).link = s.link ∧ (lensFaultWork s).slots = s.slots ∧ (lensFaultWork s).stats = s.stats ∧
    (lensFaultWork s).exposure = s.exposure ∧ (lensFaultWork s).lens = s.lens ∧ (lensFaultWork s).zoom = s.zoom ∧
    (lensFaultWork s).steady = s.steady ∧ (lensFaultWork s).capture = s.capture ∧
    (lensFaultWork s).command = s.command ∧ (lensFaultWork s).pending = s.pending := by
  simp only [lensFaultWork]; (repeat' split) <;> simp
@[simp] theorem popFocusZoom_frame :
    (popFocusZoom s).link = s.link ∧ (popFocusZoom s).slots = s.slots ∧ (popFocusZoom s).stats = s.stats ∧
    (popFocusZoom s).exposure = s.exposure ∧ (popFocusZoom s).lens = s.lens ∧ (popFocusZoom s).zoom = s.zoom ∧
    (popFocusZoom s).steady = s.steady ∧ (popFocusZoom s).capture = s.capture ∧
    (popFocusZoom s).command = s.command ∧ (popFocusZoom s).report = s.report ∧ (popFocusZoom s).pending = s.pending := by
  simp only [popFocusZoom]; (repeat' split) <;> simp
@[simp] theorem zoomStartedWork_frame :
    (zoomStartedWork s).link = s.link ∧ (zoomStartedWork s).slots = s.slots ∧ (zoomStartedWork s).stats = s.stats ∧
    (zoomStartedWork s).zoom = s.zoom ∧ (zoomStartedWork s).steady = s.steady ∧
    (zoomStartedWork s).capture = s.capture ∧ (zoomStartedWork s).command = s.command ∧
    (zoomStartedWork s).pending = s.pending := by
  simp only [zoomStartedWork]; (repeat' split) <;> simp
@[simp] theorem zoomStoppedWork_frame :
    (zoomStoppedWork s).link = s.link ∧ (zoomStoppedWork s).slots = s.slots ∧ (zoomStoppedWork s).stats = s.stats ∧
    (zoomStoppedWork s).exposure = s.exposure ∧ (zoomStoppedWork s).lens = s.lens ∧
    (zoomStoppedWork s).zoom = s.zoom ∧ (zoomStoppedWork s).steady = s.steady ∧
    (zoomStoppedWork s).capture = s.capture ∧ (zoomStoppedWork s).command = s.command ∧
    (zoomStoppedWork s).report = s.report ∧ (zoomStoppedWork s).pending = s.pending := by
  simp only [zoomStoppedWork]; (repeat' split) <;> simp
@[simp] theorem startFocusWork_frame :
    (startFocusWork s).link = s.link ∧ (startFocusWork s).slots = s.slots ∧ (startFocusWork s).stats = s.stats ∧
    (startFocusWork s).exposure = s.exposure ∧ (startFocusWork s).lens = s.lens ∧ (startFocusWork s).zoom = s.zoom ∧
    (startFocusWork s).steady = s.steady ∧ (startFocusWork s).capture = s.capture ∧
    (startFocusWork s).pending = s.pending := by
  simp only [startFocusWork]; (repeat' split) <;> simp
@[simp] theorem leaveLock_frame (n : FocusNote) :
    (leaveLock n s).link = s.link ∧ (leaveLock n s).slots = s.slots ∧ (leaveLock n s).stats = s.stats ∧
    (leaveLock n s).lens = s.lens ∧ (leaveLock n s).zoom = s.zoom ∧ (leaveLock n s).steady = s.steady ∧
    (leaveLock n s).capture = s.capture ∧ (leaveLock n s).command = s.command ∧ (leaveLock n s).pending = s.pending := by
  simp only [leaveLock]; (repeat' split) <;> simp
@[simp] theorem cancelFocusWork_frame :
    (cancelFocusWork s).link = s.link ∧ (cancelFocusWork s).slots = s.slots ∧ (cancelFocusWork s).stats = s.stats ∧
    (cancelFocusWork s).zoom = s.zoom ∧ (cancelFocusWork s).steady = s.steady ∧
    (cancelFocusWork s).capture = s.capture ∧ (cancelFocusWork s).pending = s.pending := by
  simp only [cancelFocusWork]; (repeat' split) <;> simp
@[simp] theorem moveFocusWork_frame (p : Nat) :
    (moveFocusWork p s).link = s.link ∧ (moveFocusWork p s).slots = s.slots ∧ (moveFocusWork p s).stats = s.stats ∧
    (moveFocusWork p s).exposure = s.exposure ∧ (moveFocusWork p s).zoom = s.zoom ∧
    (moveFocusWork p s).steady = s.steady ∧ (moveFocusWork p s).capture = s.capture ∧
    (moveFocusWork p s).pending = s.pending := by
  simp only [moveFocusWork]; (repeat' split) <;> simp
@[simp] theorem moveFocusTaken_frame (c : Nat) (b : Bool) :
    (moveFocusTaken c b s).link = s.link ∧ (moveFocusTaken c b s).slots = s.slots ∧
    (moveFocusTaken c b s).stats = s.stats ∧ (moveFocusTaken c b s).lens = s.lens ∧
    (moveFocusTaken c b s).steady = s.steady ∧ (moveFocusTaken c b s).capture = s.capture ∧
    (moveFocusTaken c b s).pending = s.pending := by
  simp only [moveFocusTaken]; (repeat' split) <;> simp
@[simp] theorem applyFocusMode_frame (m : FocusMode) :
    (applyFocusMode m s).link = s.link ∧ (applyFocusMode m s).slots = s.slots ∧
    (applyFocusMode m s).stats = s.stats ∧ (applyFocusMode m s).lens = s.lens ∧ (applyFocusMode m s).zoom = s.zoom ∧
    (applyFocusMode m s).steady = s.steady ∧ (applyFocusMode m s).capture = s.capture ∧
    (applyFocusMode m s).command = s.command ∧ (applyFocusMode m s).pending = s.pending := by
  simp only [applyFocusMode]; (repeat' split) <;> simp
@[simp] theorem leaveViewFocus_frame :
    (leaveViewFocus s).link = s.link ∧ (leaveViewFocus s).slots = s.slots ∧ (leaveViewFocus s).stats = s.stats ∧
    (leaveViewFocus s).zoom = s.zoom ∧ (leaveViewFocus s).steady = s.steady ∧
    (leaveViewFocus s).capture = s.capture ∧ (leaveViewFocus s).command = s.command ∧
    (leaveViewFocus s).pending = s.pending := by
  simp only [leaveViewFocus]; (repeat' split) <;> simp
@[simp] theorem setFocusModeWork_frame (a b c d e : Nat) :
    (setFocusModeWork a b c d e s).link = s.link ∧ (setFocusModeWork a b c d e s).slots = s.slots ∧
    (setFocusModeWork a b c d e s).stats = s.stats ∧ (setFocusModeWork a b c d e s).lens = s.lens ∧
    (setFocusModeWork a b c d e s).zoom = s.zoom ∧ (setFocusModeWork a b c d e s).steady = s.steady ∧
    (setFocusModeWork a b c d e s).capture = s.capture ∧ (setFocusModeWork a b c d e s).pending = s.pending := by
  simp only [setFocusModeWork]; (repeat' split) <;> simp
@[simp] theorem setFocusWindowsWork_frame (w : List FocusWindow) :
    (setFocusWindowsWork w s).link = s.link ∧ (setFocusWindowsWork w s).slots = s.slots ∧
    (setFocusWindowsWork w s).stats = s.stats ∧ (setFocusWindowsWork w s).exposure = s.exposure ∧
    (setFocusWindowsWork w s).lens = s.lens ∧ (setFocusWindowsWork w s).zoom = s.zoom ∧
    (setFocusWindowsWork w s).steady = s.steady ∧ (setFocusWindowsWork w s).capture = s.capture ∧
    (setFocusWindowsWork w s).pending = s.pending := by
  simp only [setFocusWindowsWork]; (repeat' split) <;> simp

/-! ## Steady -/

@[simp] theorem steadyFrame_frame (l : SteadyLatch) (a : Announcement) (r : StatRecord) :
    (steadyFrame l a r s).link = s.link ∧ (steadyFrame l a r s).stats = s.stats ∧
    (steadyFrame l a r s).exposure = s.exposure ∧ (steadyFrame l a r s).lens = s.lens ∧
    (steadyFrame l a r s).zoom = s.zoom ∧ (steadyFrame l a r s).focus = s.focus ∧
    (steadyFrame l a r s).capture = s.capture ∧ (steadyFrame l a r s).command = s.command ∧
    (steadyFrame l a r s).report = s.report ∧ (steadyFrame l a r s).pending = s.pending := by
  simp only [steadyFrame]; (repeat' split) <;> simp
@[simp] theorem steadyWork_frame (l : SteadyLatch) (a : Announcement) (r : StatRecord) :
    (steadyWork l a r s).link = s.link ∧ (steadyWork l a r s).stats = s.stats ∧
    (steadyWork l a r s).exposure = s.exposure ∧ (steadyWork l a r s).lens = s.lens ∧
    (steadyWork l a r s).zoom = s.zoom ∧ (steadyWork l a r s).focus = s.focus ∧
    (steadyWork l a r s).capture = s.capture ∧ (steadyWork l a r s).command = s.command ∧
    (steadyWork l a r s).report = s.report ∧ (steadyWork l a r s).pending = s.pending := by
  simp only [steadyWork]; (repeat' split) <;> simp
@[simp] theorem unpinSlot_frame (n : Nat) :
    (unpinSlot n s).link = s.link ∧ (unpinSlot n s).stats = s.stats ∧ (unpinSlot n s).exposure = s.exposure ∧
    (unpinSlot n s).lens = s.lens ∧ (unpinSlot n s).zoom = s.zoom ∧ (unpinSlot n s).focus = s.focus ∧
    (unpinSlot n s).steady = s.steady ∧ (unpinSlot n s).capture = s.capture ∧ (unpinSlot n s).command = s.command ∧
    (unpinSlot n s).report = s.report ∧ (unpinSlot n s).pending = s.pending := by
  simp only [unpinSlot]; (repeat' split) <;> simp
@[simp] theorem sendPin_frame (m : PinMessage) :
    (sendPin m s).link = s.link ∧ (sendPin m s).stats = s.stats ∧ (sendPin m s).exposure = s.exposure ∧
    (sendPin m s).lens = s.lens ∧ (sendPin m s).zoom = s.zoom ∧ (sendPin m s).focus = s.focus ∧
    (sendPin m s).steady = s.steady ∧ (sendPin m s).capture = s.capture ∧ (sendPin m s).command = s.command ∧
    (sendPin m s).report = s.report ∧ (sendPin m s).pending = s.pending := by
  simp only [sendPin]; (repeat' split) <;> simp
@[simp] theorem closePass_frame :
    (closePass s).link = s.link ∧ (closePass s).stats = s.stats ∧ (closePass s).exposure = s.exposure ∧
    (closePass s).lens = s.lens ∧ (closePass s).zoom = s.zoom ∧ (closePass s).focus = s.focus ∧
    (closePass s).capture = s.capture ∧ (closePass s).command = s.command ∧ (closePass s).report = s.report ∧
    (closePass s).pending = s.pending := by
  simp only [closePass]; (repeat' split) <;> simp
@[simp] theorem openBlank_frame (a : Nat) :
    (openBlank a s).link = s.link ∧ (openBlank a s).slots = s.slots ∧ (openBlank a s).stats = s.stats ∧
    (openBlank a s).exposure = s.exposure ∧ (openBlank a s).lens = s.lens ∧ (openBlank a s).zoom = s.zoom ∧
    (openBlank a s).focus = s.focus ∧ (openBlank a s).capture = s.capture ∧ (openBlank a s).command = s.command ∧
    (openBlank a s).pending = s.pending := by
  simp only [openBlank]; (repeat' split) <;> simp
theorem pinSlot_some {n : Nat} {t : State} (h : pinSlot n s = some t) :
    showable s n = true ∧ t = s.onSlot n (fun e => { e with pins := e.pins + 1 }) := by
  unfold pinSlot at h; split at h <;> simp_all

@[simp] theorem reviewAnswered_frame (n : Nat) :
    (reviewAnswered n (pinSlot n s) s).link = s.link ∧ (reviewAnswered n (pinSlot n s) s).stats = s.stats ∧
    (reviewAnswered n (pinSlot n s) s).exposure = s.exposure ∧ (reviewAnswered n (pinSlot n s) s).lens = s.lens ∧
    (reviewAnswered n (pinSlot n s) s).zoom = s.zoom ∧ (reviewAnswered n (pinSlot n s) s).focus = s.focus ∧
    (reviewAnswered n (pinSlot n s) s).capture = s.capture ∧ (reviewAnswered n (pinSlot n s) s).pending = s.pending := by
  simp only [reviewAnswered]
  split
  · rename_i t h
    obtain ⟨-, rfl⟩ := pinSlot_some s h
    simp [setSource, unpinSource]; split <;> simp [sendPin]
  · simp

@[simp] theorem openChain_frame (a : Nat) :
    (openChain a s).link = s.link ∧ (openChain a s).stats = s.stats ∧ (openChain a s).exposure = s.exposure ∧
    (openChain a s).lens = s.lens ∧ (openChain a s).zoom = s.zoom ∧ (openChain a s).focus = s.focus ∧
    (openChain a s).capture = s.capture ∧ (openChain a s).command = s.command ∧ (openChain a s).pending = s.pending := by
  simp only [openChain]
  split
  · split
    · rename_i t h
      obtain ⟨-, rfl⟩ := pinSlot_some s h
      simp
    · simp
  · simp
@[simp] theorem unpinSource_frame :
    (unpinSource s).link = s.link ∧ (unpinSource s).stats = s.stats ∧ (unpinSource s).exposure = s.exposure ∧
    (unpinSource s).lens = s.lens ∧ (unpinSource s).zoom = s.zoom ∧ (unpinSource s).focus = s.focus ∧
    (unpinSource s).steady = s.steady ∧ (unpinSource s).capture = s.capture ∧ (unpinSource s).command = s.command ∧
    (unpinSource s).report = s.report ∧ (unpinSource s).pending = s.pending := by
  simp only [unpinSource]; (repeat' split) <;> simp
@[simp] theorem setSource_frame (x : Option Nat) :
    (setSource x s).link = s.link ∧ (setSource x s).slots = s.slots ∧ (setSource x s).stats = s.stats ∧
    (setSource x s).exposure = s.exposure ∧ (setSource x s).lens = s.lens ∧ (setSource x s).zoom = s.zoom ∧
    (setSource x s).focus = s.focus ∧ (setSource x s).capture = s.capture ∧ (setSource x s).command = s.command ∧
    (setSource x s).report = s.report ∧ (setSource x s).pending = s.pending := by
  simp only [setSource]; (repeat' split) <;> simp
@[simp] theorem popPin_frame :
    (popPin s).link = s.link ∧ (popPin s).stats = s.stats ∧ (popPin s).exposure = s.exposure ∧
    (popPin s).lens = s.lens ∧ (popPin s).zoom = s.zoom ∧ (popPin s).focus = s.focus ∧
    (popPin s).steady = s.steady ∧ (popPin s).capture = s.capture ∧ (popPin s).command = s.command ∧
    (popPin s).report = s.report ∧ (popPin s).pending = s.pending := by
  simp only [popPin]; (repeat' split) <;> simp
@[simp] theorem takePinMessage_frame (m : PinMessage) :
    (takePinMessage m s).link = s.link ∧ (takePinMessage m s).stats = s.stats ∧
    (takePinMessage m s).exposure = s.exposure ∧ (takePinMessage m s).lens = s.lens ∧
    (takePinMessage m s).zoom = s.zoom ∧ (takePinMessage m s).focus = s.focus ∧
    (takePinMessage m s).capture = s.capture ∧ (takePinMessage m s).pending = s.pending := by
  simp only [takePinMessage]; (repeat' split) <;> simp
@[simp] theorem setViewSourceWork_frame (n : Nat) :
    (setViewSourceWork n s).link = s.link ∧ (setViewSourceWork n s).stats = s.stats ∧
    (setViewSourceWork n s).exposure = s.exposure ∧ (setViewSourceWork n s).lens = s.lens ∧
    (setViewSourceWork n s).zoom = s.zoom ∧ (setViewSourceWork n s).focus = s.focus ∧
    (setViewSourceWork n s).capture = s.capture ∧ (setViewSourceWork n s).pending = s.pending := by
  simp only [setViewSourceWork]; (repeat' split) <;> simp
@[simp] theorem flushPins_frame (n : Nat) :
    (flushPins n s).link = s.link ∧ (flushPins n s).stats = s.stats ∧ (flushPins n s).exposure = s.exposure ∧
    (flushPins n s).lens = s.lens ∧ (flushPins n s).zoom = s.zoom ∧ (flushPins n s).focus = s.focus ∧
    (flushPins n s).capture = s.capture ∧ (flushPins n s).pending = s.pending := by
  induction n generalizing s with
  | zero => simp [flushPins]
  | succ n ih => simp only [flushPins]; split <;> simp [ih]
@[simp] theorem setSteadyWork_frame (e : Bool) (a b c d f : Nat) :
    (setSteadyWork e a b c d f s).link = s.link ∧ (setSteadyWork e a b c d f s).slots = s.slots ∧
    (setSteadyWork e a b c d f s).stats = s.stats ∧ (setSteadyWork e a b c d f s).exposure = s.exposure ∧
    (setSteadyWork e a b c d f s).lens = s.lens ∧ (setSteadyWork e a b c d f s).zoom = s.zoom ∧
    (setSteadyWork e a b c d f s).focus = s.focus ∧ (setSteadyWork e a b c d f s).capture = s.capture ∧
    (setSteadyWork e a b c d f s).pending = s.pending := by
  simp only [setSteadyWork]; (repeat' split) <;> simp
@[simp] theorem recenterSteadyWork_frame :
    (recenterSteadyWork s).link = s.link ∧ (recenterSteadyWork s).slots = s.slots ∧
    (recenterSteadyWork s).stats = s.stats ∧ (recenterSteadyWork s).exposure = s.exposure ∧
    (recenterSteadyWork s).lens = s.lens ∧ (recenterSteadyWork s).zoom = s.zoom ∧
    (recenterSteadyWork s).focus = s.focus ∧ (recenterSteadyWork s).capture = s.capture ∧
    (recenterSteadyWork s).pending = s.pending := by
  simp only [recenterSteadyWork]; (repeat' split) <;> simp
@[simp] theorem softResetSteady_frame :
    (softResetSteady s).link = s.link ∧ (softResetSteady s).stats = s.stats ∧
    (softResetSteady s).exposure = s.exposure ∧ (softResetSteady s).lens = s.lens ∧
    (softResetSteady s).zoom = s.zoom ∧ (softResetSteady s).focus = s.focus ∧
    (softResetSteady s).capture = s.capture ∧ (softResetSteady s).command = s.command ∧
    (softResetSteady s).report = s.report ∧ (softResetSteady s).pending = s.pending := by
  simp only [softResetSteady]; (repeat' split) <;> simp

/-! ## Exposure -/

@[simp] theorem copyHeld_frame :
    (copyHeld s).link = s.link ∧ (copyHeld s).slots = s.slots ∧ (copyHeld s).stats = s.stats ∧
    (copyHeld s).lens = s.lens ∧ (copyHeld s).zoom = s.zoom ∧ (copyHeld s).focus = s.focus ∧
    (copyHeld s).steady = s.steady ∧ (copyHeld s).capture = s.capture ∧ (copyHeld s).command = s.command ∧
    (copyHeld s).report = s.report ∧ (copyHeld s).pending = s.pending := by
  simp only [copyHeld]; (repeat' split) <;> simp
@[simp] theorem latchExposure_frame (n : BitVec 32) :
    (latchExposure n s).link = s.link ∧ (latchExposure n s).slots = s.slots ∧ (latchExposure n s).stats = s.stats ∧
    (latchExposure n s).lens = s.lens ∧ (latchExposure n s).zoom = s.zoom ∧ (latchExposure n s).focus = s.focus ∧
    (latchExposure n s).steady = s.steady ∧ (latchExposure n s).capture = s.capture ∧
    (latchExposure n s).command = s.command ∧ (latchExposure n s).report = s.report ∧
    (latchExposure n s).pending = s.pending := by
  simp only [latchExposure]; (repeat' split) <;> simp
@[simp] theorem tellFocusExposure_frame (n : FocusExposureNotice) :
    (tellFocusExposure n s).link = s.link ∧ (tellFocusExposure n s).slots = s.slots ∧
    (tellFocusExposure n s).stats = s.stats ∧ (tellFocusExposure n s).exposure = s.exposure ∧
    (tellFocusExposure n s).lens = s.lens ∧ (tellFocusExposure n s).zoom = s.zoom ∧
    (tellFocusExposure n s).steady = s.steady ∧ (tellFocusExposure n s).capture = s.capture ∧
    (tellFocusExposure n s).command = s.command ∧ (tellFocusExposure n s).report = s.report ∧
    (tellFocusExposure n s).pending = s.pending := by
  simp only [tellFocusExposure]; (repeat' split) <;> simp
@[simp] theorem updateScene_frame (n : BitVec 32) (y : Nat) :
    (updateScene n y s).link = s.link ∧ (updateScene n y s).slots = s.slots ∧ (updateScene n y s).stats = s.stats ∧
    (updateScene n y s).lens = s.lens ∧ (updateScene n y s).zoom = s.zoom ∧ (updateScene n y s).steady = s.steady ∧
    (updateScene n y s).capture = s.capture ∧ (updateScene n y s).command = s.command ∧
    (updateScene n y s).report = s.report ∧ (updateScene n y s).pending = s.pending := by
  simp only [updateScene]; (repeat' split) <;> simp
@[simp] theorem measuredUpdates_frame (n : BitVec 32) (y : Nat) (rd : Reading) :
    (measuredUpdates n y rd s).link = s.link ∧ (measuredUpdates n y rd s).slots = s.slots ∧
    (measuredUpdates n y rd s).stats = s.stats ∧ (measuredUpdates n y rd s).lens = s.lens ∧
    (measuredUpdates n y rd s).zoom = s.zoom ∧ (measuredUpdates n y rd s).steady = s.steady ∧
    (measuredUpdates n y rd s).capture = s.capture ∧ (measuredUpdates n y rd s).command = s.command ∧
    (measuredUpdates n y rd s).report = s.report ∧ (measuredUpdates n y rd s).pending = s.pending := by
  simp only [measuredUpdates]; (repeat' split) <;> simp
@[simp] theorem issue_frame (e e' : ExposureSet) :
    (issue e e' s).link = s.link ∧ (issue e e' s).slots = s.slots ∧ (issue e e' s).stats = s.stats ∧
    (issue e e' s).zoom = s.zoom ∧ (issue e e' s).focus = s.focus ∧ (issue e e' s).steady = s.steady ∧
    (issue e e' s).capture = s.capture ∧ (issue e e' s).command = s.command ∧ (issue e e' s).report = s.report ∧
    (issue e e' s).pending = s.pending := by
  simp only [issue]; (repeat' split) <;> simp
@[simp] theorem supplyMetering_frame (n : BitVec 32) (r : StatRecord) (rd : Reading) :
    (supplyMetering n r rd s).link = s.link ∧ (supplyMetering n r rd s).stats = s.stats ∧
    (supplyMetering n r rd s).exposure = s.exposure ∧ (supplyMetering n r rd s).lens = s.lens ∧
    (supplyMetering n r rd s).zoom = s.zoom ∧ (supplyMetering n r rd s).focus = s.focus ∧
    (supplyMetering n r rd s).steady = s.steady ∧ (supplyMetering n r rd s).capture = s.capture ∧
    (supplyMetering n r rd s).command = s.command ∧ (supplyMetering n r rd s).report = s.report ∧
    (supplyMetering n r rd s).pending = s.pending := by
  simp only [supplyMetering]; (repeat' split) <;> simp
@[simp] theorem reportIssue_frame (e : ExposureSet) (c : Bool) (m : ExposureMode) (r : StatRecord) (rd : Reading) :
    (reportIssue e c m r rd s).link = s.link ∧ (reportIssue e c m r rd s).slots = s.slots ∧
    (reportIssue e c m r rd s).stats = s.stats ∧ (reportIssue e c m r rd s).lens = s.lens ∧
    (reportIssue e c m r rd s).zoom = s.zoom ∧ (reportIssue e c m r rd s).focus = s.focus ∧
    (reportIssue e c m r rd s).steady = s.steady ∧ (reportIssue e c m r rd s).capture = s.capture ∧
    (reportIssue e c m r rd s).command = s.command ∧ (reportIssue e c m r rd s).pending = s.pending := by
  simp only [reportIssue]; (repeat' split) <;> simp
@[simp] theorem exposureViewWork_frame (l : ExposureLatch) (a : Announcement) (r : StatRecord) :
    (exposureViewWork l a r s).link = s.link ∧ (exposureViewWork l a r s).stats = s.stats ∧
    (exposureViewWork l a r s).zoom = s.zoom ∧ (exposureViewWork l a r s).steady = s.steady ∧
    (exposureViewWork l a r s).capture = s.capture ∧ (exposureViewWork l a r s).command = s.command ∧
    (exposureViewWork l a r s).pending = s.pending := by
  simp only [exposureViewWork]; (repeat' split) <;> simp
@[simp] theorem readStanding_frame :
    (readStanding s).link = s.link ∧ (readStanding s).slots = s.slots ∧ (readStanding s).stats = s.stats ∧
    (readStanding s).lens = s.lens ∧ (readStanding s).zoom = s.zoom ∧ (readStanding s).focus = s.focus ∧
    (readStanding s).steady = s.steady ∧ (readStanding s).capture = s.capture ∧ (readStanding s).command = s.command ∧
    (readStanding s).report = s.report ∧ (readStanding s).pending = s.pending := by
  simp only [readStanding]; (repeat' split) <;> simp

/-- Copying the lens values does not change what a read of them gives (R40, R53). -/
@[simp] theorem copyHeld_lensValues : lensValues (copyHeld s) = lensValues s := by
  simp only [lensValues, copyHeld, lensReady]; split <;> simp_all

/-- Reading the standing set does not change it (R40, R44). -/
theorem readStanding_standingSet (p : ProgramTable) : standingSet p (readStanding s) = standingSet p s := by
  simp only [readStanding]
  split
  · simp only [standingSet, copyHeld_lensValues]; rfl
  · rfl

@[simp] theorem exposureWork_frame (l : ExposureLatch) (a : Announcement) (r : StatRecord) :
    (exposureWork l a r s).link = s.link ∧ (exposureWork l a r s).stats = s.stats ∧
    (exposureWork l a r s).zoom = s.zoom ∧ (exposureWork l a r s).steady = s.steady ∧
    (exposureWork l a r s).capture = s.capture ∧ (exposureWork l a r s).command = s.command ∧
    (exposureWork l a r s).pending = s.pending := by
  simp only [exposureWork]; (repeat' split) <;> simp
@[simp] theorem enterViewExposure_frame :
    (enterViewExposure s).link = s.link ∧ (enterViewExposure s).slots = s.slots ∧
    (enterViewExposure s).stats = s.stats ∧ (enterViewExposure s).lens = s.lens ∧
    (enterViewExposure s).zoom = s.zoom ∧ (enterViewExposure s).focus = s.focus ∧
    (enterViewExposure s).steady = s.steady ∧ (enterViewExposure s).capture = s.capture ∧
    (enterViewExposure s).command = s.command ∧ (enterViewExposure s).report = s.report ∧
    (enterViewExposure s).pending = s.pending := by
  simp only [enterViewExposure]; (repeat' split) <;> simp
@[simp] theorem setMeteringWork_frame (a b c d e f : Nat) :
    (setMeteringWork a b c d e f s).link = s.link ∧ (setMeteringWork a b c d e f s).slots = s.slots ∧
    (setMeteringWork a b c d e f s).stats = s.stats ∧ (setMeteringWork a b c d e f s).lens = s.lens ∧
    (setMeteringWork a b c d e f s).zoom = s.zoom ∧ (setMeteringWork a b c d e f s).focus = s.focus ∧
    (setMeteringWork a b c d e f s).steady = s.steady ∧ (setMeteringWork a b c d e f s).capture = s.capture ∧
    (setMeteringWork a b c d e f s).pending = s.pending := by
  simp only [setMeteringWork]; (repeat' split) <;> simp
@[simp] theorem setExposureModeWork_frame (m : Nat) :
    (setExposureModeWork m s).link = s.link ∧ (setExposureModeWork m s).slots = s.slots ∧
    (setExposureModeWork m s).stats = s.stats ∧ (setExposureModeWork m s).lens = s.lens ∧
    (setExposureModeWork m s).zoom = s.zoom ∧ (setExposureModeWork m s).focus = s.focus ∧
    (setExposureModeWork m s).steady = s.steady ∧ (setExposureModeWork m s).capture = s.capture ∧
    (setExposureModeWork m s).pending = s.pending := by
  simp only [setExposureModeWork]; (repeat' split) <;> simp
@[simp] theorem setCompensationWork_frame (v : Int) :
    (setCompensationWork v s).link = s.link ∧ (setCompensationWork v s).slots = s.slots ∧
    (setCompensationWork v s).stats = s.stats ∧ (setCompensationWork v s).lens = s.lens ∧
    (setCompensationWork v s).zoom = s.zoom ∧ (setCompensationWork v s).focus = s.focus ∧
    (setCompensationWork v s).steady = s.steady ∧ (setCompensationWork v s).capture = s.capture ∧
    (setCompensationWork v s).pending = s.pending := by
  simp only [setCompensationWork]; (repeat' split) <;> simp
@[simp] theorem setManualExposureWork_frame (a : BitVec 32) (b : BitVec 16) (c : BitVec 8) :
    (setManualExposureWork a b c s).link = s.link ∧ (setManualExposureWork a b c s).slots = s.slots ∧
    (setManualExposureWork a b c s).stats = s.stats ∧ (setManualExposureWork a b c s).lens = s.lens ∧
    (setManualExposureWork a b c s).zoom = s.zoom ∧ (setManualExposureWork a b c s).focus = s.focus ∧
    (setManualExposureWork a b c s).steady = s.steady ∧ (setManualExposureWork a b c s).capture = s.capture ∧
    (setManualExposureWork a b c s).pending = s.pending := by
  simp only [setManualExposureWork]; (repeat' split) <;> simp

/-! ## Slots -/

@[simp] theorem answerRequest_frame (a : SlotAnswer) :
    (answerRequest a s).link = s.link ∧ (answerRequest a s).stats = s.stats ∧
    (answerRequest a s).exposure = s.exposure ∧ (answerRequest a s).lens = s.lens ∧
    (answerRequest a s).zoom = s.zoom ∧ (answerRequest a s).focus = s.focus ∧
    (answerRequest a s).steady = s.steady ∧ (answerRequest a s).capture = s.capture ∧
    (answerRequest a s).command = s.command ∧ (answerRequest a s).report = s.report ∧
    (answerRequest a s).pending = s.pending := by
  simp only [answerRequest]; (repeat' split) <;> simp
@[simp] theorem carryOut_frame (r : SlotRequest) (f : Slot → Slot) :
    (carryOut r f s).link = s.link ∧ (carryOut r f s).stats = s.stats ∧ (carryOut r f s).exposure = s.exposure ∧
    (carryOut r f s).lens = s.lens ∧ (carryOut r f s).zoom = s.zoom ∧ (carryOut r f s).focus = s.focus ∧
    (carryOut r f s).steady = s.steady ∧ (carryOut r f s).capture = s.capture ∧
    (carryOut r f s).command = s.command ∧ (carryOut r f s).report = s.report ∧ (carryOut r f s).pending = s.pending := by
  simp only [carryOut]; (repeat' split) <;> simp
@[simp] theorem holdSlot_frame (r : SlotRequest) :
    (holdSlot r s).link = s.link ∧ (holdSlot r s).stats = s.stats ∧ (holdSlot r s).exposure = s.exposure ∧
    (holdSlot r s).lens = s.lens ∧ (holdSlot r s).zoom = s.zoom ∧ (holdSlot r s).focus = s.focus ∧
    (holdSlot r s).steady = s.steady ∧ (holdSlot r s).capture = s.capture ∧ (holdSlot r s).command = s.command ∧
    (holdSlot r s).report = s.report ∧ (holdSlot r s).pending = s.pending := by
  simp only [holdSlot]; (repeat' split) <;> simp
@[simp] theorem unholdSlot_frame (r : SlotRequest) :
    (unholdSlot r s).link = s.link ∧ (unholdSlot r s).stats = s.stats ∧ (unholdSlot r s).exposure = s.exposure ∧
    (unholdSlot r s).lens = s.lens ∧ (unholdSlot r s).zoom = s.zoom ∧ (unholdSlot r s).focus = s.focus ∧
    (unholdSlot r s).steady = s.steady ∧ (unholdSlot r s).capture = s.capture ∧
    (unholdSlot r s).command = s.command ∧ (unholdSlot r s).report = s.report ∧ (unholdSlot r s).pending = s.pending := by
  simp only [unholdSlot]; (repeat' split) <;> simp
@[simp] theorem keepSlot_frame (r : SlotRequest) :
    (keepSlot r s).link = s.link ∧ (keepSlot r s).stats = s.stats ∧ (keepSlot r s).exposure = s.exposure ∧
    (keepSlot r s).lens = s.lens ∧ (keepSlot r s).zoom = s.zoom ∧ (keepSlot r s).focus = s.focus ∧
    (keepSlot r s).steady = s.steady ∧ (keepSlot r s).capture = s.capture ∧ (keepSlot r s).command = s.command ∧
    (keepSlot r s).report = s.report ∧ (keepSlot r s).pending = s.pending := by
  simp only [keepSlot]; (repeat' split) <;> simp
@[simp] theorem releaseSlot_frame (r : SlotRequest) :
    (releaseSlot r s).link = s.link ∧ (releaseSlot r s).stats = s.stats ∧ (releaseSlot r s).exposure = s.exposure ∧
    (releaseSlot r s).lens = s.lens ∧ (releaseSlot r s).zoom = s.zoom ∧ (releaseSlot r s).focus = s.focus ∧
    (releaseSlot r s).steady = s.steady ∧ (releaseSlot r s).capture = s.capture ∧
    (releaseSlot r s).command = s.command ∧ (releaseSlot r s).report = s.report ∧
    (releaseSlot r s).pending = s.pending := by
  simp only [releaseSlot]; (repeat' split) <;> simp
@[simp] theorem startFrame_frame (now : Nat) :
    (startFrame now s).link = s.link ∧ (startFrame now s).zoom = s.zoom ∧ (startFrame now s).focus = s.focus ∧
    (startFrame now s).capture = s.capture ∧ (startFrame now s).command = s.command ∧
    (startFrame now s).report = s.report ∧ (startFrame now s).pending = s.pending := by
  simp only [startFrame]; (repeat' split) <;> simp
@[simp] theorem announce_frame (a : Announcement) :
    (announce a s).link = s.link ∧ (announce a s).slots = s.slots ∧ (announce a s).lens = s.lens ∧
    (announce a s).zoom = s.zoom ∧ (announce a s).command = s.command ∧ (announce a s).pending = s.pending := by
  simp only [announce]; (repeat' split) <;> simp
@[simp] theorem completeFrame_frame (n : BitVec 32) (i : Nat) :
    (completeFrame n i s).link = s.link ∧ (completeFrame n i s).lens = s.lens ∧
    (completeFrame n i s).zoom = s.zoom ∧ (completeFrame n i s).command = s.command ∧
    (completeFrame n i s).pending = s.pending := by
  simp only [completeFrame]; (repeat' split) <;> simp
@[simp] theorem abandonFrame_frame :
    (abandonFrame s).link = s.link ∧ (abandonFrame s).lens = s.lens ∧ (abandonFrame s).zoom = s.zoom ∧
    (abandonFrame s).focus = s.focus ∧ (abandonFrame s).capture = s.capture ∧ (abandonFrame s).command = s.command ∧
    (abandonFrame s).report = s.report ∧ (abandonFrame s).pending = s.pending := by
  simp only [abandonFrame]; (repeat' split) <;> simp
@[simp] theorem sendDown_frame (r : DownRequest) :
    (sendDown r s).slots = s.slots ∧ (sendDown r s).stats = s.stats ∧ (sendDown r s).exposure = s.exposure ∧
    (sendDown r s).lens = s.lens ∧ (sendDown r s).zoom = s.zoom ∧ (sendDown r s).focus = s.focus ∧
    (sendDown r s).steady = s.steady ∧ (sendDown r s).capture = s.capture ∧ (sendDown r s).command = s.command ∧
    (sendDown r s).report = s.report ∧ (sendDown r s).pending = s.pending := by
  simp only [sendDown]; (repeat' split) <;> simp
@[simp] theorem tearFrame_frame (a : Nat) :
    (tearFrame a s).link = s.link ∧ (tearFrame a s).exposure = s.exposure ∧ (tearFrame a s).lens = s.lens ∧
    (tearFrame a s).zoom = s.zoom ∧ (tearFrame a s).focus = s.focus ∧ (tearFrame a s).steady = s.steady ∧
    (tearFrame a s).capture = s.capture ∧ (tearFrame a s).command = s.command ∧ (tearFrame a s).pending = s.pending := by
  simp only [tearFrame]; (repeat' split) <;> simp
@[simp] theorem storeWords_frame (i o : Nat) (d : List LinkWord) :
    (storeWords i o d s).exposure = s.exposure ∧ (storeWords i o d s).lens = s.lens ∧
    (storeWords i o d s).zoom = s.zoom ∧ (storeWords i o d s).focus = s.focus ∧
    (storeWords i o d s).steady = s.steady ∧ (storeWords i o d s).capture = s.capture ∧
    (storeWords i o d s).command = s.command ∧ (storeWords i o d s).report = s.report ∧
    (storeWords i o d s).pending = s.pending := by
  simp only [storeWords]; (repeat' split) <;> simp
@[simp] theorem writeInFrame_frame (n : BitVec 32) (i a o : Nat) (d : List LinkWord) :
    (writeInFrame n i a o d s).lens = s.lens ∧ (writeInFrame n i a o d s).zoom = s.zoom ∧
    (writeInFrame n i a o d s).command = s.command ∧ (writeInFrame n i a o d s).pending = s.pending := by
  simp only [writeInFrame]; (repeat' split) <;> simp
@[simp] theorem captureWrite_frame (now a o : Nat) (d : List LinkWord) :
    (captureWrite now a o d s).zoom = s.zoom ∧ (captureWrite now a o d s).command = s.command ∧
    (captureWrite now a o d s).pending = s.pending := by
  simp only [captureWrite]; (repeat' split) <;> simp
@[simp] theorem softResetSlots_frame :
    (softResetSlots s).link = s.link ∧ (softResetSlots s).lens = s.lens ∧ (softResetSlots s).zoom = s.zoom ∧
    (softResetSlots s).focus = s.focus ∧ (softResetSlots s).capture = s.capture ∧
    (softResetSlots s).command = s.command ∧ (softResetSlots s).report = s.report ∧
    (softResetSlots s).pending = s.pending := by
  simp only [softResetSlots]; (repeat' split) <;> simp

/-! ## Capture -/

@[simp] theorem captureEvent_frame (n : CaptureNote) :
    (captureEvent n s).link = s.link ∧ (captureEvent n s).slots = s.slots ∧ (captureEvent n s).stats = s.stats ∧
    (captureEvent n s).exposure = s.exposure ∧ (captureEvent n s).lens = s.lens ∧ (captureEvent n s).zoom = s.zoom ∧
    (captureEvent n s).focus = s.focus ∧ (captureEvent n s).steady = s.steady ∧
    (captureEvent n s).capture = s.capture ∧ (captureEvent n s).command = s.command ∧
    (captureEvent n s).pending = s.pending := by
  simp only [captureEvent]; (repeat' split) <;> simp
@[simp] theorem evalBufferHigh_frame :
    (evalBufferHigh s).link = s.link ∧ (evalBufferHigh s).slots = s.slots ∧ (evalBufferHigh s).stats = s.stats ∧
    (evalBufferHigh s).exposure = s.exposure ∧ (evalBufferHigh s).lens = s.lens ∧ (evalBufferHigh s).zoom = s.zoom ∧
    (evalBufferHigh s).focus = s.focus ∧ (evalBufferHigh s).steady = s.steady ∧
    (evalBufferHigh s).command = s.command ∧ (evalBufferHigh s).pending = s.pending := by
  simp only [evalBufferHigh]; (repeat' split) <;> simp
@[simp] theorem askSlots_frame (k : SlotRequestKind) (e : HeldEntry) (id : Nat) (x : Int) (w : CaptureWork) :
    (askSlots k e id x w s).link = s.link ∧ (askSlots k e id x w s).stats = s.stats ∧
    (askSlots k e id x w s).exposure = s.exposure ∧ (askSlots k e id x w s).lens = s.lens ∧
    (askSlots k e id x w s).zoom = s.zoom ∧ (askSlots k e id x w s).focus = s.focus ∧
    (askSlots k e id x w s).steady = s.steady ∧ (askSlots k e id x w s).command = s.command ∧
    (askSlots k e id x w s).report = s.report ∧ (askSlots k e id x w s).pending = s.pending := by
  simp only [askSlots]; (repeat' split) <;> simp
@[simp] theorem armed_frame (c : Bool) (b : Nat) :
    (armed c b s).link = s.link ∧ (armed c b s).slots = s.slots ∧ (armed c b s).stats = s.stats ∧
    (armed c b s).exposure = s.exposure ∧ (armed c b s).lens = s.lens ∧ (armed c b s).zoom = s.zoom ∧
    (armed c b s).focus = s.focus ∧ (armed c b s).steady = s.steady ∧ (armed c b s).pending = s.pending := by
  simp only [armed]; (repeat' split) <;> simp
@[simp] theorem armNext_frame (c : Bool) (b : Nat) (l : List HeldEntry) :
    (armNext c b l s).link = s.link ∧ (armNext c b l s).stats = s.stats ∧ (armNext c b l s).exposure = s.exposure ∧
    (armNext c b l s).lens = s.lens ∧ (armNext c b l s).zoom = s.zoom ∧ (armNext c b l s).focus = s.focus ∧
    (armNext c b l s).steady = s.steady ∧ (armNext c b l s).pending = s.pending := by
  simp only [armNext]; (repeat' split) <;> simp
@[simp] theorem startArm_frame (p b : Nat) :
    (startArm p b s).link = s.link ∧ (startArm p b s).stats = s.stats ∧ (startArm p b s).exposure = s.exposure ∧
    (startArm p b s).lens = s.lens ∧ (startArm p b s).zoom = s.zoom ∧ (startArm p b s).focus = s.focus ∧
    (startArm p b s).steady = s.steady ∧ (startArm p b s).pending = s.pending := by
  simp only [startArm]; (repeat' split) <;> simp
@[simp] theorem endCapture_frame (w : EndCause) :
    (endCapture w s).link = s.link ∧ (endCapture w s).slots = s.slots ∧ (endCapture w s).stats = s.stats ∧
    (endCapture w s).exposure = s.exposure ∧ (endCapture w s).lens = s.lens ∧ (endCapture w s).zoom = s.zoom ∧
    (endCapture w s).focus = s.focus ∧ (endCapture w s).steady = s.steady ∧ (endCapture w s).command = s.command ∧
    (endCapture w s).pending = s.pending := by
  simp only [endCapture]; (repeat' split) <;> simp
@[simp] theorem stopNext_frame (w : StopReason) (l : List HeldEntry) :
    (stopNext w l s).link = s.link ∧ (stopNext w l s).stats = s.stats ∧ (stopNext w l s).exposure = s.exposure ∧
    (stopNext w l s).lens = s.lens ∧ (stopNext w l s).zoom = s.zoom ∧ (stopNext w l s).focus = s.focus ∧
    (stopNext w l s).steady = s.steady ∧ (stopNext w l s).pending = s.pending := by
  simp only [stopNext]; (repeat' split) <;> simp
@[simp] theorem startStop_frame (w : StopReason) :
    (startStop w s).link = s.link ∧ (startStop w s).stats = s.stats ∧ (startStop w s).exposure = s.exposure ∧
    (startStop w s).lens = s.lens ∧ (startStop w s).zoom = s.zoom ∧ (startStop w s).focus = s.focus ∧
    (startStop w s).steady = s.steady ∧ (startStop w s).pending = s.pending := by
  simp only [startStop]; (repeat' split) <;> simp
@[simp] theorem startRelease_frame (n : Nat) :
    (startRelease n s).link = s.link ∧ (startRelease n s).stats = s.stats ∧
    (startRelease n s).exposure = s.exposure ∧ (startRelease n s).lens = s.lens ∧ (startRelease n s).zoom = s.zoom ∧
    (startRelease n s).focus = s.focus ∧ (startRelease n s).steady = s.steady ∧
    (startRelease n s).pending = s.pending := by
  simp only [startRelease]; (repeat' split) <;> simp
@[simp] theorem startCommand_frame (c : CaptureCommand) :
    (startCommand c s).link = s.link ∧ (startCommand c s).stats = s.stats ∧
    (startCommand c s).exposure = s.exposure ∧ (startCommand c s).lens = s.lens ∧ (startCommand c s).zoom = s.zoom ∧
    (startCommand c s).focus = s.focus ∧ (startCommand c s).steady = s.steady ∧
    (startCommand c s).pending = s.pending := by
  simp only [startCommand]; (repeat' split) <;> simp
@[simp] theorem takeCommand_frame (c : CaptureCommand) :
    (takeCommand c s).link = s.link ∧ (takeCommand c s).stats = s.stats ∧ (takeCommand c s).exposure = s.exposure ∧
    (takeCommand c s).lens = s.lens ∧ (takeCommand c s).zoom = s.zoom ∧ (takeCommand c s).focus = s.focus ∧
    (takeCommand c s).steady = s.steady ∧ (takeCommand c s).pending = s.pending := by
  simp only [takeCommand]; (repeat' split) <;> simp
@[simp] theorem endWork_frame :
    (endWork s).link = s.link ∧ (endWork s).stats = s.stats ∧ (endWork s).exposure = s.exposure ∧
    (endWork s).lens = s.lens ∧ (endWork s).zoom = s.zoom ∧ (endWork s).focus = s.focus ∧
    (endWork s).steady = s.steady ∧ (endWork s).pending = s.pending := by
  simp only [endWork]; (repeat' split) <;> simp
@[simp] theorem askHold_frame (e : HeldEntry) :
    (askHold e s).link = s.link ∧ (askHold e s).stats = s.stats ∧ (askHold e s).exposure = s.exposure ∧
    (askHold e s).lens = s.lens ∧ (askHold e s).zoom = s.zoom ∧ (askHold e s).focus = s.focus ∧
    (askHold e s).steady = s.steady ∧ (askHold e s).command = s.command ∧ (askHold e s).report = s.report ∧
    (askHold e s).pending = s.pending := by
  simp only [askHold]; (repeat' split) <;> simp
@[simp] theorem armedCompletion_frame (a : Announcement) :
    (armedCompletion a s).link = s.link ∧ (armedCompletion a s).stats = s.stats ∧
    (armedCompletion a s).exposure = s.exposure ∧ (armedCompletion a s).lens = s.lens ∧
    (armedCompletion a s).zoom = s.zoom ∧ (armedCompletion a s).focus = s.focus ∧
    (armedCompletion a s).steady = s.steady ∧ (armedCompletion a s).command = s.command ∧
    (armedCompletion a s).report = s.report ∧ (armedCompletion a s).pending = s.pending := by
  simp only [armedCompletion]; (repeat' split) <;> simp
@[simp] theorem skipFrame_frame (e : HeldEntry) (w : KeepSkip) :
    (skipFrame e w s).link = s.link ∧ (skipFrame e w s).slots = s.slots ∧ (skipFrame e w s).stats = s.stats ∧
    (skipFrame e w s).exposure = s.exposure ∧ (skipFrame e w s).lens = s.lens ∧ (skipFrame e w s).zoom = s.zoom ∧
    (skipFrame e w s).focus = s.focus ∧ (skipFrame e w s).steady = s.steady ∧
    (skipFrame e w s).command = s.command ∧ (skipFrame e w s).pending = s.pending := by
  simp only [skipFrame]; (repeat' split) <;> simp
@[simp] theorem runningCompletion_frame (a : Announcement) :
    (runningCompletion a s).link = s.link ∧ (runningCompletion a s).stats = s.stats ∧
    (runningCompletion a s).exposure = s.exposure ∧ (runningCompletion a s).lens = s.lens ∧
    (runningCompletion a s).zoom = s.zoom ∧ (runningCompletion a s).focus = s.focus ∧
    (runningCompletion a s).steady = s.steady ∧ (runningCompletion a s).command = s.command ∧
    (runningCompletion a s).pending = s.pending := by
  simp only [runningCompletion]; (repeat' split) <;> simp
@[simp] theorem captureCompletion_frame (a : Announcement) :
    (captureCompletion a s).link = s.link ∧ (captureCompletion a s).stats = s.stats ∧
    (captureCompletion a s).exposure = s.exposure ∧ (captureCompletion a s).lens = s.lens ∧
    (captureCompletion a s).zoom = s.zoom ∧ (captureCompletion a s).focus = s.focus ∧
    (captureCompletion a s).steady = s.steady ∧ (captureCompletion a s).command = s.command ∧
    (captureCompletion a s).pending = s.pending := by
  simp only [captureCompletion]; (repeat' split) <;> simp
@[simp] theorem popCapture_frame :
    (popCapture s).link = s.link ∧ (popCapture s).slots = s.slots ∧ (popCapture s).stats = s.stats ∧
    (popCapture s).exposure = s.exposure ∧ (popCapture s).lens = s.lens ∧ (popCapture s).zoom = s.zoom ∧
    (popCapture s).focus = s.focus ∧ (popCapture s).steady = s.steady ∧ (popCapture s).command = s.command ∧
    (popCapture s).report = s.report ∧ (popCapture s).pending = s.pending := by
  simp only [popCapture]; (repeat' split) <;> simp
@[simp] theorem runBurst_frame (k : Nat) :
    (runBurst k s).link = s.link ∧ (runBurst k s).slots = s.slots ∧ (runBurst k s).stats = s.stats ∧
    (runBurst k s).exposure = s.exposure ∧ (runBurst k s).lens = s.lens ∧ (runBurst k s).zoom = s.zoom ∧
    (runBurst k s).focus = s.focus ∧ (runBurst k s).steady = s.steady ∧ (runBurst k s).command = s.command ∧
    (runBurst k s).pending = s.pending := by
  simp only [runBurst]; (repeat' split) <;> simp
@[simp] theorem keepNext_frame (l : List HeldEntry) (i : Int) (k : Nat) :
    (keepNext l i k s).link = s.link ∧ (keepNext l i k s).stats = s.stats ∧
    (keepNext l i k s).exposure = s.exposure ∧ (keepNext l i k s).lens = s.lens ∧ (keepNext l i k s).zoom = s.zoom ∧
    (keepNext l i k s).focus = s.focus ∧ (keepNext l i k s).steady = s.steady ∧
    (keepNext l i k s).pending = s.pending := by
  simp only [keepNext]; (repeat' split) <;> simp
@[simp] theorem armedTrigger_frame :
    (armedTrigger s).link = s.link ∧ (armedTrigger s).stats = s.stats ∧ (armedTrigger s).exposure = s.exposure ∧
    (armedTrigger s).lens = s.lens ∧ (armedTrigger s).zoom = s.zoom ∧ (armedTrigger s).focus = s.focus ∧
    (armedTrigger s).steady = s.steady ∧ (armedTrigger s).pending = s.pending := by
  simp only [armedTrigger]; (repeat' split) <;> simp
@[simp] theorem captureToggle_frame (v : Bool) :
    (captureToggle v s).link = s.link ∧ (captureToggle v s).stats = s.stats ∧
    (captureToggle v s).exposure = s.exposure ∧ (captureToggle v s).lens = s.lens ∧
    (captureToggle v s).zoom = s.zoom ∧ (captureToggle v s).focus = s.focus ∧
    (captureToggle v s).steady = s.steady ∧ (captureToggle v s).pending = s.pending := by
  simp only [captureToggle]; (repeat' split) <;> simp
@[simp] theorem keptEvent_frame (e : HeldEntry) (i : Int) (t : Bool) :
    (keptEvent e i t s).link = s.link ∧ (keptEvent e i t s).slots = s.slots ∧ (keptEvent e i t s).stats = s.stats ∧
    (keptEvent e i t s).exposure = s.exposure ∧ (keptEvent e i t s).lens = s.lens ∧
    (keptEvent e i t s).zoom = s.zoom ∧ (keptEvent e i t s).focus = s.focus ∧
    (keptEvent e i t s).steady = s.steady ∧ (keptEvent e i t s).capture = s.capture ∧
    (keptEvent e i t s).command = s.command ∧ (keptEvent e i t s).pending = s.pending := by
  simp only [keptEvent]; (repeat' split) <;> simp
@[simp] theorem burstKept_frame (e : HeldEntry) (t : Bool) :
    (burstKept e t s).link = s.link ∧ (burstKept e t s).slots = s.slots ∧ (burstKept e t s).stats = s.stats ∧
    (burstKept e t s).exposure = s.exposure ∧ (burstKept e t s).lens = s.lens ∧ (burstKept e t s).zoom = s.zoom ∧
    (burstKept e t s).focus = s.focus ∧ (burstKept e t s).steady = s.steady ∧
    (burstKept e t s).command = s.command ∧ (burstKept e t s).pending = s.pending := by
  simp only [burstKept]; (repeat' split) <;> simp
@[simp] theorem appendHeld_frame (e : HeldEntry) :
    (appendHeld e s).link = s.link ∧ (appendHeld e s).slots = s.slots ∧ (appendHeld e s).stats = s.stats ∧
    (appendHeld e s).exposure = s.exposure ∧ (appendHeld e s).lens = s.lens ∧ (appendHeld e s).zoom = s.zoom ∧
    (appendHeld e s).focus = s.focus ∧ (appendHeld e s).steady = s.steady ∧ (appendHeld e s).command = s.command ∧
    (appendHeld e s).report = s.report ∧ (appendHeld e s).pending = s.pending := by
  simp only [appendHeld]; (repeat' split) <;> simp
@[simp] theorem continueWork_frame (w : CaptureWork) (a : SlotAnswer) :
    (continueWork w a s).link = s.link ∧ (continueWork w a s).stats = s.stats ∧
    (continueWork w a s).exposure = s.exposure ∧ (continueWork w a s).lens = s.lens ∧
    (continueWork w a s).zoom = s.zoom ∧ (continueWork w a s).focus = s.focus ∧
    (continueWork w a s).steady = s.steady ∧ (continueWork w a s).pending = s.pending := by
  simp only [continueWork]; (repeat' split) <;> simp

/-! ## LensRequests -/

@[simp] theorem setTarget_frame (m : Motor) (p : Nat) (r : Requester) :
    (setTarget m p r s).link = s.link ∧ (setTarget m p r s).slots = s.slots ∧ (setTarget m p r s).stats = s.stats ∧
    (setTarget m p r s).exposure = s.exposure ∧ (setTarget m p r s).zoom = s.zoom ∧
    (setTarget m p r s).focus = s.focus ∧ (setTarget m p r s).steady = s.steady ∧
    (setTarget m p r s).capture = s.capture ∧ (setTarget m p r s).command = s.command ∧
    (setTarget m p r s).report = s.report ∧ (setTarget m p r s).pending = s.pending := by
  simp only [setTarget]; (repeat' split) <;> simp
@[simp] theorem setStackTarget_frame (m : Motor) (p : Nat) :
    (setStackTarget m p s).link = s.link ∧ (setStackTarget m p s).slots = s.slots ∧
    (setStackTarget m p s).stats = s.stats ∧ (setStackTarget m p s).exposure = s.exposure ∧
    (setStackTarget m p s).zoom = s.zoom ∧ (setStackTarget m p s).focus = s.focus ∧
    (setStackTarget m p s).steady = s.steady ∧ (setStackTarget m p s).capture = s.capture ∧
    (setStackTarget m p s).command = s.command ∧ (setStackTarget m p s).report = s.report ∧
    (setStackTarget m p s).pending = s.pending := by
  simp only [setStackTarget]; (repeat' split) <;> simp
@[simp] theorem takeTarget_frame (m : Motor) (p : Nat) (r : Requester) :
    (takeTarget m p r s).link = s.link ∧ (takeTarget m p r s).slots = s.slots ∧
    (takeTarget m p r s).stats = s.stats ∧ (takeTarget m p r s).steady = s.steady ∧
    (takeTarget m p r s).capture = s.capture ∧ (takeTarget m p r s).command = s.command ∧
    (takeTarget m p r s).report = s.report ∧ (takeTarget m p r s).pending = s.pending := by
  simp only [takeTarget]; (repeat' split) <;> simp
@[simp] theorem takeStop_frame (m : Motor) :
    (takeStop m s).link = s.link ∧ (takeStop m s).slots = s.slots ∧ (takeStop m s).stats = s.stats ∧
    (takeStop m s).steady = s.steady ∧ (takeStop m s).capture = s.capture ∧ (takeStop m s).command = s.command ∧
    (takeStop m s).report = s.report ∧ (takeStop m s).pending = s.pending := by
  simp only [takeStop]; (repeat' split) <;> simp
@[simp] theorem targetAnswered_frame (r : Requester) (p : Nat) (q : RequestPurpose) (b : Bool) :
    (targetAnswered r p q b s).link = s.link ∧ (targetAnswered r p q b s).slots = s.slots ∧
    (targetAnswered r p q b s).stats = s.stats ∧ (targetAnswered r p q b s).lens = s.lens ∧
    (targetAnswered r p q b s).steady = s.steady ∧ (targetAnswered r p q b s).capture = s.capture ∧
    (targetAnswered r p q b s).pending = s.pending := by
  simp only [targetAnswered]; (repeat' split) <;> simp
@[simp] theorem stopAnswered_frame (q : RequestPurpose) (t : Option Nat) (b : Bool) :
    (stopAnswered q t b s).link = s.link ∧ (stopAnswered q t b s).slots = s.slots ∧
    (stopAnswered q t b s).stats = s.stats ∧ (stopAnswered q t b s).exposure = s.exposure ∧
    (stopAnswered q t b s).lens = s.lens ∧ (stopAnswered q t b s).focus = s.focus ∧
    (stopAnswered q t b s).steady = s.steady ∧ (stopAnswered q t b s).capture = s.capture ∧
    (stopAnswered q t b s).pending = s.pending := by
  simp only [stopAnswered]; (repeat' split) <;> simp
@[simp] theorem targetRequest_frame (r : Requester) (m : Motor) (p : Nat) (q : RequestPurpose) :
    (targetRequest r m p q s).link = s.link ∧ (targetRequest r m p q s).slots = s.slots ∧
    (targetRequest r m p q s).stats = s.stats ∧ (targetRequest r m p q s).steady = s.steady ∧
    (targetRequest r m p q s).capture = s.capture ∧ (targetRequest r m p q s).pending = s.pending := by
  simp only [targetRequest]; (repeat' split) <;> simp
@[simp] theorem stopRequest_frame (m : Motor) (q : RequestPurpose) :
    (stopRequest m q s).link = s.link ∧ (stopRequest m q s).slots = s.slots ∧ (stopRequest m q s).stats = s.stats ∧
    (stopRequest m q s).steady = s.steady ∧ (stopRequest m q s).capture = s.capture ∧
    (stopRequest m q s).pending = s.pending := by
  simp only [stopRequest]; (repeat' split) <;> simp

/-! ## Reports -/

@[simp] theorem pushOwn_frame (o : OwnRequest) :
    (pushOwn o s).slots = s.slots ∧ (pushOwn o s).stats = s.stats ∧ (pushOwn o s).exposure = s.exposure ∧
    (pushOwn o s).lens = s.lens ∧ (pushOwn o s).zoom = s.zoom ∧ (pushOwn o s).focus = s.focus ∧
    (pushOwn o s).steady = s.steady ∧ (pushOwn o s).capture = s.capture ∧ (pushOwn o s).command = s.command ∧
    (pushOwn o s).report = s.report ∧ (pushOwn o s).pending = s.pending := by
  simp only [pushOwn]; (repeat' split) <;> simp
@[simp] theorem writeReport_frame (r : Report) (l : List Report) :
    (writeReport r l s).slots = s.slots ∧ (writeReport r l s).stats = s.stats ∧
    (writeReport r l s).exposure = s.exposure ∧ (writeReport r l s).lens = s.lens ∧
    (writeReport r l s).zoom = s.zoom ∧ (writeReport r l s).focus = s.focus ∧
    (writeReport r l s).steady = s.steady ∧ (writeReport r l s).capture = s.capture ∧
    (writeReport r l s).command = s.command ∧ (writeReport r l s).pending = s.pending := by
  simp only [writeReport]; (repeat' split) <;> simp
@[simp] theorem takeHead_frame (h : BitVec 16) (a : Nat) :
    (takeHead h a s).link = s.link ∧ (takeHead h a s).slots = s.slots ∧ (takeHead h a s).stats = s.stats ∧
    (takeHead h a s).exposure = s.exposure ∧ (takeHead h a s).lens = s.lens ∧ (takeHead h a s).zoom = s.zoom ∧
    (takeHead h a s).focus = s.focus ∧ (takeHead h a s).steady = s.steady ∧ (takeHead h a s).capture = s.capture ∧
    (takeHead h a s).command = s.command ∧ (takeHead h a s).pending = s.pending := by
  simp only [takeHead]; (repeat' split) <;> simp
@[simp] theorem takeMask_frame (m : BitVec 8) :
    (takeMask m s).link = s.link ∧ (takeMask m s).slots = s.slots ∧ (takeMask m s).stats = s.stats ∧
    (takeMask m s).exposure = s.exposure ∧ (takeMask m s).lens = s.lens ∧ (takeMask m s).zoom = s.zoom ∧
    (takeMask m s).focus = s.focus ∧ (takeMask m s).steady = s.steady ∧ (takeMask m s).capture = s.capture ∧
    (takeMask m s).command = s.command ∧ (takeMask m s).pending = s.pending := by
  simp only [takeMask]; (repeat' split) <;> simp

/-! ## Link -/

@[simp] theorem passDelivered_frame (p : Option (BitVec 16)) :
    (passDelivered p s).link = s.link ∧ (passDelivered p s).stats = s.stats ∧
    (passDelivered p s).exposure = s.exposure ∧ (passDelivered p s).lens = s.lens ∧
    (passDelivered p s).zoom = s.zoom ∧ (passDelivered p s).focus = s.focus ∧
    (passDelivered p s).capture = s.capture ∧ (passDelivered p s).command = s.command ∧
    (passDelivered p s).report = s.report ∧ (passDelivered p s).pending = s.pending := by
  simp only [passDelivered]; (repeat' split) <;> simp
@[simp] theorem deliverTag_frame (t : Nat) :
    (deliverTag t s).stats = s.stats ∧ (deliverTag t s).exposure = s.exposure ∧ (deliverTag t s).lens = s.lens ∧
    (deliverTag t s).zoom = s.zoom ∧ (deliverTag t s).focus = s.focus ∧ (deliverTag t s).capture = s.capture ∧
    (deliverTag t s).command = s.command ∧ (deliverTag t s).report = s.report ∧ (deliverTag t s).pending = s.pending := by
  simp only [deliverTag]; (repeat' split) <;> simp
@[simp] theorem onEntry_frame (t : Nat) (f : ReadEntry → ReadEntry) :
    (onEntry t f s).slots = s.slots ∧ (onEntry t f s).stats = s.stats ∧ (onEntry t f s).exposure = s.exposure ∧
    (onEntry t f s).lens = s.lens ∧ (onEntry t f s).zoom = s.zoom ∧ (onEntry t f s).focus = s.focus ∧
    (onEntry t f s).steady = s.steady ∧ (onEntry t f s).capture = s.capture ∧ (onEntry t f s).command = s.command ∧
    (onEntry t f s).report = s.report ∧ (onEntry t f s).pending = s.pending := by
  simp only [onEntry]; (repeat' split) <;> simp
@[simp] theorem addFetch_frame (t a w p k c : Nat) :
    (addFetch t a w p k c s).slots = s.slots ∧ (addFetch t a w p k c s).stats = s.stats ∧
    (addFetch t a w p k c s).exposure = s.exposure ∧ (addFetch t a w p k c s).lens = s.lens ∧
    (addFetch t a w p k c s).zoom = s.zoom ∧ (addFetch t a w p k c s).focus = s.focus ∧
    (addFetch t a w p k c s).steady = s.steady ∧ (addFetch t a w p k c s).capture = s.capture ∧
    (addFetch t a w p k c s).command = s.command ∧ (addFetch t a w p k c s).report = s.report ∧
    (addFetch t a w p k c s).pending = s.pending := by
  simp only [addFetch]; (repeat' split) <;> simp
@[simp] theorem forwardWrite_frame (p : Piece) :
    (forwardWrite p s).slots = s.slots ∧ (forwardWrite p s).stats = s.stats ∧
    (forwardWrite p s).exposure = s.exposure ∧ (forwardWrite p s).lens = s.lens ∧ (forwardWrite p s).zoom = s.zoom ∧
    (forwardWrite p s).focus = s.focus ∧ (forwardWrite p s).steady = s.steady ∧
    (forwardWrite p s).capture = s.capture ∧ (forwardWrite p s).command = s.command ∧
    (forwardWrite p s).report = s.report ∧ (forwardWrite p s).pending = s.pending := by
  simp only [forwardWrite]; (repeat' split) <;> simp
@[simp] theorem takeTail_frame (t : BitVec 16) (a : Nat) :
    (takeTail t a s).link = s.link ∧ (takeTail t a s).slots = s.slots ∧ (takeTail t a s).stats = s.stats ∧
    (takeTail t a s).exposure = s.exposure ∧ (takeTail t a s).lens = s.lens ∧ (takeTail t a s).zoom = s.zoom ∧
    (takeTail t a s).focus = s.focus ∧ (takeTail t a s).steady = s.steady ∧ (takeTail t a s).capture = s.capture ∧
    (takeTail t a s).pending = s.pending := by
  simp only [takeTail]; (repeat' split) <;> simp
@[simp] theorem captureRead_frame (t o : Nat) (p : Piece) :
    (captureRead t o p s).slots = s.slots ∧ (captureRead t o p s).stats = s.stats ∧
    (captureRead t o p s).exposure = s.exposure ∧ (captureRead t o p s).lens = s.lens ∧
    (captureRead t o p s).zoom = s.zoom ∧ (captureRead t o p s).focus = s.focus ∧
    (captureRead t o p s).steady = s.steady ∧ (captureRead t o p s).capture = s.capture ∧
    (captureRead t o p s).command = s.command ∧ (captureRead t o p s).report = s.report ∧
    (captureRead t o p s).pending = s.pending := by
  simp only [captureRead]; (repeat' split) <;> simp
@[simp] theorem fetchRun_frame (t p q n : Nat) :
    (fetchRun t p q n s).slots = s.slots ∧ (fetchRun t p q n s).stats = s.stats ∧
    (fetchRun t p q n s).exposure = s.exposure ∧ (fetchRun t p q n s).lens = s.lens ∧
    (fetchRun t p q n s).zoom = s.zoom ∧ (fetchRun t p q n s).focus = s.focus ∧
    (fetchRun t p q n s).steady = s.steady ∧ (fetchRun t p q n s).capture = s.capture ∧
    (fetchRun t p q n s).command = s.command ∧ (fetchRun t p q n s).report = s.report ∧
    (fetchRun t p q n s).pending = s.pending := by
  simp only [fetchRun]; (repeat' split) <;> simp
@[simp] theorem markViewRead_frame (t o n : Nat) :
    (markViewRead t o n s).slots = s.slots ∧ (markViewRead t o n s).stats = s.stats ∧
    (markViewRead t o n s).exposure = s.exposure ∧ (markViewRead t o n s).lens = s.lens ∧
    (markViewRead t o n s).zoom = s.zoom ∧ (markViewRead t o n s).focus = s.focus ∧
    (markViewRead t o n s).capture = s.capture ∧ (markViewRead t o n s).command = s.command ∧
    (markViewRead t o n s).report = s.report ∧ (markViewRead t o n s).pending = s.pending := by
  simp only [markViewRead]; (repeat' split) <;> simp
theorem foldl_fetchRun_frame (t p : Nat) (l : List (Nat × Nat × Nat)) :
    let u := l.foldl (fun s r => fetchRun t (p + r.1) r.2.1 r.2.2 s) s
    u.slots = s.slots ∧ u.stats = s.stats ∧ u.exposure = s.exposure ∧ u.lens = s.lens ∧ u.zoom = s.zoom ∧
    u.focus = s.focus ∧ u.steady = s.steady ∧ u.capture = s.capture ∧ u.command = s.command ∧ u.report = s.report ∧
    u.pending = s.pending := by
  induction l generalizing s with
  | nil => simp
  | cons r l ih => simpa using ih (fetchRun t (p + r.1) r.2.1 r.2.2 s)

@[simp] theorem readInPass_frame (t p o n : Nat) :
    (readInPass t p o n s).slots = s.slots ∧ (readInPass t p o n s).stats = s.stats ∧
    (readInPass t p o n s).exposure = s.exposure ∧ (readInPass t p o n s).lens = s.lens ∧
    (readInPass t p o n s).zoom = s.zoom ∧ (readInPass t p o n s).focus = s.focus ∧
    (readInPass t p o n s).capture = s.capture ∧ (readInPass t p o n s).command = s.command ∧
    (readInPass t p o n s).report = s.report ∧ (readInPass t p o n s).pending = s.pending := by
  simp only [readInPass]
  split
  · have h := foldl_fetchRun_frame (markViewRead t o n s) t p
      (viewRuns s.steady.pass.geometry o (min n (s.steady.pass.geometry.size - o)))
    simp only [markViewRead_frame] at h
    simp [h]
  · simp
@[simp] theorem passForRead_frame (a o : Nat) :
    (passForRead a o s).link = s.link ∧ (passForRead a o s).stats = s.stats ∧
    (passForRead a o s).exposure = s.exposure ∧ (passForRead a o s).lens = s.lens ∧
    (passForRead a o s).zoom = s.zoom ∧ (passForRead a o s).focus = s.focus ∧
    (passForRead a o s).capture = s.capture ∧ (passForRead a o s).pending = s.pending := by
  simp only [passForRead]; (repeat' split) <;> simp
@[simp] theorem viewRead_frame (t o : Nat) (p : Piece) :
    (viewRead t o p s).stats = s.stats ∧ (viewRead t o p s).exposure = s.exposure ∧
    (viewRead t o p s).lens = s.lens ∧ (viewRead t o p s).zoom = s.zoom ∧ (viewRead t o p s).focus = s.focus ∧
    (viewRead t o p s).capture = s.capture ∧ (viewRead t o p s).pending = s.pending := by
  simp only [viewRead]; (repeat' split) <;> simp
@[simp] theorem handToggle_frame (v : Bool) :
    (handToggle v s).link = s.link ∧ (handToggle v s).slots = s.slots ∧ (handToggle v s).stats = s.stats ∧
    (handToggle v s).exposure = s.exposure ∧ (handToggle v s).lens = s.lens ∧ (handToggle v s).zoom = s.zoom ∧
    (handToggle v s).focus = s.focus ∧ (handToggle v s).steady = s.steady ∧ (handToggle v s).command = s.command ∧
    (handToggle v s).report = s.report ∧ (handToggle v s).pending = s.pending := by
  simp only [handToggle]; (repeat' split) <;> simp
@[simp] theorem plainRead_frame (t : Nat) (p : Piece) :
    (plainRead t p s).slots = s.slots ∧ (plainRead t p s).stats = s.stats ∧
    (plainRead t p s).exposure = s.exposure ∧ (plainRead t p s).lens = s.lens ∧ (plainRead t p s).zoom = s.zoom ∧
    (plainRead t p s).focus = s.focus ∧ (plainRead t p s).steady = s.steady ∧
    (plainRead t p s).capture = s.capture ∧ (plainRead t p s).command = s.command ∧
    (plainRead t p s).report = s.report ∧ (plainRead t p s).pending = s.pending := by
  simp only [plainRead]; (repeat' split) <;> simp
@[simp] theorem capturePieceWrite_frame (now : Nat) (p : Piece) :
    (capturePieceWrite now p s).zoom = s.zoom ∧ (capturePieceWrite now p s).command = s.command ∧
    (capturePieceWrite now p s).pending = s.pending := by
  simp only [capturePieceWrite]; (repeat' split) <;> simp
@[simp] theorem capturePieceRead_frame (t : Nat) (p : Piece) :
    (capturePieceRead t p s).slots = s.slots ∧ (capturePieceRead t p s).stats = s.stats ∧
    (capturePieceRead t p s).exposure = s.exposure ∧ (capturePieceRead t p s).lens = s.lens ∧
    (capturePieceRead t p s).zoom = s.zoom ∧ (capturePieceRead t p s).focus = s.focus ∧
    (capturePieceRead t p s).steady = s.steady ∧ (capturePieceRead t p s).capture = s.capture ∧
    (capturePieceRead t p s).command = s.command ∧ (capturePieceRead t p s).pending = s.pending := by
  simp only [capturePieceRead]; (repeat' split) <;> simp
@[simp] theorem viewPieceRead_frame (t : Nat) (p : Piece) :
    (viewPieceRead t p s).stats = s.stats ∧ (viewPieceRead t p s).exposure = s.exposure ∧
    (viewPieceRead t p s).lens = s.lens ∧ (viewPieceRead t p s).zoom = s.zoom ∧
    (viewPieceRead t p s).focus = s.focus ∧ (viewPieceRead t p s).capture = s.capture ∧
    (viewPieceRead t p s).pending = s.pending := by
  simp only [viewPieceRead]; (repeat' split) <;> simp
@[simp] theorem viewPieceWrite_frame (p : Piece) :
    (viewPieceWrite p s).link = s.link ∧ (viewPieceWrite p s).slots = s.slots ∧
    (viewPieceWrite p s).stats = s.stats ∧ (viewPieceWrite p s).exposure = s.exposure ∧
    (viewPieceWrite p s).lens = s.lens ∧ (viewPieceWrite p s).zoom = s.zoom ∧ (viewPieceWrite p s).focus = s.focus ∧
    (viewPieceWrite p s).steady = s.steady ∧ (viewPieceWrite p s).capture = s.capture ∧
    (viewPieceWrite p s).command = s.command ∧ (viewPieceWrite p s).pending = s.pending := by
  simp only [viewPieceWrite]; (repeat' split) <;> simp
@[simp] theorem popArrival_frame :
    (popArrival s).slots = s.slots ∧ (popArrival s).stats = s.stats ∧ (popArrival s).exposure = s.exposure ∧
    (popArrival s).lens = s.lens ∧ (popArrival s).zoom = s.zoom ∧ (popArrival s).focus = s.focus ∧
    (popArrival s).steady = s.steady ∧ (popArrival s).capture = s.capture ∧ (popArrival s).command = s.command ∧
    (popArrival s).report = s.report ∧ (popArrival s).pending = s.pending := by
  simp only [popArrival]; (repeat' split) <;> simp
theorem handField_frame (a : Nat) (f : BlockField) :
    (handField a s f).link = s.link ∧ (handField a s f).slots = s.slots ∧ (handField a s f).stats = s.stats ∧
    (handField a s f).exposure = s.exposure ∧ (handField a s f).lens = s.lens ∧ (handField a s f).zoom = s.zoom ∧
    (handField a s f).focus = s.focus ∧ (handField a s f).steady = s.steady ∧
    (handField a s f).pending = s.pending := by
  cases f <;> simp [handField]

/-- Handing fields over leaves all but three blocks as they were (R145). -/
theorem foldl_handField_frame (a : Nat) (l : List BlockField) :
    let u := l.foldl (handField a) s
    u.link = s.link ∧ u.slots = s.slots ∧ u.stats = s.stats ∧ u.exposure = s.exposure ∧ u.lens = s.lens ∧
    u.zoom = s.zoom ∧ u.focus = s.focus ∧ u.steady = s.steady ∧ u.pending = s.pending := by
  induction l generalizing s with
  | nil => simp
  | cons f l ih => simpa [handField_frame s a f] using ih (handField a s f)

@[simp] theorem plainWrite_frame (p : Piece) :
    (plainWrite p s).slots = s.slots ∧ (plainWrite p s).stats = s.stats ∧ (plainWrite p s).exposure = s.exposure ∧
    (plainWrite p s).lens = s.lens ∧ (plainWrite p s).zoom = s.zoom ∧ (plainWrite p s).focus = s.focus ∧
    (plainWrite p s).steady = s.steady ∧ (plainWrite p s).pending = s.pending := by
  have h := foldl_handField_frame s (max p.addr (controlBase s)) (blockFields (controlBase s) p)
  simp [plainWrite, h]
theorem writePiece_frame (now : Nat) (p : Piece) :
    (writePiece now s p).zoom = s.zoom ∧ (writePiece now s p).pending = s.pending := by
  simp only [writePiece]; split <;> simp

theorem foldl_writePiece_frame (now : Nat) (l : List Piece) :
    (l.foldl (writePiece now) s).zoom = s.zoom ∧ (l.foldl (writePiece now) s).pending = s.pending := by
  induction l generalizing s with
  | nil => simp
  | cons p l ih => simpa [writePiece_frame s now p] using ih (writePiece now s p)

theorem readPiece_frame (t : Nat) (p : Piece) :
    (readPiece t s p).stats = s.stats ∧ (readPiece t s p).exposure = s.exposure ∧ (readPiece t s p).lens = s.lens ∧
    (readPiece t s p).zoom = s.zoom ∧ (readPiece t s p).focus = s.focus ∧ (readPiece t s p).capture = s.capture ∧
    (readPiece t s p).pending = s.pending := by
  simp only [readPiece]; split <;> simp

/-- A read reaches the slots and the view pass only (R14, R121 to R125). -/
theorem foldl_readPiece_frame (t : Nat) (l : List Piece) :
    let u := l.foldl (readPiece t) s
    u.stats = s.stats ∧ u.exposure = s.exposure ∧ u.lens = s.lens ∧ u.zoom = s.zoom ∧ u.focus = s.focus ∧
    u.capture = s.capture ∧ u.pending = s.pending := by
  induction l generalizing s with
  | nil => simp
  | cons p l ih => simpa [readPiece_frame s t p] using ih (readPiece t s p)

@[simp] theorem takeRequest_frame (now : Nat) (r : HostRequest) :
    (takeRequest now r s).zoom = s.zoom ∧ (takeRequest now r s).pending = s.pending := by
  cases r with
  | read tag a n =>
    have h := foldl_readPiece_frame ((popArrival s).onLink
      (fun l => { l with readMap := l.readMap ++ [readEntry tag.toNat n] })) tag.toNat (requestPieces s (.read tag a n))
    simp [takeRequest, h]
  | write a d =>
    have h := foldl_writePiece_frame (popArrival s) now (requestPieces s (.write a d))
    simp [takeRequest, h]

@[simp] theorem grantOwn_frame :
    (grantOwn s).slots = s.slots ∧ (grantOwn s).stats = s.stats ∧ (grantOwn s).exposure = s.exposure ∧
    (grantOwn s).lens = s.lens ∧ (grantOwn s).zoom = s.zoom ∧ (grantOwn s).focus = s.focus ∧
    (grantOwn s).steady = s.steady ∧ (grantOwn s).capture = s.capture ∧ (grantOwn s).command = s.command ∧
    (grantOwn s).pending = s.pending := by
  simp only [grantOwn]; (repeat' split) <;> simp

/-! ## Commands -/

@[simp] theorem applySize_frame :
    (applySize s).link = s.link ∧ (applySize s).slots = s.slots ∧ (applySize s).exposure = s.exposure ∧
    (applySize s).lens = s.lens ∧ (applySize s).zoom = s.zoom ∧ (applySize s).focus = s.focus ∧
    (applySize s).capture = s.capture ∧ (applySize s).command = s.command ∧ (applySize s).report = s.report ∧
    (applySize s).pending = s.pending := by
  simp only [applySize]; (repeat' split) <;> simp
@[simp] theorem applyLayout_frame (c : FrameConfig) :
    (applyLayout c s).link = s.link ∧ (applyLayout c s).stats = s.stats ∧ (applyLayout c s).exposure = s.exposure ∧
    (applyLayout c s).lens = s.lens ∧ (applyLayout c s).zoom = s.zoom ∧ (applyLayout c s).focus = s.focus ∧
    (applyLayout c s).capture = s.capture ∧ (applyLayout c s).command = s.command ∧
    (applyLayout c s).report = s.report ∧ (applyLayout c s).pending = s.pending := by
  simp only [applyLayout]; (repeat' split) <;> simp
@[simp] theorem configure_frame (c : FrameConfig) :
    (configure c s).link = s.link ∧ (configure c s).exposure = s.exposure ∧ (configure c s).lens = s.lens ∧
    (configure c s).zoom = s.zoom ∧ (configure c s).focus = s.focus ∧ (configure c s).pending = s.pending := by
  simp only [configure]; (repeat' split) <;> simp
@[simp] theorem configureFrameWork_frame (c : FrameConfig) :
    (configureFrameWork c s).link = s.link ∧ (configureFrameWork c s).exposure = s.exposure ∧
    (configureFrameWork c s).lens = s.lens ∧ (configureFrameWork c s).zoom = s.zoom ∧
    (configureFrameWork c s).focus = s.focus ∧ (configureFrameWork c s).pending = s.pending := by
  simp only [configureFrameWork]; (repeat' split) <;> simp
@[simp] theorem enterView_frame :
    (enterView s).link = s.link ∧ (enterView s).slots = s.slots ∧ (enterView s).lens = s.lens ∧
    (enterView s).zoom = s.zoom ∧ (enterView s).focus = s.focus ∧ (enterView s).capture = s.capture ∧
    (enterView s).report = s.report ∧ (enterView s).pending = s.pending := by
  simp only [enterView]; (repeat' split) <;> simp
@[simp] theorem setModeViewWork_frame :
    (setModeViewWork s).link = s.link ∧ (setModeViewWork s).slots = s.slots ∧ (setModeViewWork s).lens = s.lens ∧
    (setModeViewWork s).zoom = s.zoom ∧ (setModeViewWork s).focus = s.focus ∧
    (setModeViewWork s).capture = s.capture ∧ (setModeViewWork s).pending = s.pending := by
  simp only [setModeViewWork]; (repeat' split) <;> simp
@[simp] theorem endLoad_frame (st : Status) :
    (endLoad st s).link = s.link ∧ (endLoad st s).slots = s.slots ∧ (endLoad st s).stats = s.stats ∧
    (endLoad st s).exposure = s.exposure ∧ (endLoad st s).lens = s.lens ∧ (endLoad st s).zoom = s.zoom ∧
    (endLoad st s).focus = s.focus ∧ (endLoad st s).steady = s.steady ∧ (endLoad st s).capture = s.capture ∧
    (endLoad st s).pending = s.pending := by
  simp only [endLoad]; (repeat' split) <;> simp
@[simp] theorem loadTableWork_frame (k : BitVec 8) (a : BitVec 32) :
    (loadTableWork k a s).link = s.link ∧ (loadTableWork k a s).slots = s.slots ∧
    (loadTableWork k a s).stats = s.stats ∧ (loadTableWork k a s).exposure = s.exposure ∧
    (loadTableWork k a s).lens = s.lens ∧ (loadTableWork k a s).zoom = s.zoom ∧
    (loadTableWork k a s).focus = s.focus ∧ (loadTableWork k a s).steady = s.steady ∧
    (loadTableWork k a s).capture = s.capture ∧ (loadTableWork k a s).pending = s.pending := by
  simp only [loadTableWork]; (repeat' split) <;> simp
@[simp] theorem resynchronise_frame :
    (resynchronise s).slots = s.slots ∧ (resynchronise s).stats = s.stats ∧
    (resynchronise s).exposure = s.exposure ∧ (resynchronise s).lens = s.lens ∧ (resynchronise s).zoom = s.zoom ∧
    (resynchronise s).focus = s.focus ∧ (resynchronise s).steady = s.steady ∧
    (resynchronise s).capture = s.capture ∧ (resynchronise s).pending = s.pending := by
  simp only [resynchronise]; (repeat' split) <;> simp
theorem foldl_giveEvents_frame (l : List LensEvent) :
    let u := l.foldl (fun s e => giveReport (.lensEvent e) s) s
    u.link = s.link ∧ u.slots = s.slots ∧ u.stats = s.stats ∧ u.exposure = s.exposure ∧ u.lens = s.lens ∧
    u.zoom = s.zoom ∧ u.focus = s.focus ∧ u.steady = s.steady ∧ u.capture = s.capture ∧ u.command = s.command ∧
    u.pending = s.pending := by
  induction l generalizing s with
  | nil => simp
  | cons e l ih => simpa using ih (giveReport (.lensEvent e) s)

@[simp] theorem giveHeldEvents_frame :
    (giveHeldEvents s).link = s.link ∧ (giveHeldEvents s).slots = s.slots ∧ (giveHeldEvents s).stats = s.stats ∧
    (giveHeldEvents s).exposure = s.exposure ∧ (giveHeldEvents s).zoom = s.zoom ∧
    (giveHeldEvents s).focus = s.focus ∧ (giveHeldEvents s).steady = s.steady ∧
    (giveHeldEvents s).capture = s.capture ∧ (giveHeldEvents s).command = s.command ∧
    (giveHeldEvents s).pending = s.pending := by
  have h := foldl_giveEvents_frame (s.onLens (fun l => { l with heldEvents := [] })) s.lens.heldEvents
  simp only [State.onLens_link, State.onLens_slots, State.onLens_stats, State.onLens_exposure, State.onLens_zoom,
    State.onLens_focus, State.onLens_steady, State.onLens_capture, State.onLens_command, State.onLens_pending] at h
  simp [giveHeldEvents, h]
@[simp] theorem softResetBlocks_frame :
    (softResetBlocks s).link = s.link ∧ (softResetBlocks s).command = s.command ∧
    (softResetBlocks s).report = s.report ∧ (softResetBlocks s).pending = s.pending := by
  simp only [softResetBlocks]; (repeat' split) <;> simp
@[simp] theorem softResetWork_frame :
    (softResetWork s).link = s.link ∧ (softResetWork s).report = s.report ∧ (softResetWork s).pending = s.pending := by
  simp only [softResetWork]; (repeat' split) <;> simp
@[simp] theorem setModeStandbyWork_frame :
    (setModeStandbyWork s).link = s.link ∧ (setModeStandbyWork s).zoom = s.zoom ∧
    (setModeStandbyWork s).pending = s.pending := by
  simp only [setModeStandbyWork]; (repeat' split) <;> simp
@[simp] theorem setModeWork_frame (m : BitVec 8) :
    (setModeWork m s).link = s.link ∧ (setModeWork m s).zoom = s.zoom ∧ (setModeWork m s).pending = s.pending := by
  simp only [setModeWork]; (repeat' split) <;> simp
theorem commitImage_frame {k : TableKind} {b : List Byte} {t : State} (h : commitImage k b s = some t) :
    t.link = s.link ∧ t.slots = s.slots ∧ t.focus = s.focus ∧ t.steady = s.steady ∧ t.capture = s.capture ∧
    t.report = s.report ∧ t.pending = s.pending := by
  cases k <;> simp only [commitImage] at h <;> split at h <;> simp at h <;> subst h <;> simp

@[simp] theorem finishImage_frame (t : Staging) :
    (finishImage t s).link = s.link ∧ (finishImage t s).slots = s.slots ∧ (finishImage t s).focus = s.focus ∧
    (finishImage t s).steady = s.steady ∧ (finishImage t s).capture = s.capture ∧
    (finishImage t s).pending = s.pending := by
  simp only [finishImage]
  split
  · rename_i u _ h
    simp [commitImage_frame s h]
  · simp
@[simp] theorem headerReturned_frame (t : Staging) (h : List Byte) :
    (headerReturned t h s).link = s.link ∧ (headerReturned t h s).slots = s.slots ∧
    (headerReturned t h s).focus = s.focus ∧ (headerReturned t h s).steady = s.steady ∧
    (headerReturned t h s).capture = s.capture ∧ (headerReturned t h s).pending = s.pending := by
  simp only [headerReturned]; (repeat' split) <;> simp
@[simp] theorem restReturned_frame (t : Staging) :
    (restReturned t s).link = s.link ∧ (restReturned t s).slots = s.slots ∧ (restReturned t s).focus = s.focus ∧
    (restReturned t s).steady = s.steady ∧ (restReturned t s).capture = s.capture ∧
    (restReturned t s).pending = s.pending := by
  simp only [restReturned]; (repeat' split) <;> simp
@[simp] theorem failedReturn_frame (t : Staging) (l : List Nat) :
    (failedReturn t l s).link = s.link ∧ (failedReturn t l s).slots = s.slots ∧
    (failedReturn t l s).stats = s.stats ∧ (failedReturn t l s).exposure = s.exposure ∧
    (failedReturn t l s).lens = s.lens ∧ (failedReturn t l s).zoom = s.zoom ∧ (failedReturn t l s).focus = s.focus ∧
    (failedReturn t l s).steady = s.steady ∧ (failedReturn t l s).capture = s.capture ∧
    (failedReturn t l s).pending = s.pending := by
  simp only [failedReturn]; (repeat' split) <;> simp
@[simp] theorem tableReturned_frame (o : Nat) (e : Bool) (d : List LinkWord) (t : Staging) :
    (tableReturned o e d t s).link = s.link ∧ (tableReturned o e d t s).slots = s.slots ∧
    (tableReturned o e d t s).focus = s.focus ∧ (tableReturned o e d t s).steady = s.steady ∧
    (tableReturned o e d t s).capture = s.capture ∧ (tableReturned o e d t s).pending = s.pending := by
  simp only [tableReturned]; (repeat' split) <;> simp

end Sys2Proof.Machine
end

