-- ==== Sys2Proof/Laws/Lists.lean ====
section
/-!
SUPPORT. The list helpers of the model: reading and updating an entry, searching, splicing.
-/
namespace Sys2Proof.Machine
variable {α : Type}

@[simp] theorem updAt_length (f : α → α) (l : List α) (i : Nat) : (updAt f l i).length = l.length := by
  induction l generalizing i with
  | nil => rfl
  | cons a l ih => cases i <;> simp [updAt, ih]

theorem getElem?_updAt (f : α → α) (l : List α) (i j : Nat) :
    (updAt f l i)[j]? = if j = i then (l[j]?).map f else l[j]? := by
  induction l generalizing i j with
  | nil => simp [updAt]
  | cons a l ih => cases i <;> cases j <;> simp [updAt, ih]

theorem getElem?_updAt_self (f : α → α) (l : List α) (i : Nat) : (updAt f l i)[i]? = (l[i]?).map f := by
  simp [getElem?_updAt]

theorem getElem?_updAt_ne (f : α → α) (l : List α) {i j : Nat} (h : j ≠ i) : (updAt f l i)[j]? = l[j]? := by
  simp [getElem?_updAt, h]

theorem getAt_eq (d : α) (l : List α) (i : Nat) : getAt d l i = l[i]?.getD d := by
  induction l generalizing i with
  | nil => simp [getAt]
  | cons a l ih => cases i <;> simp [getAt, ih]

theorem findIndex_some {p : α → Bool} {l : List α} {i j : Nat} (h : findIndex p l i = some j) :
    i ≤ j ∧ ∃ a, l[j - i]? = some a ∧ p a = true := by
  induction l generalizing i with
  | nil => simp [findIndex] at h
  | cons a l ih =>
    simp only [findIndex] at h
    split at h
    · rename_i hp
      cases h
      simp [hp]
    · obtain ⟨hij, b, hb, hp⟩ := ih h
      refine ⟨by omega, b, ?_, hp⟩
      have : j - i = (j - (i + 1)) + 1 := by omega
      rw [this, List.getElem?_cons_succ, hb]

/-- No earlier element satisfies the test. -/
theorem findIndex_least {p : α → Bool} {l : List α} {i j : Nat} (h : findIndex p l i = some j) :
    ∀ a ∈ l.take (j - i), p a = false := by
  induction l generalizing i with
  | nil => simp
  | cons a l ih =>
    simp only [findIndex] at h
    split at h
    · cases h; simp
    · rename_i hp
      have hij := (findIndex_some h).1
      rw [show j - i = (j - (i + 1)) + 1 by omega, List.take_succ_cons]
      intro b hb
      rcases List.mem_cons.mp hb with rfl | hb
      · simpa using hp
      · exact ih h b hb

theorem findIndex_none {p : α → Bool} {l : List α} {i : Nat} (h : findIndex p l i = none) : ∀ a ∈ l, p a = false := by
  induction l generalizing i with
  | nil => simp
  | cons a l ih =>
    simp only [findIndex] at h
    split at h
    · simp at h
    · rename_i hp
      intro b hb
      rcases List.mem_cons.mp hb with rfl | hb
      · simpa using hp
      · exact ih h b hb

theorem mem_indexed {p : α → Bool} {l : List α} {i : Nat} {x : Nat × α} (h : x ∈ indexed p l i) :
    i ≤ x.1 ∧ l[x.1 - i]? = some x.2 ∧ p x.2 = true := by
  induction l generalizing i with
  | nil => simp [indexed] at h
  | cons a l ih =>
    have step : x ∈ indexed p l (i + 1) → i ≤ x.1 ∧ (a :: l)[x.1 - i]? = some x.2 ∧ p x.2 = true := by
      intro hx
      obtain ⟨hi, hget, hp⟩ := ih hx
      have : x.1 - i = (x.1 - (i + 1)) + 1 := by omega
      exact ⟨by omega, by rw [this, List.getElem?_cons_succ, hget], hp⟩
    simp only [indexed] at h
    split at h
    · rename_i hp
      rcases List.mem_cons.mp h with rfl | h
      · simp [hp]
      · exact step h
    · exact step h

@[simp] theorem spliceAt_length (l : List α) (i : Nat) (new : List α) : (spliceAt l i new).length = l.length := by
  simp only [spliceAt, List.length_append, List.length_take, List.length_drop]; omega

/-- A queue that keeps its newest `n` entries never holds more. -/
theorem length_keepNewest (l : List α) (a : α) (n : Nat) : ((l ++ [a]).drop ((l.length + 1) - n)).length ≤ n := by
  simp only [List.length_drop, List.length_append, List.length_singleton]; omega

theorem clampNat_bounds {lo hi : Nat} (h : lo ≤ hi) (x : Nat) : lo ≤ clampNat lo hi x ∧ clampNat lo hi x ≤ hi := by
  unfold clampNat; split <;> (try split) <;> omega

theorem clampInt_bounds {lo hi : Int} (h : lo ≤ hi) (x : Int) : lo ≤ clampInt lo hi x ∧ clampInt lo hi x ≤ hi := by
  unfold clampInt; split <;> (try split) <;> omega

theorem clampInt_of_mem {lo hi x : Int} (h : lo ≤ x) (h' : x ≤ hi) : clampInt lo hi x = x := by
  unfold clampInt; split <;> (try split) <;> omega

end Sys2Proof.Machine
end

