-- ==== Sys2Proof/Laws/Ops.lean ====
section
/-!
SUPPORT. What each shared operation can do, said once: the taking and completing of a host command, the reports given,
the writes a change causes, and the pins.
-/
namespace Sys2Proof.Machine

/-! ## Host commands (R152, R153) -/

theorem takeRecord_of_arrives {s : State} (code tag : BitVec 16) (h : CommandArrives s) :
    takeRecord code tag s = some (executing code tag s) := if_pos h

theorem takeRecord_of_not {s : State} (code tag : BitVec 16) (h : ¬ CommandArrives s) : takeRecord code tag s = none :=
  if_neg h

/-- A host command runs its work on the state with the command in hand. -/
theorem runCommand_of_arrives {s : State} (code tag : BitVec 16) (work : State → State) (h : CommandArrives s) :
    runCommand code tag work s = .next (settle s (work (executing code tag s))) := by
  simp [runCommand, takeRecord_of_arrives code tag h, finishIf, finish]

/-- A host command without a record in flight leaves the part as it is. -/
theorem runCommand_of_not {s : State} (code tag : BitVec 16) (work : State → State) (h : ¬ CommandArrives s) :
    runCommand code tag work s = .next s := by
  simp [runCommand, takeRecord_of_not code tag h, finishIf, notDue]

/-- A completion of the command in hand. -/
theorem complete_executing (code tag : BitVec 16) (st : Status) (v : Int) (s : State) :
    complete st v (executing code tag s) = answered code tag st v s := rfl

theorem refuse_executing (code tag : BitVec 16) (st : Status) (s : State) :
    refuse st (executing code tag s) = answered code tag st 0 s := rfl

theorem completeDone_executing (code tag : BitVec 16) (s : State) :
    completeDone (executing code tag s) = answered code tag .done 0 s := rfl

/-- A completion with a command in hand. -/
theorem complete_of_inHand {s : State} {h : InHand} (hh : s.command.inHand = some h) (st : Status) (v : Int) :
    complete st v s = completedWith h st v s := by simp [complete, completedWith, giveCompletion, hh]

@[simp] theorem executing_inHand (code tag : BitVec 16) (s : State) :
    (executing code tag s).command.inHand = some { code := code, tag := tag } := rfl

/-! ## What a change of state causes (R17, R147, R169) -/

/-- The values the Status Block shows do not depend on the image writes that wait. -/
theorem noteImages_statusFields (b s : State) : statusFields (noteImages b s) = statusFields s := rfl

@[simp] theorem noteImages_slots (b s : State) :
    (noteImages b s).slots.table = s.slots.table ∧ (noteImages b s).slots.seq = s.slots.seq ∧
    (noteImages b s).slots.tracker = s.slots.tracker ∧
    (noteImages b s).slots.captureRequest = s.slots.captureRequest ∧
    (noteImages b s).slots.captureAnswer = s.slots.captureAnswer ∧
    (noteImages b s).slots.pinMessages = s.slots.pinMessages := by
  simp [noteImages]

@[simp] theorem noteImages_imageWaiting (b s : State) :
    (noteImages b s).slots.imageWaiting =
      addWaiting s.slots.imageWaiting (changedSlots b.slots.table s.slots.table 0) := rfl

@[simp] theorem settle_imageWaiting (b s : State) :
    (settle b s).slots.imageWaiting = addWaiting s.slots.imageWaiting (changedSlots b.slots.table s.slots.table 0) := by
  simp [settle, noteStatus, noteImages]

@[simp] theorem settle_slots (b s : State) :
    (settle b s).slots.table = s.slots.table ∧ (settle b s).slots.seq = s.slots.seq ∧
    (settle b s).slots.tracker = s.slots.tracker ∧ (settle b s).slots.captureRequest = s.slots.captureRequest ∧
    (settle b s).slots.captureAnswer = s.slots.captureAnswer ∧ (settle b s).slots.pinMessages = s.slots.pinMessages := by
  simp [settle, noteStatus, noteImages]

@[simp] theorem settle_report (b s : State) :
    (settle b s).report.writeCount = s.report.writeCount ∧ (settle b s).report.headCopy = s.report.headCopy ∧
    (settle b s).report.mask = s.report.mask ∧ (settle b s).report.entries = s.report.entries ∧
    (settle b s).report.highWater = s.report.highWater ∧ (settle b s).report.waiting = s.report.waiting ∧
    (settle b s).report.lost = s.report.lost ∧ (settle b s).report.lostMark = s.report.lostMark ∧
    (settle b s).report.statusQueued = s.report.statusQueued ∧
    (settle b s).report.statusFirst = s.report.statusFirst ∧
    (settle b s).report.attention = s.report.attention := by
  simp [settle, noteStatus, noteImages]

@[simp] theorem settle_statusWaiting (b s : State) :
    (settle b s).report.statusWaiting = (s.report.statusWaiting || (statusFields b != statusFields s)) := by
  simp [settle, noteStatus, noteImages_statusFields]

@[simp] theorem enterReads_link (s : State) :
    (enterReads s).link.strap = s.link.strap ∧ (enterReads s).link.arrival = s.link.arrival ∧
    (enterReads s).link.hostDown = s.link.hostDown ∧
    (enterReads s).link.readMap = s.link.readMap ∧ (enterReads s).link.ownReads = s.link.ownReads ∧
    (enterReads s).link.hostRun = s.link.hostRun ∧ (enterReads s).link.forwarded = s.link.forwarded ∧
    (enterReads s).link.delivered = s.link.delivered := by
  simp only [enterReads]; split <;> simp

@[simp] theorem enterReads_command (s : State) :
    (enterReads s).command.tail = s.command.tail ∧ (enterReads s).command.head = s.command.head ∧
    (enterReads s).command.cycle = s.command.cycle ∧ (enterReads s).command.mode = s.command.mode ∧
    (enterReads s).command.config = s.command.config ∧ (enterReads s).command.valid = s.command.valid ∧
    (enterReads s).command.staging = s.command.staging ∧ (enterReads s).command.camMark = s.command.camMark ∧
    (enterReads s).command.programMark = s.command.programMark ∧
    (enterReads s).command.weightsMark = s.command.weightsMark ∧
    (enterReads s).command.inHand = s.command.inHand ∧ (enterReads s).command.slotWanted = s.command.slotWanted := by
  simp only [enterReads]; split <;> simp

/-- Own reads move from the Command Unit to the queue; none is lost or reordered. -/
theorem enterReads_reads (s : State) :
    (enterReads s).link.ownQueue ++ (enterReads s).command.waitingReads =
      s.link.ownQueue ++ s.command.waitingReads := by
  simp only [enterReads]; split <;> simp

theorem enterReads_ownQueue_length {s : State} (h : s.link.ownQueue.length ≤ Config.ownPlaces) :
    (enterReads s).link.ownQueue.length ≤ Config.ownPlaces := by
  simp only [enterReads]; split
  · simp only [List.length_append, List.length_take]; omega
  · exact h

@[simp] theorem settle_link (b s : State) :
    (settle b s).link.strap = s.link.strap ∧ (settle b s).link.arrival = s.link.arrival ∧
    (settle b s).link.hostDown = s.link.hostDown ∧
    (settle b s).link.readMap = s.link.readMap ∧ (settle b s).link.ownReads = s.link.ownReads ∧
    (settle b s).link.hostRun = s.link.hostRun ∧ (settle b s).link.forwarded = s.link.forwarded ∧
    (settle b s).link.delivered = s.link.delivered := by
  simp [settle, noteStatus, noteImages]

@[simp] theorem settle_command (b s : State) :
    (settle b s).command.tail = s.command.tail ∧ (settle b s).command.head = s.command.head ∧
    (settle b s).command.cycle = s.command.cycle ∧ (settle b s).command.mode = s.command.mode ∧
    (settle b s).command.config = s.command.config ∧ (settle b s).command.valid = s.command.valid ∧
    (settle b s).command.staging = s.command.staging ∧ (settle b s).command.camMark = s.command.camMark ∧
    (settle b s).command.programMark = s.command.programMark ∧
    (settle b s).command.weightsMark = s.command.weightsMark ∧ (settle b s).command.inHand = s.command.inHand ∧
    (settle b s).command.slotWanted = s.command.slotWanted := by
  simp [settle, noteStatus, noteImages]

theorem settle_ownQueue_length (b : State) {s : State} (h : s.link.ownQueue.length ≤ Config.ownPlaces) :
    (settle b s).link.ownQueue.length ≤ Config.ownPlaces := enterReads_ownQueue_length h

/-! ## Reports given (R165 to R167) -/

/-- A report in a general place is appended, or lost when all 12 are taken (R165). -/
theorem giveGeneral_cases (rep : Report) (r : ReportUnit) :
    ((r.waiting.filter Report.general).length < 12 ∧ giveGeneral rep r = { r with waiting := r.waiting ++ [rep] }) ∨
    (12 ≤ (r.waiting.filter Report.general).length ∧ giveGeneral rep r = loseReport rep.cls r) := by
  unfold giveGeneral Config.generalPlaces
  split
  · exact .inl ⟨by assumption, rfl⟩
  · exact .inr ⟨by omega, rfl⟩

/-- What a lost report changes: its counter, the lost mark, and the place of EVENTS LOST (R167). -/
@[simp] theorem loseReport_frame (c : ReportClass) (r : ReportUnit) :
    (loseReport c r).lostMark = true ∧ (loseReport c r).entries = r.entries ∧
    (loseReport c r).writeCount = r.writeCount ∧ (loseReport c r).headCopy = r.headCopy ∧
    (loseReport c r).mask = r.mask ∧ (loseReport c r).highWater = r.highWater ∧
    (loseReport c r).attention = r.attention ∧ (loseReport c r).statusWaiting = r.statusWaiting ∧
    (loseReport c r).statusQueued = r.statusQueued ∧
    (loseReport c r).waiting = if r.lostMark then r.waiting else r.waiting ++ [.eventsLost] := by
  simp [loseReport]

/-- Giving a report never touches the ring or the attention line. -/
@[simp] theorem giveGeneral_frame (rep : Report) (r : ReportUnit) :
    (giveGeneral rep r).entries = r.entries ∧ (giveGeneral rep r).writeCount = r.writeCount ∧
    (giveGeneral rep r).headCopy = r.headCopy ∧ (giveGeneral rep r).mask = r.mask ∧
    (giveGeneral rep r).highWater = r.highWater ∧ (giveGeneral rep r).attention = r.attention := by
  rcases giveGeneral_cases rep r with ⟨-, h⟩ | ⟨-, h⟩ <;> simp [h]

@[simp] theorem giveSummary_frame (rep : Report) (r : ReportUnit) :
    (giveSummary rep r).entries = r.entries ∧ (giveSummary rep r).writeCount = r.writeCount ∧
    (giveSummary rep r).headCopy = r.headCopy ∧ (giveSummary rep r).mask = r.mask ∧
    (giveSummary rep r).highWater = r.highWater ∧ (giveSummary rep r).attention = r.attention := by
  simp only [giveSummary]; split <;> simp

/-- The waiting order after an EXPOSURE SET was given: nothing else moves (R165). -/
theorem mergeExposure_others (rep : ExposureReport) (l : List Report) (p : Report → Bool)
    (h : ∀ e m, p (.exposureSet e m) = false) : (mergeExposure rep l).filter p = l.filter p := by
  induction l with
  | nil => simp [mergeExposure, h]
  | cons r l ih => cases r <;> simp [mergeExposure, List.filter_cons, h, ih]

/-- The waiting order after a path fault was raised: nothing else moves (R165). -/
theorem mergeFault_others (c : FaultCause) (a : Nat) (l : List Report) (p : Report → Bool)
    (h : ∀ c n a, p (.pathFault c n a) = false) : (mergeFault c a l).filter p = l.filter p := by
  induction l with
  | nil => simp [mergeFault, h]
  | cons r l ih =>
    cases r <;> simp only [mergeFault, List.filter_cons, h, ih]
    split <;> simp [h, ih]

/-- A fault of another cause is left as it waits (R165). -/
theorem mergeFault_other_cause {c d : FaultCause} (a : Nat) (l : List Report) (h : d ≠ c) :
    (mergeFault c a l).filter (fun x => match x with | .pathFault e .. => e == d | _ => false) =
      l.filter (fun x => match x with | .pathFault e .. => e == d | _ => false) := by
  have hcd : (c == d) = false := by simpa using Ne.symm h
  induction l with
  | nil => simp [mergeFault, hcd]
  | cons r l ih =>
    cases r <;> simp only [mergeFault, List.filter_cons, ih]
    split
    · rename_i he; subst he; simp [hcd]
    · simp [List.filter_cons, ih]

/-! ## Slots and pins (R3, R16) -/

/-- The test of `recordSlot` says that an entry takes the fields (R16). -/
theorem takesFields_iff {n : BitVec 32} {e : Slot} :
    (e.recordFrame == n && (n != 0 || e.state != .free)) = true ↔ TakesFields n e := by
  simp only [Bool.and_eq_true, Bool.or_eq_true, beq_iff_eq, bne_iff_ne]
  tauto

/-- No record takes the fields supplied for a frame exactly when every entry carries another frame (R16). -/
theorem recordSlot_eq_none {s : State} {n : BitVec 32} :
    recordSlot s n = none ↔ ∀ e ∈ s.slots.table, ¬ TakesFields n e := by
  constructor
  · intro h e he ht
    exact absurd (takesFields_iff.mpr ht) (by rw [findIndex_none h e he]; exact Bool.false_ne_true)
  · intro h
    cases hr : recordSlot s n with
    | none => rfl
    | some i =>
      obtain ⟨-, e, he, hp⟩ := findIndex_some hr
      exact absurd (takesFields_iff.mp hp) (h e (List.mem_of_getElem? he))

/-- The fields supplied for a frame go to the lowest-numbered slot that takes them (R16; log entry 69). -/
theorem recordSlot_eq_some {s : State} {n : BitVec 32} {i : Nat} :
    recordSlot s n = some i ↔
      (∃ e, s.slots.table[i]? = some e ∧ TakesFields n e) ∧ ∀ e ∈ s.slots.table.take i, ¬ TakesFields n e := by
  have forward : ∀ {j}, recordSlot s n = some j →
      (∃ e, s.slots.table[j]? = some e ∧ TakesFields n e) ∧ ∀ e ∈ s.slots.table.take j, ¬ TakesFields n e := by
    intro j h
    obtain ⟨-, e, he, hp⟩ := findIndex_some h
    refine ⟨⟨e, he, takesFields_iff.mp hp⟩, fun b hb ht => ?_⟩
    exact absurd (takesFields_iff.mpr ht) (by rw [findIndex_least h b hb]; exact Bool.false_ne_true)
  refine ⟨forward, fun ⟨⟨e, he, ht⟩, first⟩ => ?_⟩
  cases hr : recordSlot s n with
  | none => exact absurd ht (recordSlot_eq_none.mp hr e (List.mem_of_getElem? he))
  | some j =>
    obtain ⟨⟨b, hb, htb⟩, before⟩ := forward hr
    have ahead : ∀ {x y : Nat} {a : Slot}, s.slots.table[x]? = some a → x < y → a ∈ s.slots.table.take y := fun h hlt =>
      List.mem_of_getElem? (i := _) (by rw [List.getElem?_take_of_lt hlt]; exact h)
    rcases Nat.lt_trichotomy i j with hlt | rfl | hlt
    · exact absurd ht (before e (ahead he hlt))
    · rfl
    · exact absurd htb (first b (ahead hb hlt))

/-- Fields supplied for a frame reach one slot's record or none (R16). -/
theorem supplyFields_cases (n : BitVec 32) (f : FrameRecord → FrameRecord) (s : State) :
    (∃ i, recordSlot s n = some i ∧ supplyFields n f s = s.onSlot i (fun e => { e with record := f e.record })) ∨
    (recordSlot s n = none ∧ supplyFields n f s = s) := by
  unfold supplyFields
  split
  · rename_i i h; exact .inl ⟨i, h, rfl⟩
  · rename_i h; exact .inr ⟨h, rfl⟩

/-! ## The trigger toggle (R132) -/

/-- A toggle equal to the acknowledge is no trigger (R132). -/
@[simp] theorem handToggle_acknowledged (s : State) : handToggle s.capture.acknowledge s = s := if_pos rfl

/-- A toggle handed on changes nothing, or differs from the acknowledge and waits behind the messages (R132). -/
theorem handToggle_cases (v : Bool) (s : State) :
    (v = s.capture.acknowledge ∧ handToggle v s = s) ∨
    (v ≠ s.capture.acknowledge ∧
      handToggle v s = { s with capture := { s.capture with messages := s.capture.messages ++ [.toggle v] } }) := by
  unfold handToggle
  split
  · exact .inl ⟨‹_›, rfl⟩
  · exact .inr ⟨‹_›, rfl⟩

/-- No announcement that waits outlives the taking of ARM CAPTURE (R131), and every toggle does. -/
theorem passAnnouncements_mem (c : CaptureUnit) (m : CaptureMessage) :
    m ∈ (passAnnouncements c).messages ↔ m ∈ c.messages ∧ ∃ v, m = .toggle v := by
  cases m <;> simp [passAnnouncements, CaptureMessage.isToggle]

/-- ARM CAPTURE is refused by one of its tests, or holds the newest effective-P candidates and passes over the announcements
that wait (R130, R131). -/
theorem startArm_cases (pre burst : Nat) (s : State) :
    (s.command.mode ≠ .view ∧ startArm pre burst s = refuse .notReady s) ∨
    (s.command.mode = .view ∧ s.capture.mode ≠ .idle ∧ startArm pre burst s = refuse .conflict s) ∨
    (s.command.mode = .view ∧ s.capture.mode = .idle ∧ (8 < pre ∨ 64 < burst) ∧
      startArm pre burst s = refuse .badParameter s) ∨
    (s.command.mode = .view ∧ s.capture.mode = .idle ∧ pre ≤ 8 ∧ burst ≤ 64 ∧
      let p := min pre (keepLimit s - countSlots s .kept)
      startArm pre burst s = armNext (decide (p < pre)) burst ((candidates s).drop ((candidates s).length - p))
        (s.onCapture (fun c => { passAnnouncements c with effectiveP := p }))) := by
  unfold startArm
  split
  · exact .inl ⟨‹_›, rfl⟩
  · split
    · exact .inr (.inl ⟨not_not.mp ‹_›, ‹_›, rfl⟩)
    · split
      · exact .inr (.inr (.inl ⟨not_not.mp ‹_›, not_not.mp ‹_›, ‹_›, rfl⟩))
      · exact .inr (.inr (.inr ⟨not_not.mp ‹_›, not_not.mp ‹_›, by omega, by omega, rfl⟩))

/-- The history keeps at most 4 sets (R44). -/
theorem pushHistory_length (h : List ExposureSet) (e : ExposureSet) : (pushHistory h e).length ≤ 4 :=
  length_keepNewest h e 4

/-- The sample list keeps at most 64 samples (R95). -/
theorem appendSample_length (p : FocusSample) (f : FocusController) : (appendSample p f).samples.length ≤ 64 :=
  length_keepNewest f.samples p 64

end Sys2Proof.Machine
end

