-- ==== Sys2Proof/Laws/Lens.lean ====
section
/-!
SUPPORT. What the arbiter of the Lens Drive can do, said once: the choice of the next move and the grant decision
(R71, R72).
-/
namespace Sys2Proof.Machine

theorem bestPending_none {l : LensDrive} (h : bestPending l = none) (m : Motor) : (l.motor m).state ≠ .pending := by
  intro hm
  simp only [bestPending, List.foldl] at h
  cases m <;> simp only [hm] at h <;> (repeat' split at h) <;> simp_all

theorem bestPending_some {l : LensDrive} {k : Motor} (h : bestPending l = some k) : BestPending l k := by
  by_cases hf : (l.motor .focus).state = .pending <;> by_cases hi : (l.motor .iris).state = .pending <;>
    by_cases hz : (l.motor .zoom).state = .pending <;>
    by_cases h1 : (l.motor .iris).priority < (l.motor .focus).priority <;>
    by_cases h2 : (l.motor .zoom).priority < (l.motor .focus).priority <;>
    by_cases h3 : (l.motor .zoom).priority < (l.motor .iris).priority <;>
    simp [bestPending, hf, hi, hz, h1, h2, h3] at h <;> subst h <;>
    refine ⟨by assumption, fun j hj => ?_⟩ <;> cases j <;> simp_all <;> omega

/-- The best PENDING motor is the one of R71. -/
theorem bestPending_iff {l : LensDrive} {k : Motor} : bestPending l = some k ↔ BestPending l k := by
  refine ⟨bestPending_some, fun h => ?_⟩
  cases hb : bestPending l with
  | none => exact absurd h.1 (bestPending_none hb k)
  | some j =>
    have hj := bestPending_some hb
    have h1 := h.2 j hj.1
    have h2 := hj.2 k h.1
    cases k <;> cases j <;> simp_all <;> omega

theorem beats_iff (l : LensDrive) (k : Motor) (e : StackEntry) :
    beats (l.motor k).priority k e.priority e.motor = true ↔ BeatsEntry l k e := by
  cases k <;> cases h : e.motor <;> simp [beats, BeatsEntry, motorRank, h]

theorem startMove_runs {m : Motor} {s : State} (h : (s.lens.motor m).target ≠ (s.lens.motor m).position) :
    startMove m s = (moveRuns m s, false) := by
  have : startMove m s =
      (sendMoveSegment m ((setMotorState m .running s).onLens (fun l => { l with current := some m })), false) := by
    simp [startMove, h]
  rw [this]
  cases m <;> rfl

theorem startMove_ends {m : Motor} {s : State} (h : (s.lens.motor m).target = (s.lens.motor m).position) :
    startMove m s = (endMove m true s, true) := by simp [startMove, h]

/-- How many moves wait: the PENDING motors and the stack entries. -/
def waits (l : LensDrive) : Nat :=
  (if l.zoom.state = .pending then 1 else 0) + (if l.focus.state = .pending then 1 else 0) +
  (if l.iris.state = .pending then 1 else 0) + l.stack.length

@[simp] theorem setMotorState_lens (m : Motor) (st : MotorState) (s : State) :
    (setMotorState m st s).lens = s.lens.setMotor m { s.lens.motor m with state := st } := by
  simp only [setMotorState]; split <;> (repeat' split) <;> rfl
@[simp] theorem endMove_lens (m : Motor) (b : Bool) (s : State) :
    (endMove m b s).lens = s.lens.setMotor m { s.lens.motor m with state := .idle } := by simp [endMove]

theorem waits_endMove {m : Motor} {b : Bool} {s : State} (h : (s.lens.motor m).state = .pending) :
    waits (endMove m b s).lens + 1 = waits s.lens := by
  cases m <;> simp_all [waits, LensDrive.setMotor, LensDrive.motor] <;> omega

theorem waits_popped {e : StackEntry} {rest : List StackEntry} {s : State} (h : s.lens.stack = e :: rest) :
    waits (endMove e.motor true (popped e rest s)).lens + 1 ≤ waits s.lens := by
  cases hm : e.motor <;> simp [waits, popped, hm, LensDrive.setMotor, LensDrive.motor, h] <;> omega

/-- The choice of the next move is the one of R72, given fuel for the moves that wait. -/
theorem chooseNext_made : ∀ (fuel : Nat) (s : State), waits s.lens < fuel → ChoiceMade s (chooseNext fuel s) := by
  intro fuel
  induction fuel with
  | zero => intro s h; omega
  | succ n ih =>
    intro s h
    have grants : ∀ p, bestPending s.lens = some p →
        (∀ e rest, s.lens.stack = e :: rest → s.lens.arbitration = .sequential ∨ BeatsEntry s.lens p e) →
        ChoiceMade s (if (startMove p s).2 then chooseNext n (startMove p s).1 else (startMove p s).1) := by
      intro p hp hw
      by_cases ht : (s.lens.motor p).target = (s.lens.motor p).position
      · rw [startMove_ends ht]
        exact .grantedEnds s _ p (bestPending_some hp) hw ht (ih _ (by
          have := waits_endMove (b := true) (bestPending_some hp).1; omega))
      · rw [startMove_runs ht]
        exact .granted s p (bestPending_some hp) hw ht
    have resumes : ∀ e rest, s.lens.stack = e :: rest →
        (∀ k, BestPending s.lens k → s.lens.arbitration = .preempt ∧ ¬ BeatsEntry s.lens k e) →
        ChoiceMade s (if (startMove e.motor (popStack e rest s)).2 then chooseNext n (startMove e.motor (popStack e rest s)).1
          else (startMove e.motor (popStack e rest s)).1) := by
      intro e rest hs hw
      have hp : popStack e rest s = popped e rest s := rfl
      have hm : ((popped e rest s).lens.motor e.motor) = { s.lens.motor e.motor with target := e.target } := by
        cases hm : e.motor <;> simp [popped, hm, LensDrive.setMotor, LensDrive.motor]
      rw [hp]
      by_cases ht : e.target = (s.lens.motor e.motor).position
      · rw [startMove_ends (by rw [hm]; exact ht)]
        exact .resumedEnds s _ e rest hs hw ht (ih _ (by have := waits_popped hs; omega))
      · rw [startMove_runs (by rw [hm]; exact ht)]
        exact .resumed s e rest hs hw ht
    simp only [chooseNext]
    cases hb : bestPending s.lens with
    | none =>
      cases hs : s.lens.stack with
      | nil => exact .free s (bestPending_none hb) hs
      | cons e rest =>
        exact resumes e rest hs (fun k hk => absurd hk.1 (bestPending_none hb k))
    | some p =>
      cases hs : s.lens.stack with
      | nil => exact grants p hb (by simp [hs])
      | cons e rest =>
        simp only
        by_cases ht : takesPending s.lens p e = true
        · simp only [ht, if_true]
          refine grants p hb (fun e' r' he => ?_)
          rw [hs] at he; cases he
          simpa [takesPending, beats_iff] using ht
        · simp only [ht]
          refine resumes e rest hs (fun k hk => ?_)
          have : k = p := by rw [← bestPending_iff, hb] at hk; simpa using hk.symm
          subst this
          simp [takesPending] at ht
          refine ⟨?_, fun hc => ?_⟩
          · cases h : s.lens.arbitration <;> simp_all
          · rw [← beats_iff] at hc; simp_all

theorem waits_le (l : LensDrive) : waits l < choiceFuel l := by
  simp only [waits, choiceFuel]; (repeat' split) <;> omega

/-- The grant decision is the one of R71. -/
theorem grant_made (s : State) : GrantMade s (grant s) := by
  refine ⟨?_, ?_, ?_, ?_⟩
  · intro h
    simp only [grant, h]
    exact chooseNext_made _ _ (waits_le _)
  · intro m h ht
    simp only [grant, h, ht, if_true]
    refine chooseNext_made _ _ ?_
    have := waits_le s.lens
    refine Nat.lt_of_le_of_lt ?_ this
    cases m <;> simp [waits, LensDrive.setMotor, LensDrive.motor]
  · intro m h ht hk
    have hp : preemptor s.lens m = none := by
      unfold preemptor
      split
      · rename_i p h1 h2
        rcases hk with hk | hk
        · simp [h1] at hk
        · have := hk p (bestPending_some h2).1
          rw [if_neg]; omega
      · rfl
    simp only [grant, h, ht, if_false, hp]
    cases m <;> rfl
  · intro m k h ht ha hb hlt
    have hp : preemptor s.lens m = some k := by
      simp [preemptor, ha, bestPending_iff.mpr hb, hlt]
    have hne : k ≠ m := by rintro rfl; omega
    have hpush : ∀ w : State, w = setMotorState m .preempted s → pushCurrent m s = { w with lens := { w.lens with
      current := none, stack := { motor := m, target := (s.lens.motor m).target, priority := (s.lens.motor m).priority } ::
        s.lens.stack } } := by
      rintro w rfl
      cases m <;> simp [pushCurrent, State.onLens, LensDrive.setMotor, LensDrive.motor]
    have hk : (pushCurrent m s).lens.motor k = s.lens.motor k := by
      rw [hpush _ rfl]
      cases m <;> cases k <;> simp_all [LensDrive.setMotor, LensDrive.motor]
    refine ⟨fun hn => ?_, fun he => ?_⟩
    · simp only [grant, h, ht, if_false, hp]
      rw [startMove_runs (by rw [hk]; exact hn), ← hpush _ rfl]; rfl
    · simp only [grant, h, ht, if_false, hp]
      rw [startMove_ends (by rw [hk]; exact he), ← hpush _ rfl]
      simp only [if_true]
      refine chooseNext_made _ _ ?_
      have h1 := waits_le (pushCurrent m s).lens
      have h2 := waits_endMove (b := true) (m := k) (s := pushCurrent m s) (by rw [hk]; exact hb.1)
      omega
/-- A hand-over puts the zoom position into the Zoom Controller's list and waits for the answer (R73). -/
theorem handOver_eq (s : State) : handOver s =
    { s with lens := { s.lens with awaiting := true },
             zoom := { s.zoom with fromLens := s.zoom.fromLens ++ [.handover s.lens.zoom.position] } } := rfl

/-- A DONE that ends the drain hands over the zoom's position in READY, to be answered without a target (R73, R82, R92). -/
theorem drainDone_hands {g : Segment} {s : State} (hg : g.motor = .zoom) (hs : s.lens.mode = .ready) :
    drainDone g s = endDrain { handOver s with zoom := { (handOver s).zoom with silent := s.zoom.silent + 1 } } := by
  simp [drainDone, lensReady, hg, hs, handOver_eq]

/-- Any other DONE that ends the drain gives no hand-over. -/
theorem drainDone_plain {g : Segment} {s : State} (h : ¬ (g.motor = .zoom ∧ s.lens.mode = .ready)) :
    drainDone g s = endDrain s := by
  have : ¬ (g.motor = .zoom ∧ lensReady s = true) := by simpa [lensReady] using h
  simp [drainDone, this]

end Sys2Proof.Machine
end

