-- ==== Sys2Proof/Laws/Records.lean ====
section
/-!
SUPPORT. The bytes of a record the part writes (R171): the words of a record hold each of its fields, and zeros elsewhere.
-/
namespace Sys2Proof.Machine

theorem leValue_lt (l : List Byte) : leValue l < 256 ^ l.length := by
  induction l with
  | nil => simp [leValue]
  | cons b l ih =>
    have := b.isLt
    simp only [leValue, List.length_cons, Nat.pow_succ]
    omega

theorem leValue_shift : ∀ (l : List Byte) (i : Nat) (h : i < l.length), leValue l / 256 ^ i % 256 = l[i].toNat := by
  intro l
  induction l with
  | nil => intro i h; simp at h
  | cons b l ih =>
    intro i h
    have hb := b.isLt
    cases i with
    | zero => simp only [leValue, Nat.pow_zero, Nat.div_one, List.getElem_cons_zero]; omega
    | succ i =>
      have := ih i (by simpa using h)
      rw [List.getElem_cons_succ, ← this, leValue, Nat.pow_succ, Nat.mul_comm (256 ^ i) 256, ← Nat.div_div_eq_div_mul]
      congr 2; omega

/-- A link word made of 16 bytes has those bytes. -/
theorem wordBytes_packed (l : List Byte) (h : l.length = 16) : wordBytes (BitVec.ofNat 128 (leValue l)) = l := by
  have hl := leValue_lt l
  rw [h] at hl
  apply List.ext_getElem
  · simp [wordBytes, h]
  · intro i h1 h2
    simp only [wordBytes, List.getElem_map, List.getElem_range]
    apply BitVec.eq_of_toNat_eq
    rw [← leValue_shift l i h2]
    simp [BitVec.extractLsb'_toNat, Nat.shiftRight_eq_div_pow]
    have h256 : (256 : Nat) ^ i = 2 ^ (8 * i) := by rw [show (256 : Nat) = 2 ^ 8 from rfl, ← Nat.pow_mul]
    have hm : leValue l % 340282366920938463463374607431768211456 = leValue l := Nat.mod_eq_of_lt (by omega)
    rw [hm, h256]

/-- The words made of a record's bytes have those bytes. -/
theorem dataBytes_packWords : ∀ (n : Nat) (l : List Byte), l.length = 16 * n → dataBytes (packWords n l) = l := by
  intro n
  induction n with
  | zero => intro l h; simp [packWords, dataBytes]; exact (List.length_eq_zero_iff.mp (by simpa using h))
  | succ n ih =>
    intro l h
    have h1 : (l.take 16).length = 16 := by simp; omega
    have h2 : (l.drop 16).length = 16 * n := by simp; omega
    have := ih _ h2
    simp only [dataBytes] at this ⊢
    simp only [packWords, List.flatMap_cons, this, wordBytes_packed _ h1, List.take_append_drop]

theorem packWords_length (n : Nat) (l : List Byte) : (packWords n l).length = n := by
  induction n generalizing l with
  | zero => rfl
  | succ n ih => simp [packWords, ih]

theorem leValue_take (v n : Nat) : leValue ((List.range n).map (fun i => BitVec.ofNat 8 (v >>> (8 * i)))) = v % 256 ^ n := by
  induction n generalizing v with
  | zero => simp [leValue, Nat.mod_one]
  | succ n ih =>
    rw [List.range_succ_eq_map, List.map_cons, List.map_map, leValue]
    have : (List.range n).map ((fun i => BitVec.ofNat 8 (v >>> (8 * i))) ∘ Nat.succ) =
        (List.range n).map (fun i => BitVec.ofNat 8 ((v / 256) >>> (8 * i))) := by
      apply List.map_congr_left
      intro i _
      simp only [Function.comp, Nat.shiftRight_eq_div_pow, Nat.div_div_eq_div_mul]
      congr 2
      rw [show (256:Nat) = 2^8 from rfl, ← Nat.pow_add]; congr 1; omega
    rw [this, ih]
    simp only [Nat.mul_zero, Nat.shiftRight_zero, BitVec.toNat_ofNat]
    rw [show (256 : Nat) ^ (n + 1) = 256 * 256 ^ n by rw [Nat.pow_succ, Nat.mul_comm], Nat.mod_mul]

/-- A record of disjoint fields inside its words holds them. -/
theorem recordWords_holds (n : Nat) (fields : List Field)
    (hd : fields.Pairwise (fun f g => f.off + f.size ≤ g.off ∨ g.off + g.size ≤ f.off))
    (hi : ∀ f ∈ fields, f.off + f.size ≤ 16 * n) :
    HoldsFields (recordWords n fields) (fields.map (fun f => (f.off, f.size, f.val))) := by
  have hb : dataBytes (recordWords n fields) = (List.range (16 * n)).map (recordByte fields) :=
    dataBytes_packWords n _ (by simp)
  refine ⟨?_, ?_⟩
  · intro x hx
    obtain ⟨f, hf, rfl⟩ := List.mem_map.mp hx
    have hfi := hi f hf
    rw [hb, ← leValue_take]
    congr 1
    apply List.ext_getElem
    · simp; omega
    · intro i h1 h2
      simp only [List.getElem_take, List.getElem_drop, List.getElem_map, List.getElem_range]
      have hi' : i < f.size := by simpa using h2
      have : fields.find? (fun g => g.off ≤ f.off + i && f.off + i < g.off + g.size) = some f := by
        clear h1 h2 hi hb hx
        induction fields with
        | nil => simp at hf
        | cons g l ih' =>
          rw [List.pairwise_cons] at hd
          by_cases hg : g = f
          · subst hg; simp [hi']
          · have hfl : f ∈ l := by
              rcases List.mem_cons.mp hf with h | h
              · exact absurd h.symm hg
              · exact h
            have hgf := hd.1 f hfl
            have hneg : ¬ ((decide (g.off ≤ f.off + i) && decide (f.off + i < g.off + g.size)) = true) := by simp; omega
            rw [List.find?_cons_of_neg (by exact hneg)]
            exact ih' hd.2 hfl
      simp only [recordByte, this]
      congr 3; omega
  · intro k hk hno
    rw [hb]
    have hk' : k < 16 * n := by simpa [recordWords, packWords_length] using hk
    rw [List.getElem?_map, List.getElem?_range hk', Option.map_some]
    congr 1
    have : fields.find? (fun g => g.off ≤ k && k < g.off + g.size) = none := by
      rw [List.find?_eq_none]
      intro f hf
      have := hno _ (List.mem_map.mpr ⟨f, hf, rfl⟩)
      simpa using this
    simp only [recordByte, this]

theorem recordWords_length (n : Nat) (fields : List Field) : (recordWords n fields).length = n := packWords_length _ _

/-- The same, the fields given as offset, size and value and told apart by their places alone. -/
theorem recordWords_holdsAt (n : Nat) {fields : List Field} {l : List (Nat × Nat × Nat)} (places : List (Nat × Nat))
    (hl : fields.map (fun f => (f.off, f.size, f.val)) = l) (hp : fields.map (fun f => (f.off, f.size)) = places)
    (hd : places.Pairwise (fun f g => f.1 + f.2 ≤ g.1 ∨ g.1 + g.2 ≤ f.1)) (hi : ∀ x ∈ places, x.1 + x.2 ≤ 16 * n) :
    HoldsFields (recordWords n fields) l := by
  subst hl hp
  exact recordWords_holds n fields (by simpa [List.pairwise_map] using hd)
    (fun f hf => hi _ (List.mem_map.mpr ⟨f, hf, rfl⟩))

end Sys2Proof.Machine
end

