-- ==== Sys2Proof/Tests/Slice0.lean ====
section
/-!
SUPPORT. Tests of the model, and the witnesses of the statements.

The expected figures are the spec's own worked figures (sections 2.8, 3.2, 3.9, 5.8, 6.11, 7.8 and 7.9) or are worked out by
hand from the rule a test names.  A theorem `witness_<Name>` shows states and operands that meet the hypotheses of
`Obligations.<Name>`, clause by clause, at boundary values where a clause has a range.
-/
open Sys2Proof Sys2Proof.Machine
namespace Sys2Proof.Tests

/-! ## States and shorthands -/

/-- The state a step answers. -/
def after (c : Instr) (s : State) : State :=
  match exec c s with
  | .next t => t
  | _ => s

/-- The part after power-on reset with strap value 0. -/
def boot : State := State.resetWith 0

/-- The record of a command is on its way back. -/
def arriving (s : State) : State :=
  { s with command := { s.command with cycle := .fetching, tail := s.command.head + 1 },
           link := { s.link with ownReads := [{ dtag := 256, purpose := .commandFetch }] } }

/-- A command is in hand. -/
def inHand (code : BitVec 16) (s : State) : State :=
  s.onCommand (fun c => { c with cycle := .executing, inHand := some { code := code, tag := 9 } })

/-- A frame of 512 by 384 pixels, and four slots just large enough for it. -/
def smallConfig : FrameConfig :=
  { width := 512, height := 384, captureBase := 0x2000000, viewBase := 0x4000000, poolBase := 0x6000000,
    stride := 0x60000, slotCount := 4, latency := 2 }

/-- The cam table of section 5.8. -/
def camTable : List CamNode :=
  [{ zoom := 0, focal := 43, alOpen := 64, stops := 6, stepAl := 32, pInf := 700, pNear := 1100, coarse := 24 },
   { zoom := 256, focal := 120, alOpen := 112, stops := 6, stepAl := 32, pInf := 760, pNear := 1300, coarse := 40 },
   { zoom := 640, focal := 445, alOpen := 160, stops := 6, stepAl := 24, pInf := 900, pNear := 1700, coarse := 80 },
   { zoom := 1000, focal := 1289, alOpen := 192, stops := 4, stepAl := 32, pInf := 1100, pNear := 2000, coarse := 128 }]

/-- The derived values at zoom 500 (section 5.8). -/
def derived500 : Derived :=
  { focal := 326, alOpen := 142, stops := 6, stepAl := 27, pInf := 848, pNear := 1554, coarse := 65 }

/-- STANDBY with all that VIEW needs: a configuration, a homed lens at zoom 500, and the tables. -/
def prepared : State :=
  { boot with
    slots := { boot.slots with table := List.replicate 4 Slot.reset },
    command := { boot.command with config := smallConfig, valid := true, camMark := true, programMark := true },
    lens := { boot.lens with mode := .ready, zoom := { boot.lens.zoom with position := 500 },
                             focus := { boot.lens.focus with position := 1000 } },
    zoom := { boot.zoom with cam := camTable, derived := some derived500 },
    steady := { boot.steady with geometryValid := true } }

/-- VIEW, with nothing in progress. -/
def viewing : State := prepared.onCommand (fun c => { c with mode := .view })

/-- A slot that shows frame `n`. -/
def slotWith (st : SlotState) (n : BitVec 32) : Slot :=
  { Slot.reset with state := st, recordFrame := n, fillAge := n, record := { FrameRecord.reset with frame := n, outcome := .complete } }

/-- The slot table replaced. -/
def withTable (t : List Slot) (s : State) : State := s.onSlots (fun m => { m with table := t })

/-- Frame 5 fills slot 1, up to `expected`. -/
def filling (expected : Nat) : State :=
  (withTable [Slot.reset, slotWith .filling 5, Slot.reset, Slot.reset] viewing).onSlots (fun m =>
    { m with seq := 5, tracker := { inProgress := some (5, 1), expected := expected, stored := expected, torn := false } })

/-- A host write of `n` words of zeros waits to be taken. -/
def writing (a : BitVec 32) (n : Nat) (s : State) : State :=
  s.onLink (fun l => { l with arrival := [.write a (List.replicate n 0)] })

/-- A host write of one word waits to be taken. -/
def writingWord (a : BitVec 32) (w : LinkWord) (s : State) : State :=
  s.onLink (fun l => { l with arrival := [.write a [w]] })

/-- A host read of `n` words under host tag 3 waits to be taken. -/
def reading (a : BitVec 32) (n : Nat) (s : State) : State := s.onLink (fun l => { l with arrival := [.read 3 a n] })

/-- The piece of a host write of `n` words of zeros. -/
def zeros (g : Region) (a n : Nat) : Piece := { region := g, addr := a, words := n, place := 0, data := List.replicate n 0 }

/-- The piece of a host read of `n` words. -/
def wanted (g : Region) (a n : Nat) : Piece := { region := g, addr := a, words := n, place := 0, data := [] }

/-- The host write of `n` words of zeros at `a` may be taken in `s`, as one piece of class `g`. -/
abbrev OneWrite (g : Region) (a n : Nat) (s : State) : Prop :=
  headRequest (writing (BitVec.ofNat 32 a) n s) = some (.write (BitVec.ofNat 32 a) (List.replicate n 0)) ∧
  requestPieces (writing (BitVec.ofNat 32 a) n s) (.write (BitVec.ofNat 32 a) (List.replicate n 0)) = [zeros g a n]

/-- The host read of `n` words at `a` may be taken in `s`, as one piece of class `g`. -/
abbrev OneRead (g : Region) (a n : Nat) (s : State) : Prop :=
  headRequest (reading (BitVec.ofNat 32 a) n s) = some (.read 3 (BitVec.ofNat 32 a) n) ∧
  requestPieces (reading (BitVec.ofNat 32 a) n s) (.read 3 (BitVec.ofNat 32 a) n) = [wanted g a n]

/-- The Control Block fields that a write of one word hands over. -/
def wordFields (a : Nat) (w : LinkWord) : List BlockField := blockFields 0x1FF00000 { zeros .plain a 1 with data := [w] }

/-- An announcement of frame `n` in slot `i`. -/
def announced (n : BitVec 32) (i : Nat) : Announcement :=
  { frame := n, slot := i, outcome := .complete, torn := false, startSample := .reset, endSample := .reset,
    moving := { zoom := false, focus := false, iris := false }, focusSettled := true }

/-- No profiles. -/
def noProfiles : Profiles := { cols := [], rows := [], mx := 0, my := 0, width := 512, height := 384 }

/-- The statistics record of frame 212 in section 3.9, with one lit window of figure 5000. -/
def record212 : StatRecord :=
  { frame := 212, torn := false, valid := true, y := 600, h := 3, uniformFallback := false,
    det100 := { level := 100, evaluated := true, on := true }, det120 := { level := 0, evaluated := true, on := false },
    activePeriod := .us10000, windows := [{ enabled := true, contrast := 1, mean := 32, figure := 5000 }],
    focusFigure := 5000, windowSet := 0, darkFloor := 32, current := noProfiles, reference := none }

/-! ## Well-formed commands: one ill-formed command for each check -/

theorem test_unaligned_read_is_ill_formed : (Instr.hostRequest (.read 0 8 1)).wellFormed = false := by decide
theorem test_empty_read_is_ill_formed : (Instr.hostRequest (.read 0 0 0)).wellFormed = false := by decide
theorem test_long_read_is_ill_formed : (Instr.hostRequest (.read 0 0 33)).wellFormed = false := by decide
theorem test_unaligned_write_is_ill_formed : (Instr.hostRequest (.write 1 [0])).wellFormed = false := by decide
theorem test_empty_write_is_ill_formed : (Instr.hostRequest (.write 0 [])).wellFormed = false := by decide
theorem test_long_write_is_ill_formed : (Instr.hostRequest (.write 0 (List.replicate 33 0))).wellFormed = false := by decide
theorem test_own_tag_response_is_ill_formed : (Instr.downstreamReadResponse 256 false [0]).wellFormed = false := by decide
theorem test_empty_response_is_ill_formed : (Instr.downstreamReadResponse 0 false []).wellFormed = false := by decide
theorem test_host_tag_return_is_ill_formed : (Instr.tableFetchReturn 255 false [0]).wellFormed = false := by decide
theorem test_high_tag_return_is_ill_formed : (Instr.tableFetchReturn 272 false [0]).wellFormed = false := by decide
theorem test_late_transition_is_ill_formed : (Instr.lensSegmentDone false false 17 0).wellFormed = false := by decide
theorem test_named_code_is_ill_formed : (Instr.unknownCommand 0x0502 0).wellFormed = false := by decide
theorem test_standby_byte_is_ill_formed : (Instr.setModeView 0 0).wellFormed = false := by decide
theorem test_plain_commands_are_well_formed :
    (Instr.hostRequest (.read 63 0xFFFFFFF0 32)).wellFormed = true ∧ (Instr.tableFetchReturn 271 true [0]).wellFormed = true ∧
    (Instr.lensSegmentDone true true 16 0).wellFormed = true ∧ (Instr.setModeView 0 1).wellFormed = true := by decide

/-! ## Command records (section 12.2): one record for each family, its bytes written out -/

/-- A record that begins with some bytes. -/
def record (l : List Byte) : List Byte := l ++ List.replicate (64 - l.length) 0

theorem test_record_set_metering :
    decodeRecord (record [0x01, 0x03, 0x34, 0x12, 0x9A, 0x09, 8, 0, 4, 7, 64, 2]) =
      .setMetering 0x1234 2458 8 4 7 64 2 := by decide
theorem test_record_set_statistics :
    decodeRecord (record [0x01, 0x02, 1, 0, 0xC0, 0x0F, 32, 0, 96, 48, 33, 0, 0x07, 0x71, 0, 1]) =
      .setStatistics 1 4032 32 96 48 33 0x01007107 := by decide
theorem test_record_set_compensation :
    decodeRecord (record [0x03, 0x03, 0, 0, 0x9F, 0xFF]) = .setCompensation 0 (BitVec.ofInt 16 (-97)) := by decide
theorem test_record_set_lens_drive :
    decodeRecord (record [0x03, 0x04, 2, 0, 1, 3, 5, 7, 0xE8, 3, 0xF4, 1, 0xD0, 7, 0xB8, 0xB]) =
      .setLensDrive 2 1 3 5 7 1000 500 2000 3000 := by decide
theorem test_record_zoom_to : decodeRecord (record [0x01, 0x05, 0xFF, 0xFF, 0xFF, 3]) = .zoomTo 0xFFFF 1023 := by decide
theorem test_record_set_focus_mode :
    decodeRecord (record [0x01, 0x06, 3, 0, 1, 24, 64, 0xEE, 0, 0, 1, 0, 96, 0]) =
      .setFocusMode 3 1 24 64 65536 96 := by decide
theorem test_record_set_steady :
    decodeRecord (record [0x01, 0x07, 4, 0, 1, 24, 4, 40, 16, 0, 12, 0]) = .setSteady 4 1 24 4 40 16 12 := by decide
theorem test_record_arm_capture : decodeRecord (record [0x01, 0x08, 5, 0, 8, 64]) = .armCapture 5 8 64 := by decide
theorem test_record_load_table :
    decodeRecord (record [0x03, 0x0A, 6, 0, 2, 0xEE, 0xEE, 0xEE, 0, 0, 0, 0x80]) = .loadTable 6 2 0x80000000 := by decide
theorem test_record_set_mode_splits :
    decodeRecord (record [0x02, 0x0A, 7, 0, 0]) = .setModeStandby 7 ∧
    decodeRecord (record [0x02, 0x0A, 7, 0, 1]) = .setModeView 7 1 := by decide
theorem test_record_unknown_code : decodeRecord (record [0x05, 0x0A, 8, 0]) = .unknownCommand 0x0A05 8 := by decide
theorem test_record_encoded : (encodeRecord (.releaseSlot 0x0102 3)).map (·.take 6) = some [0x03, 0x08, 0x02, 0x01, 3, 0] := by
  decide

/-! ## Numbers: the spec's worked figures -/

theorem test_log_figures : [0, 1, 3, 32, 600, 2458, 4000, 16380].map logL = [0, 0, 48, 160, 293, 358, 382, 447] := by decide
theorem test_antilog_figures : [0, 512, 793, 414].map antilog = [1, 65536, 29884416, 7936] := by decide
theorem test_gain_codes : gainCodeOf 0 = 256 ∧ gainCodeOf 188 = 15360 ∧ gainCodeOf 192 = 16384 ∧ gainLevelOf 15360 = 188 := by
  decide
theorem test_cam_at_500 : derive 500 camTable = some derived500 := by decide
theorem test_cam_stop_limit : (derive 999 camTable).map (·.stops) = some 5 ∧ (derive 1000 camTable).map (·.stops) = some 4 := by
  decide
theorem test_subject_fraction : (derive 448 camTable).map (fun d => fractionOf d 1100) = some 412 := by decide
theorem test_tracking_target : (derive 464 camTable).map (fun d => positionAt d 412) = some 1108 := by decide
theorem test_vertex :
    vertex [⟨1198, some 44000⟩, ⟨1214, some 50000⟩, ⟨1230, some 53000⟩, ⟨1246, some 54000⟩, ⟨1262, some 49000⟩] 16 1246 54000 =
      1241 := by decide
theorem test_offset_through_a_pan :
    ([10, 12, 0, 40, 40, 40, 40, 40, 40, 0, 0] : List Int).foldl (fun x d => advanceAxis d 4 64 x) .reset =
      { o16 := 961, run := 0, panning := true } ∧
    ([10, 12, 0] : List Int).foldl (fun x d => advanceAxis d 4 64 x) .reset = { o16 := 340, run := 0, panning := false } ∧
    roundOffset 340 = 21 ∧ roundOffset 345 = 22 ∧ roundOffset (-344) = -22 := by decide
theorem test_view_read_across_a_line :
    viewRuns { width := 4608, height := 3456, mx := 64, my := 48, slotBase := 0, ox := 22, oy := -5 } 95488 512 =
      [(0, 893528, 256), (256, 894296, 256)] := by decide
theorem test_detector_run :
    [20, 110, 130, 90, 120, 140, 150].foldl (fun d v => advanceDetector boot.stats.params v d) Detector.reset =
      { on := true, run := 0, level := 150 } := by decide

/-- Section 2.8, zone weighting: weight 15 on zones 87, 88, 103 and 104. -/
theorem test_zone_weighting :
    let weights := (List.range 192).map (fun z => if z = 87 ∨ z = 88 ∨ z = 103 ∨ z = 104 then 15 else 1)
    let l : StatLatch := { params := boot.stats.params, weights := weights, windows := [], windowSet := 0, mx := 0, my := 0, width := 4608,
                           height := 3456 }
    let a := { clearAccumulators { l with width := 0, height := 0 } with
      zoneSum := weights.map (fun w => 20736 * if w = 15 then 1600 else 400),
      zoneClip := weights.map (fun w => if w = 15 then 2000 else 0) }
    weightedMean l a = 690 ∧ weightedClip l a = 5 := by decide +kernel

/-- Section 1.9, events a and b: of frames 1 and 2 frame 1 is the oldest; a FREE slot goes first. -/
theorem test_fill_choice :
    chooseFill 5 [Slot.reset, slotWith .filled 1, slotWith .filled 2, slotWith .kept 3, slotWith .kept 4] = 1 ∧
    chooseFill 7 [Slot.reset, { slotWith .filled 6 with pins := 1 }, slotWith .filled 2, slotWith .kept 3] = 2 ∧
    chooseFill 7 [Slot.reset, { slotWith .filled 6 with pins := 1 }, slotWith .kept 3] = 0 ∧
    chooseFill 0 [Slot.reset, slotWith .filled 0xFFFFFFFE, slotWith .filled 0xFFFFFFFF, Slot.reset] = 3 := by decide

/-! ## Section 3.9: the completion of frame 212 -/

/-- A set of the history before the completion of frame 212. -/
def issued (n : BitVec 32) (gl : Nat) : ExposureSet :=
  { tl := 414, gl := gl, al := 160, xl := 414 + (gl : Int) - 160, shutter := 7936, gainCode := gainCodeOf gl, irisStop := 0,
    quantised := .off, flickerExposed := true, lightHigh := false, lightLow := false, lensHeld := false,
    source := .program, tag := some n }

/-- The controller with the record of frame 212 held. -/
def frame212 : State :=
  let e := viewing.exposure
  let p := e.params
  { viewing with
    zoom := { viewing.zoom with derived := some { derived500 with focal := 445, alOpen := 160, stops := 6, stepAl := 24 } },
    exposure := { e with
      firstIssue := false, history := [issued 208 118, issued 209 130, issued 210 146, issued 211 166],
      latches := [{ frame := 212, params := p, steady := true, applied := issued 210 146,
                    program := { tlMin := 190, tlMax := 700, glMax := 192, credit := 32, crop := 90 } }],
      work := [{ notice := announced 212 1, stats := some record212 }] } }

theorem test_frame_212_issues_its_set :
    (after .exposureCompletionWork frame212).exposure.history =
      [issued 209 130, issued 210 146, issued 211 166, issued 212 188] := by decide +kernel
theorem test_frame_212_reports :
    (after .exposureCompletionWork frame212).focus.fromExposure = [.alarm .near 212] ∧
    (after .exposureCompletionWork frame212).lens.fromExposure = [] ∧
    ((after .exposureCompletionWork frame212).report.waiting.map (fun x => match x with
      | .exposureSet r m => (r.meter, r.step, r.changed, m)
      | _ => (none, 0, false, 9))) = [(some (-65, -45), 22, true, 0)] := by decide +kernel

/-- A HELD copy of the initial set reads AL_open (R58), so the held lens values are the Zoom Controller's; one of an issued set
reads nothing (R40, R53). -/
theorem test_held_copy_of_the_initial_set_reads_the_lens :
    (let s := frame212.onFocus (fun f => { f with aeHold := true })
     (after .exposureCompletionWork s).exposure.held = s.exposure.held) ∧
    (let s := { (frame212.onFocus (fun f => { f with aeHold := true })) with
       exposure := { frame212.exposure with history := [] } }
     let t := after .exposureCompletionWork s
     t.exposure.held = { focal := 445, alOpen := 160, stops := 6, stepAl := 24 } ∧
       t.exposure.history.map (fun e => (e.source, e.tl, e.al)) = [(.held, 512, 160)]) := by decide +kernel

/-! ## One step each: commands and the work of frames -/

theorem test_compensation_clamps :
    (after (.setCompensation 7 (BitVec.ofInt 16 (-97))) (arriving boot)).exposure.params.compensation = -96 ∧
    (after (.setCompensation 7 97) (arriving boot)).report.waiting = [.commandDone 0x0303 7 0 .clamped 96] := by decide
theorem test_margins_round_and_clamp :
    (after (.setSteady 7 1 24 4 40 33 22) (arriving viewing)).steady.mx = 32 ∧
    (after (.setSteady 7 1 24 4 40 33 22) (arriving viewing)).steady.my = 20 := by decide
theorem test_zoom_to_waits_for_the_lens :
    (after (.zoomTo 7 1023) (arriving viewing)).lens.fromZoom = [.target .zoom 1000 (.zoomTo none true)] ∧
    (after (.zoomTo 7 1023) (arriving viewing)).command.cycle = .executing := by decide
theorem test_home_lens_sends_the_iris_down :
    (after (.homeLens 7) (arriving boot)).lens.segment =
      some { motor := .iris, up := false, steps := 16, period := 2000, timeout := 37000, homing := true } := by decide
theorem test_start_focus_direction :
    (after (.startFocus 7) (arriving viewing)).focus.forward = true ∧
    (after (.startFocus 7) (arriving (viewing.onZoom (fun z => { z with u := 570 })))).focus.forward = false ∧
    (after (.startFocus 7) (arriving viewing)).focus.aeHold = true := by decide

/-- A hand-over that was outstanding at a SOFT RESET is answered without a target (R92). -/
theorem test_silent_handover_is_answered :
    (after .zoomPositionHandover (viewing.onZoom (fun z => { z with fromLens := [.handover 464], silent := 1 }))).lens.fromZoom =
      [.trackingAnswer] := by decide

/-- A zoom segment in flight at a SOFT RESET hands its position over at its end, to be answered without a target (R73, R92). -/
theorem test_draining_segment_hands_over :
    let g : Segment := { motor := .zoom, up := true, steps := 16, period := 500, timeout := 13000, homing := false }
    let t := after (.lensSegmentDone false true 0 0) (viewing.onLens (fun l => { l with draining := true, segment := some g }))
    (t.zoom.fromLens, t.zoom.silent, t.lens.awaiting, t.lens.draining) = ([.handover 516], 1, true, false) := by decide
theorem test_frame_start_takes_slot_1 :
    (after (.captureApertureWrite 0) (writing 0x2000000 2 viewing)).slots.tracker =
      { inProgress := some (1, 1), expected := 32, stored := 32, torn := false } ∧
    (after (.captureApertureWrite 0) (writing 0x2000000 2 viewing)).link.hostDown = [.write 0x6060000 [0, 0]] := by
  decide +kernel
theorem test_restart_raises_the_fault :
    (after (.captureApertureWrite 0) (writing 0x2000000 1 (filling 64))).report.waiting =
      [.pathFault .captureRestart 1 0x2000000] ∧
    (after (.captureApertureWrite 0) (writing 0x2000000 1 (filling 64))).slots.tracker.inProgress = some (6, 1) := by
  decide +kernel
theorem test_frame_completes :
    let t := after (.captureApertureWrite 0) (writing 0x205FFF0 1 (filling 0x5FFF0))
    (t.slots.tracker.inProgress, (slotAt t 1).state, (slotAt t 1).record.bytesStored) = (none, .filled, 0x60000) ∧
    t.report.waiting = [.frameSummary 5 1 .complete false] := by decide +kernel
theorem test_tail_too_far_is_a_fault :
    (after .commandTail (writingWord 0x1FF00000 257 boot)).report.waiting = [.pathFault .badCommandTail 1 0x1FF00000] ∧
    (after .commandTail (writingWord 0x1FF00000 256 boot)).command.tail = 256 := by decide +kernel

/-- One write hands over the tail and the toggle of its word. -/
theorem test_toggle_is_bit_0 :
    (after .triggerToggle (writingWord 0x1FF00000 (3 * 2 ^ 32 + 5) boot)).capture.messages = [.toggle true] ∧
    (after .triggerToggle (writingWord 0x1FF00000 (3 * 2 ^ 32 + 5) boot)).command.tail = 5 := by decide +kernel

/-- Section 8.3: a second flip before the first is taken is no trigger, and nor is a rewrite of the first; one trigger is
taken. -/
theorem test_second_flip_is_no_trigger :
    let flip := fun (v : LinkWord) (s : State) => after .triggerToggle (s.onLink (fun l =>
      { l with arrival := [.write 0x1FF00000 [v]], hostDown := [] }))
    let s := flip 0 (flip (2 ^ 32) boot)
    let t := after .captureTrigger (flip (2 ^ 32) s)
    s.capture.messages = [.toggle true] ∧ t.capture.acknowledge = true ∧
    (after .captureTrigger t).capture = { t.capture with messages := [] } := by decide +kernel
theorem test_view_read_pins_the_newest_frame :
    let s := withTable [Slot.reset, slotWith .filled 4, slotWith .filled 5, Slot.reset] viewing
    let t := after .viewApertureRead (reading 0x4000000 1 (s.onSlots (fun m => { m with seq := 5 })))
    (t.steady.pass.pinned, t.link.hostDown) = (some 2, [.read 12 0x60C0000 1]) := by decide +kernel

/-- A pass opened anew on the slot it was on leaves the pin count as it was, and yet the image of that slot is written (R17). -/
theorem test_repinned_slot_has_its_image_written :
    let s := (withTable [Slot.reset, { slotWith .filled 5 with pins := 1 }, Slot.reset, Slot.reset] viewing).onSteady (fun c =>
      { c with source := some 1, pass := { c.pass with status := .opened, pinned := some 1, leftLineZero := true,
                                                       geometry := presentGeometry viewing } })
    let t := after .viewApertureRead (reading 0x4000000 1 s)
    (t.steady.pass.number, (slotAt t 1).pins, t.slots.imageWaiting) = (1, 1, [1]) := by decide +kernel

/-- A BLANK pass opened anew shows the values it showed, and yet the Status Block is written (R169). -/
theorem test_reopened_blank_pass_writes_the_status_block :
    let s := (viewing.onSteady (fun c => openPass .blank none (presentGeometry viewing) c)).onSteady (fun c =>
      { c with pass := { c.pass with leftLineZero := true } })
    let t := after .viewApertureRead (reading 0x4000000 1 (s.onReport (fun r => { r with statusWaiting := false })))
    (t.steady.pass.status, t.steady.pass.number, t.report.statusWaiting) = (.blank, 2, true) := by decide +kernel
theorem test_step_loss_corrects_the_position :
    let g : Segment := { motor := .focus, up := true, steps := 16, period := 500, timeout := 13000, homing := false }
    let s := viewing.onLens (fun l => { l with segment := some g, current := some .focus, focus := { l.focus with
      position := 1016, state := .running, target := 1100 } })
    (after (.lensSegmentDone false true 11 0) s).lens.focus.position = 1029 ∧
    (after (.lensSegmentDone false true 10 0) s).lens.focus.position = 1032 := by decide +kernel

/-- The end of an iris move is told to the Exposure Controller (R70, R71). -/
theorem test_iris_move_end_reaches_the_exposure :
    let s := viewing.onLens (fun l =>
      { l with current := some .iris, iris := { l.iris with position := 39, target := 40, state := .running },
               segment := some { motor := .iris, up := true, steps := 1, period := 2000, timeout := 7000, homing := false } })
    (after (.lensSegmentDone false true 0 0) s).exposure.irisReached = some 40 := by decide
theorem test_trigger_starts_a_burst :
    let s := viewing.onCapture (fun c => { c with mode := .armed, messages := [.toggle true], id := 65535 })
    let t := after .captureTrigger s
    (t.capture.mode, t.capture.id, t.capture.acknowledge) = (.running, 1, true) := by decide
/-- R131: the announcement of a frame that completed before ARM CAPTURE was taken does nothing, also when the command has held
that frame; a toggle that waits stays. -/
theorem test_announcement_before_arming_does_nothing :
    let s := arriving ((withTable [Slot.reset, slotWith .filled 4, Slot.reset, Slot.reset] viewing).onCapture (fun c =>
      { c with messages := [.completion (announced 4 1), .toggle true] }))
    let t := after (.armCapture 9 1 0) s
    let u := after .captureSlotAnswer (after .holdRequest t)
    (t.capture.messages, t.slots.captureRequest.map (·.frame)) = ([.toggle true], some 4) ∧
    (u.capture.mode, u.capture.heldList, u.capture.effectiveP) = (.armed, [⟨1, 4⟩], 1) ∧
    (after .captureCompletion u).capture = u.capture := by decide +kernel

/-- R131: a frame that completes during the hold requests of ARM CAPTURE is handled in ARMED, with room made for it. -/
theorem test_announcement_during_arming_is_handled :
    let s := arriving (withTable [Slot.reset, slotWith .filled 4, slotWith .filled 5, Slot.reset] viewing)
    let t := (after (.armCapture 9 1 0) s).onCapture (fun c => { c with messages := c.messages ++ [.completion (announced 6 3)] })
    let u := after .captureCompletion (after .captureSlotAnswer (after .holdRequest t))
    (u.capture.work, u.slots.captureRequest.map (·.kind)) = (some (.makeRoom ⟨3, 6⟩), some .unhold) := by decide +kernel
theorem test_reports_are_placed_by_the_count :
    let s := boot.onReport (fun r => { r with waiting := [.commandDone 0x0502 9 0 .done 0], statusWaiting := false,
                                              writeCount := 513, headCopy := 513 })
    (after .reportWrite s).link.ownQueue.map (fun o => (o.addr, o.words)) = [(0x1FF08020, 2)] := by decide +kernel
theorem test_arbiter_gives_the_own_side_its_turn :
    let own : OwnRequest := { purpose := .commandFetch, addr := 0, words := 4, data := [] }
    let s := boot.onLink (fun l => { l with hostRun := 3, hostDown := [.write 0 [0]], ownQueue := [own] })
    (after .downstreamGrant s).link.forwarded = [.read 256 0 4] := by decide
theorem test_a_response_fills_the_read :
    let e : ReadEntry := { tag := 3, bytes := List.replicate 16 0, error := false, pass := none,
                           fetches := [{ dtag := 12, place := 0, skip := 15, count := 1, granted := true, returned := false }] }
    let t := after (.downstreamReadResponse 12 true [(0xA5 : LinkWord) <<< 120]) (boot.onLink (fun l => { l with readMap := [e] }))
    t.link.delivered.map (fun r => (r.tag, r.error, r.bytes.take 2)) = [(3, true, [0xA5, 0])] := by decide +kernel
theorem test_own_reads_take_the_fetch_address :
    let s := (boot.onReport (fun r => { r with statusFirst := false })).onCommand (fun c => { c with head := 257, tail := 258 })
    (after .commandFetch s).link.ownQueue =
      [{ purpose := .commandFetch, addr := 0x1FF04040, words := 4, data := [] }] := by decide +kernel

/-- After a power-on reset the Status Block write enters the queue before the first command fetch (R149). -/
theorem test_first_own_request_is_the_status_block :
    let s := after .commandFetch (boot.onCommand (fun c => { c with tail := 1 }))
    (s.link.ownQueue, (after .statusBlockWrite s).link.ownQueue.map (·.addr)) = ([], [0x1FF00100, 0x1FF04000]) := by
  decide +kernel
theorem test_reset_sample_of_the_strap : (after (.powerOnReset 7) viewing).link.strap = 7 ∧
    regionBase 7 = 0xFFF00000 := by decide

/-! ## Witnesses of the statements' hypotheses -/

theorem witness_StepRunsTheFrontCommand : ({ boot with pending := [.commandFetch] } : State).pending = .commandFetch :: [] :=
  rfl
theorem witness_EveryCommandAnswers : needsRecord (.homeLens 7) = true ∧ ¬ CommandArrives boot := by decide
theorem witness_CommandArrives : CommandArrives (arriving boot) ∧ CommandArrives (arriving prepared) ∧
    CommandArrives (arriving viewing) := by decide

/-- Two reads are kept while the queue has one place; and the first Status Block write has not entered after reset. -/
theorem witness_SettleChangesOnlyWaitingWrites :
    let read : OwnRequest := { purpose := .commandFetch, addr := 0, words := 4, data := [] }
    let s : State := { boot with
      report := { boot.report with statusFirst := false }, command := { boot.command with waitingReads := [read, read] },
      link := { boot.link with ownQueue := List.replicate 7 read } }
    ((settle s s).slots.imageWaiting = [] ∧ s.report.statusFirst = false) ∧ (settle s s).command.waitingReads = [read] ∧
    ¬ ((settle boot boot).slots.imageWaiting = [] ∧ boot.report.statusFirst = false) := by decide

/-- SET STATISTICS, SET METERING and SET LENS DRIVE at the ends of their ranges and just past them; the state is `arriving
boot`, as for SET COMPENSATION. -/
theorem witness_ParameterCommandsReplaceAllOrNothing_ranges :
    CommandArrives (arriving boot) ∧
    (let legal := fun (sat cor : BitVec 16) (on off : BitVec 8) (dark : BitVec 16) (line : BitVec 32) =>
      decide (1 ≤ sat.toNat ∧ sat.toNat ≤ 4095 ∧ cor.toNat ≤ 1023 ∧ 1 ≤ on.toNat ∧ off.toNat ≤ 254 ∧ dark.toNat ≤ 16380 ∧
        (line.toNat = 0 ∨ 1000 ≤ line.toNat ∧ line.toNat ≤ 1000000) ∧ off.toNat < on.toNat)
     legal 4095 1023 255 254 16380 1000000 ∧ legal 1 0 1 0 0 1000 ∧ ¬ legal 4096 0 1 0 0 0 ∧ ¬ legal 1 0 1 1 0 0 ∧
       ¬ legal 1 0 1 0 0 999) ∧
    (let legal := fun (target hLim : BitVec 16) (dead gain step pattern : BitVec 8) =>
      decide (1 ≤ target.toNat ∧ target.toNat ≤ 16380 ∧ hLim.toNat ≤ 256 ∧ dead.toNat ≤ 16 ∧ 1 ≤ gain.toNat ∧
        gain.toNat ≤ 16 ∧ 1 ≤ step.toNat ∧ step.toNat ≤ 64 ∧ pattern.toNat ≤ 3)
     legal 16380 256 16 16 64 3 ∧ legal 1 0 0 1 1 0 ∧ ¬ legal 0 0 0 1 1 0 ∧ ¬ legal 1 257 0 1 1 0 ∧ ¬ legal 1 0 0 1 65 0) ∧
    ((2 : BitVec 8).toNat ≤ 2 ∧ 2 < (3 : BitVec 8).toNat) ∧
    (let legal := fun (arb pz : BitVec 8) (t settleUs : BitVec 16) =>
      decide (arb.toNat ≤ 1 ∧ pz.toNat ≤ 7 ∧ (100 ≤ t.toNat ∧ t.toNat ≤ 20000) ∧ settleUs.toNat ≤ 20000)
     legal 1 7 100 20000 ∧ legal 0 0 20000 0 ∧ ¬ legal 2 0 100 0 ∧ ¬ legal 0 8 100 0 ∧ ¬ legal 0 0 99 0) := by decide

/-- SET MANUAL EXPOSURE with values that fit at the limits, and with a stop beyond the last. -/
theorem witness_ParameterCommandsReplaceAllOrNothing_manual :
    CommandArrives (arriving prepared) ∧ (arriving prepared).zoom.derived = some derived500 ∧
    (let p := (arriving prepared).exposure.program
     p.tlMin ≤ p.tlMax ∧ logL 29884416 = p.tlMax ∧ p.tlMin ≤ logL 29884416 ∧ (logL (256 / 8) : Int) - 160 = 0 ∧
       (0 : Int) ≤ p.glMax ∧ 5 ≤ derived500.stops - 1 ∧ ¬ 6 ≤ derived500.stops - 1) := by decide

/-- With no cam table the stop count is 1: iris stop 0 fits and 1 does not. -/
theorem witness_ParameterCommandsReplaceAllOrNothing_noCam :
    CommandArrives (arriving boot) ∧ (arriving boot).zoom.derived = none ∧
    (let p := (arriving boot).exposure.program
     p.tlMin ≤ p.tlMax ∧ logL 29884416 ≤ p.tlMax ∧ p.tlMin ≤ logL 29884416) ∧
    (0 : BitVec 8).toNat ≤ 1 - 1 ∧ ¬ (1 : BitVec 8).toNat ≤ 1 - 1 := by decide
theorem witness_SetCompensationClampsTo96 :
    CommandArrives (arriving boot) ∧ (-96 ≤ (96 : BitVec 16).toInt ∧ (96 : BitVec 16).toInt ≤ 96) ∧
    96 < (97 : BitVec 16).toInt ∧ (BitVec.ofInt 16 (-97)).toInt < -96 := by decide

/-- The state with a search state. -/
def searching (st : SearchState) (s : State) : State :=
  s.onFocus (fun f => { f with search := st, aeHold := decide (st = .coarse ∨ st = .fine ∨ st = .peak) })

/-- SET FOCUS MODE and SET FOCUS WINDOWS in each search state; windows of 16 and of 15 quads, and one past the frame. -/
theorem witness_FocusParametersActOnTheSearch :
    (∀ st ∈ [SearchState.idle, .coarse, .fine, .peak, .locked, .monitor, .failed],
      CommandArrives (arriving (searching st viewing)) ∧ (arriving (searching st viewing)).focus.search = st) ∧
    ((2 : BitVec 8).toNat ≤ 2 ∧ 1 ≤ (128 : BitVec 8).toNat ∧ (128 : BitVec 8).toNat ≤ 128 ∧ (1024 : BitVec 16).toNat ≤ 1024) ∧
    ¬ (1025 : BitVec 16).toNat ≤ 1024 ∧
    (let s := arriving (searching .locked viewing)
     let wrong := fun (w : WindowArg) => decide (w.enable ≠ 0 ∧ ¬ (w.width = 0 ∧ w.height = 0) ∧
      (w.width.toNat < 16 ∨ w.height.toNat < 16 ∨ s.command.valid = true ∧
        (s.command.config.width / 2 < w.x.toNat + w.width.toNat ∨ s.command.config.height / 2 < w.y.toNat + w.height.toNat)))
     ¬ wrong ⟨240, 176, 16, 16, 1⟩ ∧ ¬ wrong ⟨0, 0, 0, 0, 1⟩ ∧ ¬ wrong ⟨0, 0, 15, 15, 0⟩ ∧ wrong ⟨0, 0, 15, 16, 1⟩ ∧
       wrong ⟨241, 0, 16, 16, 1⟩ ∧ wrong ⟨0, 177, 16, 16, 1⟩) := by decide
theorem witness_SetSteadyRoundsAndClampsTheMargins :
    CommandArrives (arriving boot) ∧ (arriving boot).command.valid = false ∧ CommandArrives (arriving prepared) ∧
    (arriving prepared).command.valid = true ∧
    (1 ≤ (48 : BitVec 8).toNat ∧ (48 : BitVec 8).toNat ≤ 48 ∧ (64 : BitVec 8).toNat ≤ 64) ∧ ¬ (49 : BitVec 8).toNat ≤ 48 ∧
    (let c := (arriving prepared).command.config
     min (4 * (32 / 4)) (c.width / 2 / 8) = 32 ∧ min (4 * (20 / 4)) (c.height / 2 / 8) = 20 ∧
       min (4 * (33 / 4)) (c.width / 2 / 8) ≠ 33 ∧ min (4 * (28 / 4)) (c.height / 2 / 8) = 24) := by decide
theorem witness_RecenterSteadyZeroesTheOffset : CommandArrives (arriving viewing) := by decide

/-- One slot in each state that can be shown, and a source in force. -/
def shownTable : State :=
  (withTable [Slot.reset, slotWith .filled 4, slotWith .held 5, slotWith .kept 6] viewing).onSlots (fun m => { m with seq := 6 })

theorem witness_ViewSourceFollowsThePinAnswer :
    (arriving shownTable).steady.source = none ∧
    (arriving (shownTable.onSteady (fun c => { c with source := some 3 }))).steady.source = some 3 ∧
    CommandArrives (arriving shownTable) ∧ (arriving shownTable).command.valid = true ∧ (3 : BitVec 8) ≠ 0xFF ∧
    (arriving shownTable).slots.table[3]? = some (slotWith .kept 6) ∧ (arriving shownTable).slots.table[4]? = none ∧
    (let s := (inHand 0x0703 shownTable).onCommand (fun c => { c with slotWanted := some 1 })
     let pin := fun (n : Nat) => s.onSlots (fun m => { m with pinMessages := [.reviewPin n] })
     (pin 1).slots.pinMessages = [.reviewPin 1] ∧ (pin 1).command.slotWanted = some 1 ∧
       (pin 1).command.inHand = some { code := 0x0703, tag := 9 } ∧ (pin 1).slots.table[1]? = some (slotWith .filled 4) ∧
       (pin 0).slots.pinMessages = [.reviewPin 0] ∧ (pin 0).command.slotWanted ≠ some 0 ∧
       (s.onSlots (fun m => { m with pinMessages := [.unpin 2] })).slots.pinMessages = [.unpin 2] ∧
       s.slots.pinMessages = []) := by decide

/-- A review pin for slot 0, which cannot be shown, waits while the command waits for it. -/
theorem witness_ViewSourceFollowsThePinAnswer_refused :
    ∃ (s : State) (h : InHand), s.slots.pinMessages = .reviewPin 0 :: [] ∧ s.command.slotWanted = some 0 ∧ s.command.inHand = some h :=
  ⟨((inHand 0x0703 shownTable).onCommand (fun c => { c with slotWanted := some 0 })).onSlots
    (fun m => { m with pinMessages := [.reviewPin 0] }), _, rfl, rfl, rfl⟩

/-- The state with a lens state. -/
def lensIn (m : LensMode) (s : State) : State := s.onLens (fun l => { l with mode := m })

/-- The lens at rest at zoom 0 and the given focus. -/
def lensAt (f : Nat) (s : State) : State :=
  s.onLens (fun l => { l with zoom := { l.zoom with position := 0 }, focus := { l.focus with position := f } })

/-- A segment of one step is in flight. -/
def stepping (m : Motor) (s : State) : State :=
  s.onLens (fun l => { l with segment := some { motor := m, up := true, steps := 1, period := 500, timeout := 5500,
                                                homing := false } })

theorem witness_LensAndZoomCommandsFollowTheLensState :
    (∀ m ∈ [LensMode.unhomed, .parked, .fault, .homing, .ready, .parking],
      CommandArrives (arriving (lensIn m prepared)) ∧ (arriving (lensIn m prepared)).lens.mode = m ∧
      (arriving (lensIn m prepared)).command.mode = .standby ∧ (arriving (lensIn m prepared)).lens.draining = false) ∧
    (arriving viewing).command.mode = .view ∧
    (arriving (stepping .focus prepared)).lens.segment ≠ none ∧ (arriving (lensAt 0 prepared)).lens.segment = none ∧
    (arriving (lensAt 0 prepared)).lens.zoom.position = 0 ∧ (arriving (lensAt 0 prepared)).lens.focus.position = 0 ∧
    0 < (arriving (lensAt 1 prepared)).lens.focus.position ∧
    (arriving prepared).zoom.cam ≠ [] ∧ (arriving prepared).zoom.cam.getLast?.map (·.zoom) = some 1000 := by decide

/-- PARK LENS with the zoom one step from 0 and the focus at 0. -/
theorem witness_LensAndZoomCommandsFollowTheLensState_zoom :
    let s := arriving ((lensAt 0 prepared).onLens (fun l => { l with zoom := { l.zoom with position := 1 } }))
    CommandArrives s ∧ s.command.mode = .standby ∧ s.lens.mode = .ready ∧ s.lens.segment = none ∧ 0 < s.lens.zoom.position ∧
    s.lens.focus.position = 0 := by decide
theorem witness_FocusCommandsStartCancelAndMove :
    (∀ st ∈ [SearchState.idle, .coarse, .fine, .peak, .locked, .monitor, .failed],
      let s := arriving (searching st viewing)
      CommandArrives s ∧ s.focus.search = st ∧ s.command.mode = .view ∧ s.lens.mode = .ready ∧
      s.zoom.derived = some derived500 ∧ s.focus.mode ≠ .manual ∧ s.zoom.moving = false) ∧
    (let s := arriving (viewing.onZoom (fun z => { z with moving := true }))
     CommandArrives s ∧ s.zoom.moving = true ∧ s.zoom.derived ≠ none) ∧
    (CommandArrives (arriving boot) ∧ (arriving boot).lens.mode ≠ .ready) ∧ derived500.pInf ≤ derived500.pNear := by decide

/-- ARM CAPTURE with one FILLED frame to hold, and with none; STOP CAPTURE in each state; RELEASE SLOT of a KEPT slot. -/
theorem witness_CaptureCommandsArmStopAndRelease :
    (let s := arriving (withTable [Slot.reset, slotWith .filled 4, Slot.reset, Slot.reset] viewing)
     CommandArrives s ∧ s.capture.work = none ∧ s.command.mode = .view ∧ s.capture.mode = .idle ∧
       min 8 (s.command.config.slotCount - 3 - countSlots s .kept) = 1 ∧
       (candidates s).drop ((candidates s).length - 1) = { slot := 1, frame := 4 } :: []) ∧
    ((candidates (arriving viewing)) = [] ∧ (arriving viewing).capture.mode = .idle) ∧
    ((8 : BitVec 8).toNat ≤ 8 ∧ (64 : BitVec 8).toNat ≤ 64 ∧ ¬ (9 : BitVec 8).toNat ≤ 8) ∧
    (arriving prepared).command.mode = .standby ∧
    (∀ m ∈ [CaptureMode.idle, .armed, .running],
      let s := arriving (viewing.onCapture (fun c => { c with mode := m }))
      CommandArrives s ∧ s.capture.work = none ∧ s.capture.mode = m ∧ s.capture.heldList = []) ∧
    (let s := arriving (viewing.onCapture (fun c => { c with mode := .armed, heldList := [⟨2, 5⟩] }))
     s.capture.mode = .armed ∧ s.capture.heldList = ⟨2, 5⟩ :: []) ∧
    (let s := arriving shownTable
     s.command.valid = true ∧ (3 : BitVec 8).toNat < s.command.config.slotCount ∧
       s.slots.table[3]? = some (slotWith .kept 6) ∧ s.slots.table[4]? = none) := by decide

/-- A command that arrives while a keep of the burst is in hand. -/
theorem witness_CaptureCommandsArmStopAndRelease_waits :
    let s := arriving (viewing.onCapture (fun c => { c with mode := .running, work := some (.keepFrame ⟨2, 5⟩ false) }))
    CommandArrives s ∧ s.capture.work ≠ none := by decide

/-- ARM CAPTURE while a toggle and an announcement wait. -/
theorem witness_CaptureCommandsArmStopAndRelease_messages :
    let s := arriving (viewing.onCapture (fun c => { c with messages := [.toggle true, .completion (announced 5 1)] }))
    CommandArrives s ∧ s.capture.work = none ∧ s.command.mode = .view ∧ s.capture.mode = .idle ∧
    s.capture.messages.filter (fun m => match m with | .toggle _ => true | .completion _ => false) = [.toggle true] := by
  decide

/-- CONFIGURE FRAME: the smallest frame, the largest, and what differs from a kept layout. -/
theorem witness_ConfigureFrameChecksAndRebuilds :
    CommandArrives (arriving boot) ∧ (arriving boot).command.mode = .standby ∧ (arriving boot).command.valid = false ∧
    (arriving viewing).command.mode = .view ∧
    (let apart := fun (a x b y : Nat) => decide (a + x ≤ b ∨ b + y ≤ a)
     let region := boot.link.strap.toNat * 0x20000000 + 0x1FF00000
     let legal := fun (w h cap view pool stride n k : Nat) =>
      decide (512 ≤ w ∧ w ≤ 4608 ∧ w % 64 = 0 ∧ 384 ≤ h ∧ h ≤ 3456 ∧ h % 48 = 0 ∧ 4 ≤ n ∧ n ≤ 32 ∧ stride % 4096 = 0 ∧
      w * h * 2 ≤ stride ∧ pool % 4096 = 0 ∧ pool + n * stride ≤ 2 ^ 32 ∧ cap % 0x2000000 = 0 ∧ view % 0x2000000 = 0 ∧
      1 ≤ k ∧ k ≤ 3 ∧ apart cap 0x2000000 view 0x2000000 ∧ apart cap 0x2000000 region 0x100000 ∧
      apart cap 0x2000000 pool (n * stride) ∧ apart view 0x2000000 region 0x100000 ∧
      apart view 0x2000000 pool (n * stride) ∧ apart region 0x100000 pool (n * stride))
     legal 512 384 0x2000000 0x4000000 0x6000000 0x60000 4 1 ∧
     legal 4608 3456 0x2000000 0x4000000 (2 ^ 32 - 32 * 0x1E60000) 0x1E60000 32 3 ∧
     ¬ legal 448 384 0x2000000 0x4000000 0x6000000 0x60000 4 1 ∧ ¬ legal 512 384 0x2000000 0x2000000 0x6000000 0x60000 4 1 ∧
     ¬ legal 512 384 0x2000000 0x4000000 0x5FFF000 0x60000 4 1) ∧
    (let s := arriving (prepared.onSlots (fun m => { m with table := shownTable.slots.table }))
     CommandArrives s ∧ s.command.mode = .standby ∧ s.command.valid = true ∧ (∃ e ∈ s.slots.table, e.state = .kept) ∧
       s.command.config.width = 512 ∧ s.command.config.height = 384) := by decide
theorem witness_SetModeEntersAndLeavesView :
    (let s := arriving prepared
     CommandArrives s ∧ s.command.mode = .standby ∧ s.command.valid = true ∧ s.lens.mode = .ready ∧
       s.command.camMark = true ∧ s.command.programMark = true ∧ s.zoom.derived = some derived500) ∧
    (CommandArrives (arriving boot) ∧ (arriving boot).command.mode = .standby ∧ (arriving boot).lens.mode ≠ .ready) ∧
    (let s := arriving (filling 64)
     CommandArrives s ∧ s.command.mode = .view ∧ s.capture.work = none ∧ s.capture.mode = .idle ∧
       s.slots.tracker.inProgress = some (5, 1) ∧ s.slots.table[1]? = some (slotWith .filling 5)) ∧
    ((2 : BitVec 8) ≠ 0 ∧ (2 : BitVec 8) ≠ 1) := by decide

/-- SET MODE STANDBY with the capture RUNNING, ARMED with no frame held and with one, and with work in hand; and a search
whose AE hold matches it. -/
theorem witness_SetModeEntersAndLeavesView_capture :
    (∀ m ∈ [CaptureMode.running, .armed], ∀ held ∈ [[], [(⟨2, 5⟩ : HeldEntry)]],
      let s := arriving (viewing.onCapture (fun c => { c with mode := m, heldList := held }))
      CommandArrives s ∧ s.command.mode = .view ∧ s.capture.work = none ∧ s.capture.mode = m ∧ s.capture.heldList = held) ∧
    (let s := arriving (viewing.onCapture (fun c => { c with mode := .running, work := some (.keepFrame ⟨2, 5⟩ false) }))
     CommandArrives s ∧ s.command.mode = .view ∧ s.capture.work ≠ none) ∧ HoldMatchesSearch (arriving viewing) := by
  refine ⟨by decide, by decide, ?_⟩
  unfold HoldMatchesSearch
  decide

/-- A PROGRAM table image is being fetched: only its header is outstanding. -/
def fetchingTable : State :=
  (inHand 0x0A03 boot).onCommand (fun c =>
    { c with staging := some { kind := .program, address := 0x80000000, length := none, image := [], outstanding := [0],
                               failed := false } }) |>.onLink (fun l =>
    { l with ownReads := [{ dtag := 256, purpose := .tableFetch 0 }] })

theorem witness_LoadTableFetchesChecksAndCommits :
    (CommandArrives (arriving boot) ∧ CommandArrives (arriving viewing) ∧ (arriving viewing).command.mode = .view ∧
      (0x80000008 : BitVec 32).toNat % 16 ≠ 0 ∧ (0x80000000 : BitVec 32).toNat % 16 = 0 ∧ (4 : BitVec 8) ≠ 3) ∧
    ({ dtag := 255, purpose := .tableFetch 0 } : OwnRead) ∉ fetchingTable.link.ownReads ∧
    fetchingTable.command.inHand = some { code := 0x0A03, tag := 9 } ∧
    fetchingTable.link.ownReads.find? (fun o => o.dtag == 256) = some { dtag := 256, purpose := .tableFetch 0 } ∧
    fetchingTable.command.staging = some { kind := .program, address := 0x80000000, length := none, image := [],
                                           outstanding := [0], failed := false } ∧
    fetchingTable.command.waitingReads = [] ∧
    (dataBytes [0x0102]).take 2 = [2, 1] ∧ (dataBytes [0x0102]).length = 16 ∧ (dataBytes [0x0202]).take 2 = [2, 2] := by
  decide +kernel

/-- The second word of a PROGRAM image is the last outstanding, and one of two. -/
theorem witness_LoadTableFetchesChecksAndCommits_returns :
    let t : Staging := { kind := .program, address := 0x80000000, length := some 32, image := List.replicate 32 0,
                         outstanding := [16], failed := false }
    let s := (fetchingTable.onCommand (fun c => { c with staging := some t })).onLink (fun l =>
      { l with ownReads := [{ dtag := 271, purpose := .tableFetch 16 }] })
    s.link.ownReads.find? (fun o => o.dtag == 271) = some { dtag := 271, purpose := .tableFetch 16 } ∧
    s.command.staging = some t ∧ t.length = some 32 ∧ t.failed = false ∧ t.outstanding = [16] ∧
    ({ t with outstanding := [16, 528] }.outstanding.filter (· != 16)) ≠ [] := by decide

/-- The header of the longest WEIGHTS image, whose rest takes two reads, of the longest cam image, and of images that end at
and above the top of the address space. -/
theorem witness_LoadTableFetchesChecksAndCommits_headers :
    (∀ k ∈ [TableKind.cam, .program, .weights], ∀ a ∈ [0, 0x80000000, 2 ^ 32 - 32, 2 ^ 32 - 16],
      let t : Staging := { kind := k, address := a, length := none, image := [], outstanding := [0], failed := false }
      let s := fetchingTable.onCommand (fun c => { c with staging := some t })
      s.command.staging = some t ∧ s.command.waitingReads = [] ∧ a % 16 = 0 ∧ a < 2 ^ 32) ∧
    ((dataBytes [0x0403]).take 2 = [3, 4] ∧ (dataBytes [0x1801]).take 2 = [1, 24] ∧ 16 ≤ (dataBytes [0x1801]).length) ∧
    ((16 + 192 * 4) / 16 - 1 = 48 ∧ (16 + 16 * 24) / 16 - 1 = 24 ∧ (2 ^ 32 - (2 ^ 32 - 16 + 16)) / 16 = 0) := by
  decide +kernel

/-- A read of a WEIGHTS image fails while the other is in flight, while it has not been issued, and when it is the last. -/
theorem witness_LoadTableFetchesChecksAndCommits_fails :
    let t := fun (l : List Nat) => ({ kind := .weights, address := 0, length := some 784, image := List.replicate 784 0,
                                      outstanding := l, failed := false } : Staging)
    let waits : OwnRequest := { purpose := .tableFetch 528, addr := 528, words := 16, data := [] }
    let s := fun (l : List Nat) (reads : List OwnRequest) =>
      (fetchingTable.onCommand (fun c => { c with staging := some (t l), waitingReads := reads })).onLink (fun l =>
        { l with ownReads := [{ dtag := 271, purpose := .tableFetch 16 }] })
    (∀ l ∈ [[16], [16, 528]], ∀ reads ∈ [[], [waits]],
      (s l reads).command.staging = some (t l) ∧ (s l reads).command.waitingReads = reads ∧
      (s l reads).link.ownReads.find? (fun o => o.dtag == 271) = some { dtag := 271, purpose := .tableFetch 16 } ∧
      (s l reads).command.inHand = some { code := 0x0A03, tag := 9 }) ∧
    ([16].filter (· != 16) = [] ∧ [16, 528].filter (· != 16) = [528]) := by decide +kernel

/-- Two bytes, lower byte first. -/
def two (n : Nat) : List Byte := [BitVec.ofNat 8 n, BitVec.ofNat 8 (n / 256)]

/-- A cam node of an image. -/
def nodeBytes (n : CamNode) : List Byte :=
  two n.zoom ++ two n.focal ++ two n.alOpen ++ [BitVec.ofNat 8 n.stops, BitVec.ofNat 8 n.stepAl] ++ two n.pInf ++ two n.pNear ++
  two n.coarse ++ [0, 0]

/-- A table image of one kind, whose count and check come first. -/
def image (kind count : Byte) (check : List Byte) (entries : List Byte) : List Byte :=
  [kind, count, 0, 0] ++ check ++ List.replicate 8 0 ++ entries

/-- Cam images of two nodes at the ends of their ranges; a zoom target above, at and below the new z_max. -/
theorem witness_LoadTableFetchesChecksAndCommits_cam :
    let low : CamNode := { zoom := 0, focal := 1, alOpen := 64, stops := 1, stepAl := 8, pInf := 0, pNear := 1, coarse := 8 }
    let high : CamNode := { zoom := 1023, focal := 65535, alOpen := 320, stops := 6, stepAl := 64, pInf := 2046, pNear := 2047,
                            coarse := 128 }
    let l := image 1 2 [0xFA, 0xEF, 0xF8, 0xAF] (nodeBytes low ++ nodeBytes high)
    sumWords l % 2 ^ 32 = 0 ∧ camNode l 0 = low ∧ camNode l 1 = high ∧ camLegal [low, high] = true ∧
    camLegal [low, { high with zoom := 0 }] = false ∧ camLegal [low, { high with zoom := 1024 }] = false ∧
    (fetchingTable.zoom.target = none ∧ ∃ z, (fetchingTable.onZoom (fun c => { c with target := some 1024 })).zoom.target =
      some z ∧ 1023 < z) := by
  refine ⟨by decide +kernel, by decide +kernel, by decide +kernel, by decide, by decide, by decide, rfl, _, rfl, by decide⟩

/-- WEIGHTS images of one pattern of 15s, and of 16s. -/
theorem witness_LoadTableFetchesChecksAndCommits_weights :
    let l := fun (w : Byte) (check : List Byte) => image 3 1 check (List.replicate 192 w)
    sumWords (l 15 [0x2D, 0x2C, 0x2D, 0x2D]) % 2 ^ 32 = 0 ∧ (∀ w ∈ ((l 15 []).drop 12).take 192, w.toNat ≤ 15) ∧
    ¬ (∀ w ∈ ((l 16 []).drop 12).take 192, w.toNat ≤ 15) := by decide +kernel

/-- A PROGRAM table image at the ends of its ranges: TL_min 190, TL_max 793, GL_max 192, steady credit 96, crop16 16. -/
def programImage (check : List Byte) : List Byte :=
  [2, 1, 0, 0] ++ check ++ List.replicate 8 0 ++ [190, 0, 0x19, 3, 192, 96, 16, 0] ++ List.replicate 8 0

/-- A whole image, with the check of section 12.6's usage note and without it. -/
theorem witness_LoadTableFetchesChecksAndCommits_image :
    sumWords (programImage [0x80, 0x9D, 0xD6, 0xFC]) % 2 ^ 32 = 0 ∧ sumWords (programImage [0, 0, 0, 0]) % 2 ^ 32 ≠ 0 ∧
    programLegal (programOf (programImage [0x80, 0x9D, 0xD6, 0xFC])) = true ∧
    fetchingTable.command.inHand = some { code := 0x0A03, tag := 9 } := by decide +kernel
theorem test_program_table_is_committed :
    let t : Staging := { kind := .program, address := 0, length := some 32, image := programImage [0x80, 0x9D, 0xD6, 0xFC],
                         outstanding := [], failed := false }
    (finishImage t fetchingTable).exposure.program = { tlMin := 190, tlMax := 793, glMax := 192, credit := 96, crop := 16 } ∧
    (finishImage t fetchingTable).report.waiting = [.commandDone 0x0A03 9 0 .done 0] := by decide +kernel

theorem witness_SoftResetResetsAndResynchronises :
    CommandArrives (arriving shownTable) ∧ (arriving shownTable).slots.table[3]? = some (slotWith .kept 6) ∧
    (arriving shownTable).slots.table[2]? = some (slotWith .held 5) ∧ (arriving shownTable).slots.tracker.inProgress = none ∧
    (let s := inHand 0x0A04 boot
     s.command.cycle = .executing ∧ s.command.inHand = some { code := 0x0A04, tag := 9 } ∧ s.lens.draining = false) := by
  decide

/-- A frame in progress, a segment in flight, each lens state, and a hand-over that is outstanding. -/
theorem witness_SoftResetResetsAndResynchronises_lens :
    (let s := arriving (filling 64)
     CommandArrives s ∧ s.slots.tracker.inProgress = some (5, 1) ∧ s.slots.table[1]? = some (slotWith .filling 5)) ∧
    (CommandArrives (arriving (stepping .zoom viewing)) ∧ (arriving (stepping .zoom viewing)).lens.segment ≠ none) ∧
    (∀ m ∈ [LensMode.homing, .parking, .ready], (arriving (lensIn m prepared)).lens.mode = m ∧
      (arriving (lensIn m prepared)).lens.segment = none) ∧
    (ZoomNotice.handover 464 ∈ (arriving (viewing.onZoom (fun z => { z with fromLens := [.handover 464] }))).zoom.fromLens ∧
      ¬ ∃ n ∈ (arriving viewing).zoom.fromLens, n = .handover 464) ∧ boot.lens.heldEvents.length ≤ 11 := by decide

/-- A motor in each state, with a segment in flight and with none; and a slot in each state that is not emptied. -/
theorem witness_SoftResetResetsAndResynchronises_motors :
    (∀ st ∈ [MotorState.idle, .pending, .running, .preempted], ∀ s ∈ [viewing, stepping .focus viewing],
      let x := arriving (s.onLens (fun l => { l with zoom := { l.zoom with state := st } }))
      CommandArrives x ∧ x.lens.zoom.state = st ∧ (x.lens.segment = none ↔ s.lens.segment = none)) ∧
    (∀ i ∈ [0, 3], ∃ e, (arriving shownTable).slots.table[i]? = some e ∧ e.state ≠ .filled ∧ e.state ≠ .held) ∧
    (let s := arriving (viewing.onSteady (fun c => openPass .opened (some 1) (presentGeometry viewing) c))
     CommandArrives s ∧ s.steady.pass.status ≠ .closed ∧ s.steady.pass.pinned = some 1) := by decide +kernel

/-- SOFT_RESET_COMPLETE with a held event, and with slots KEPT so that the buffer-high flag changes and so that it does not. -/
theorem witness_SoftResetResetsAndResynchronises_complete :
    let e : LensEvent := { event := .stepLoss, motor := some .zoom, cause := none, before := none, after := .ready,
                           difference := 3, zoom := 64, focus := 0, iris := 0 }
    let s := (inHand 0x0A04 shownTable).onLens (fun l => { l with heldEvents := [e] })
    let t := (inHand 0x0A04 boot).onLens (fun l => { l with heldEvents := [e] })
    s.command.cycle = .executing ∧ s.command.inHand = some { code := 0x0A04, tag := 9 } ∧ s.lens.draining = false ∧
    s.lens.heldEvents.length ≤ 11 ∧ (after .softResetComplete s).capture.bufferHigh ≠ s.capture.bufferHigh ∧
    (after .softResetComplete (s.onCapture (fun c => { c with bufferHigh := true }))).capture.bufferHigh = true ∧
    t.command.inHand = some { code := 0x0A04, tag := 9 } := by decide +kernel
theorem witness_FailedFetchCompletesWithMemoryError : CommandArrives (arriving boot) := by decide
theorem witness_CommandsAreFetchedFromTheRing :
    (let s := boot.onCommand (fun c => { c with tail := 1 })
     s.command.cycle = .idle ∧ s.command.tail ≠ s.command.head ∧ (s.report.waiting.filter Report.isCompletion).length < 4) ∧
    (0x0A05 : BitVec 16) ∉ commandCodes ∧ (0x0A04 : BitVec 16) ∈ commandCodes := by decide

/-- The buffer with 15 and with 16 requests; a read whose tag is free and one whose tag is busy; a write, and a write
that must wait for the completion buffer and one that need not. -/
theorem witness_RequestsArriveAndAreTakenInOrder :
    (HostRequest.write 0xFFFFFFF0 [0]).wellFormed = true ∧
    (boot.onLink (fun l => { l with arrival := List.replicate 15 (.read 0 0 1) })).link.arrival.length < 16 ∧
    ¬ (boot.onLink (fun l => { l with arrival := List.replicate 16 (.read 0 0 1) })).link.arrival.length < 16 ∧
    OneRead .plain 0 1 boot ∧ OneWrite .plain 0xFFFFFFF0 1 boot ∧
    (let s := (reading 0 1 boot).onLink (fun l => { l with readMap := [readEntry 3 1] })
     s.link.hostDown = [] ∧ s.link.arrival = .read 3 0 1 :: [] ∧ ∃ e ∈ s.link.readMap, e.tag = (3 : BitVec 6).toNat) ∧
    headRequest ((reading 0 1 boot).onLink (fun l => { l with hostDown := [.read 0 0 1] })) = none := by decide +kernel

/-- The write that completes frame 5 while the completion buffer is full, and the one a word below the frame size. -/
theorem witness_RequestsArriveAndAreTakenInOrder_waits :
    let full := { filling 64 with stats := { viewing.stats with
      buffer := some { frame := 4, torn := true, latch := statLatchOf viewing, acc := clearAccumulators (statLatchOf viewing) } } }
    (writing 0x205FFF0 1 full).link.hostDown = [] ∧ headRequest (writing 0x205FFF0 1 full) = none ∧
    OneWrite .capture 0x205FFE0 1 full := by decide +kernel

/-- A request of each row's kind. -/
theorem witness_RequestsArriveAndAreTakenInOrder_rows :
    OneWrite .plain 0x1FF00000 1 boot ∧ wordFields 0x1FF00000 0 = [.tail 0, .toggle false] ∧
    OneWrite .plain 0x1FF00010 1 boot ∧ wordFields 0x1FF00010 0 = [.head 0, .mask 0] ∧
    OneWrite .capture 0x2000000 1 viewing ∧ OneRead .capture 0x3FFFFF0 1 viewing ∧ OneRead .view 0x4000000 1 viewing ∧
    OneWrite .view 0x5FFFFF0 1 viewing := by decide +kernel

/-- A request of 2 words across the end of the capture aperture. -/
theorem test_request_is_cut_at_the_aperture_end :
    (piecesOf viewing 0x3FFFFF0 2).map (fun p => (p.region, p.addr, p.words, p.place)) =
      [(.capture, 0x3FFFFF0, 1, 0), (.view, 0x4000000, 1, 16)] := by decide +kernel

/-- The first and the last byte of each aperture, and the bytes beside them; and two pieces that follow one another. -/
theorem witness_RequestsAreCutAtRangeBoundaries :
    [0x1FFFFFF, 0x2000000, 0x3FFFFFF, 0x4000000, 0x5FFFFFF, 0x6000000].map (regionAt smallConfig true) =
      [.plain, .capture, .capture, .view, .view, .plain] ∧ regionAt smallConfig false 0x2000000 = .plain ∧
    (piecesOf viewing 0x3FFFFF0 2)[0]?.map (·.region) = some .capture ∧
    (piecesOf viewing 0x3FFFFF0 2)[1]?.map (·.region) = some .view := by decide +kernel

/-- Plain pieces of a write and of a read at the ends of the address space, and a capture piece of a read in a frame, at
the last word of the frame, at the frame size and with no frame. -/
theorem witness_PlainPiecesAndFieldsPassThrough :
    OneWrite .plain 0x1000 1 boot ∧ wordFields 0x1000 0 = [] ∧ OneRead .plain 0xFFFFFFF0 1 boot ∧
    OneRead .capture 0x205FFF0 32 (filling 64) ∧ OneRead .capture 0x2060000 1 (filling 64) ∧
    OneRead .capture 0x2000000 1 viewing := by decide +kernel
theorem witness_PlainPiecesAndFieldsPassThrough_capture :
    viewing.command.mode = .view ∧ viewing.slots.tracker.inProgress = none ∧
    (filling 64).command.mode = .view ∧ (filling 64).slots.tracker.inProgress = some (5, 1) ∧
    min 32 ((frameSize (filling 64) - 0x5FFF0) / 16) = 1 ∧ min 1 ((frameSize (filling 64) - 0x60000) / 16) = 0 := by decide

/-- Each field with all its bits set, alone and in a write of the two words. -/
theorem witness_PlainPiecesAndFieldsPassThrough_fields :
    wordFields 0x1FF00000 (2 ^ 128 - 1) = [.tail 0xFFFF, .toggle true] ∧
    wordFields 0x1FF00010 (2 ^ 128 - 1) = [.head 0xFFFF, .mask 0xFF] ∧
    blockFields 0x1FF00000 (zeros .plain 0x1FEFFFF0 3) = [.tail 0, .toggle false, .head 0, .mask 0] ∧
    OneWrite .plain 0x1FEFFFF0 3 boot := by decide +kernel

/-- A toggle that differs from the acknowledge and one that equals it, while a flip waits. -/
theorem witness_PlainPiecesAndFieldsPassThrough_toggle :
    let s := boot.onCapture (fun c => { c with messages := [.toggle true] })
    true ≠ s.capture.acknowledge ∧ false = s.capture.acknowledge := by decide

/-- With no command in hand, tails 0, 256 and 257; with one in hand and the tail copy at 5, tails 0, 1, 256 and 257. -/
theorem witness_CommandTailIsCheckedAgainstTheHead :
    boot.command.cycle = .idle ∧ boot.command.tail = 0 ∧ (256 - boot.command.head).toNat ≤ 256 ∧
    ¬ (257 - boot.command.head).toNat ≤ 256 ∧
    (let s := boot.onCommand (fun c => { c with cycle := .executing, tail := 5 })
     s.command.cycle ≠ .idle ∧ ¬ 1 ≤ (0 - s.command.head).toNat ∧ 1 ≤ (1 - s.command.head).toNat ∧
     (256 - s.command.head).toNat ≤ 256 ∧ ¬ (257 - s.command.head).toNat ≤ 256) ∧
    OneWrite .plain 0x1FF00000 1 boot ∧ .tail 0 ∈ wordFields 0x1FF00000 0 := by decide +kernel

/-- Heads 3, 5 and 6 while entries 3 and 4 are unconsumed. -/
theorem witness_ReportHeadConsumesEntries :
    (let ring := (boot.onReport (fun r => { r with headCopy := 3, writeCount := 5,
                                                   entries := [⟨.lens, true⟩, ⟨.fault, false⟩] })).report
     3 = ring.headCopy ∧ (ring.writeCount - 5).toNat ≤ (ring.writeCount - ring.headCopy).toNat ∧ 5 ≠ ring.headCopy ∧
       ¬ (ring.writeCount - 6).toNat ≤ (ring.writeCount - ring.headCopy).toNat) ∧
    OneWrite .plain 0x1FF00010 1 boot ∧ .head 0 ∈ wordFields 0x1FF00010 0 := by decide +kernel
theorem witness_UndeliveredAperturePiecesRaiseFaults :
    prepared.command.mode = .standby ∧ viewing.command.mode = .view ∧
    OneWrite .capture 0x2000000 1 prepared ∧ OneWrite .view 0x5FFFFF0 1 prepared ∧
    OneRead .capture 0x3FFFFF0 1 prepared ∧ OneRead .view 0x4000000 1 prepared := by decide +kernel
theorem witness_UndeliveredAperturePiecesRaiseFaults_view :
    OneWrite .view 0x4000000 1 viewing ∧
    (let p := (viewing.onSteady (fun c => { c with pass := { c.pass with status := .opened, completions := 4 } })).steady.pass
     p.status ≠ .closed ∧ p.completions = 4) := by decide +kernel
theorem witness_FillChoiceTakesFreeThenOldest :
    (∃ e, [Slot.reset, Slot.reset][1]? = some e ∧ e.state = .free) ∧
    (∃ e, [Slot.reset, slotWith .filled 1][1]? = some e ∧ e.state = .filled ∧ e.pins = 0) ∧
    freeSlot [Slot.reset, slotWith .filled 1] = none ∧ freeSlot [Slot.reset, slotWith .kept 1] = none ∧
    oldestFilled 2 [Slot.reset, slotWith .kept 1] = none :=
  ⟨⟨_, rfl, rfl⟩, ⟨_, rfl, rfl, rfl⟩, rfl, rfl, rfl⟩

/-- The first write of a frame, of 1 and of 32 words; and an applied set found in the history, and not found. -/
theorem witness_WritesStartAndCompleteFrames :
    OneWrite .capture 0x2000000 1 viewing ∧ OneWrite .capture 0x2000000 32 viewing ∧
    viewing.slots.tracker.inProgress = none ∧ 16 * 32 < frameSize viewing ∧
    chooseFill (viewing.slots.seq + 1) viewing.slots.table = 1 ∧ viewing.slots.table[1]? = some Slot.reset ∧
    viewing.command.config.latency = 2 ∧ (∀ e ∈ viewing.exposure.history, e.tag ≠ some 1) := by decide +kernel

/-- The set issued for frame 210 is the one in force for frame 212, two frames later. -/
theorem witness_WritesStartAndCompleteFrames_applied :
    issued 210 146 ∈ frame212.exposure.history ∧ (issued 210 146).tag = some (212 - BitVec.ofNat 32 2) ∧
    frame212.command.config.latency = 2 ∧
    ∀ e ∈ frame212.exposure.history, e.tag = some (212 - BitVec.ofNat 32 2) → e = issued 210 146 := by decide

/-- The write that completes frame 5, of 1 and of 32 words, the last over the frame size; in sequence and torn. -/
theorem witness_WritesStartAndCompleteFrames_completion :
    OneWrite .capture 0x205FFF0 1 (filling 0x5FFF0) ∧ OneWrite .capture 0x205FFF0 32 (filling 64) ∧
    OneWrite .capture 0x205FE00 32 (filling 0x5FE00) ∧
    (let s := filling 0x5FFF0
     s.command.mode = .view ∧ s.slots.tracker.inProgress = some (5, 1) ∧ s.slots.table[1]? = some (slotWith .filling 5) ∧
       0x5FFF0 = s.slots.tracker.expected ∧ (frameSize s - 0x5FFF0) % 16 = 0 ∧ 0x5FFF0 + 16 * 1 = frameSize s ∧
       s.slots.tracker.stored + 16 * 1 < 2 ^ 32) ∧
    (filling 64).slots.tracker.expected ≠ 0x5FFF0 ∧ frameSize (filling 64) < 0x5FFF0 + 16 * 32 := by decide +kernel

/-- Frame 5 fills slot 2 while slot 1 is FREE, and a spilled frame fills slot 0. -/
def fillingSlot (i : Nat) : State :=
  (withTable (([Slot.reset, Slot.reset, Slot.reset, Slot.reset]).set i (slotWith .filling 5)) viewing).onSlots (fun m =>
    { m with seq := 5, tracker := { inProgress := some (5, i), expected := 64, stored := 64, torn := false } })
theorem witness_WritesStartAndCompleteFrames_restart :
    OneWrite .capture 0x2000000 1 (fillingSlot 1) ∧ OneWrite .capture 0x2000000 32 (fillingSlot 2) ∧
    chooseFill 6 (fillingSlot 1).slots.table = 2 ∧ chooseFill 6 ((fillingSlot 1).slots.table.set 1 Slot.reset) = 1 ∧
    chooseFill 6 ((fillingSlot 2).slots.table.set 2 Slot.reset) = 1 ∧
    (∀ i ∈ [0, 1, 2], (fillingSlot i).command.mode = .view ∧ (fillingSlot i).slots.tracker.inProgress = some (5, i) ∧
      (fillingSlot i).slots.table[i]? = some (slotWith .filling 5)) ∧
    (fillingSlot 2).slots.imageWaiting = [] := by decide +kernel

/-- Both restarts start from consistent tables. -/
theorem witness_WritesStartAndCompleteFrames_consistent : SlotsConsistent (fillingSlot 1) ∧ SlotsConsistent (fillingSlot 2) := by
  refine ⟨⟨?_, ?_, ?_, ?_, ?_, ?_, ?_⟩, ⟨?_, ?_, ?_, ?_, ?_, ?_, ?_⟩⟩
  case refine_2 | refine_9 =>
    intro i e h
    match i with
    | 0 | 1 | 2 | 3 =>
      cases h
      first
        | exact ⟨fun _ => ⟨_, rfl⟩, fun _ => rfl⟩
        | exact ⟨fun f => (nomatch f), fun f => (nomatch f)⟩
    | n + 4 => cases h
  case refine_3 | refine_10 => intro n i h; cases h; exact ⟨_, rfl, rfl⟩
  case refine_1 | refine_8 => intro e h; cases h; decide
  all_goals decide

/-- A restart drops the abandoned frame's latches and takes the new frame's (R12, R45, R115). -/
theorem test_restart_replaces_the_latches :
    let s := (fillingSlot 1).onSteady (fun c => { c with latches := [4, 5].map (fun n =>
      { frame := n, enable := true, range := 24, leak := 4, qualityMin := 40, xl := 0 }) })
    let t := after (.captureApertureWrite 0)
      (s.onLink (fun l => { l with arrival := [.write 0x2000000 [0]] }))
    t.steady.latches.map (·.frame) = [4, 6] ∧ t.stats.measuring.map (·.frame) = some 6 := by decide +kernel
theorem witness_WritesInAFrameAreStoredOrFaulted :
    (let s := filling 64
     s.command.mode = .view ∧ s.slots.tracker.inProgress = some (5, 1) ∧ s.slots.tracker.stored + 16 < 2 ^ 32 ∧
       64 = s.slots.tracker.expected ∧ 64 + 16 < frameSize s ∧ 80 ≠ s.slots.tracker.expected ∧
       0x5FFE0 + 16 < frameSize s ∧ frameSize s ≤ 0x60000 ∧ 0x5FFF0 < frameSize s) ∧
    (∀ a ∈ [0x2000040, 0x2000050, 0x205FFE0, 0x2060000], OneWrite .capture a 1 (filling 64)) ∧
    OneWrite .capture 0x205FFF0 1 viewing ∧ viewing.slots.tracker.inProgress = none := by decide +kernel
theorem witness_CaptureWritesStayInTheFillingSlot :
    OneWrite .capture 0x2000040 32 (filling 64) ∧ OneWrite .capture 0x2000000 32 (filling 64) ∧ (zeros .capture 0x2000040 32).region = .capture ∧
    ∃ u, (filling 64).command.mode = .view ∧ exec (.captureApertureWrite 0) (writing 0x2000040 32 (filling 64)) = .next u :=
  ⟨by decide +kernel, by decide +kernel, rfl, _, rfl, rfl⟩

/-- The view aperture with and without a geometry, at the last word below the view size and at the view size, in an open
pass, in a BLANK pass and with none. -/
theorem witness_ViewReadsAreTranslatedInAPass :
    let noView := viewing.onSteady (fun c => { c with geometryValid := false })
    let opened := viewing.onSteady (fun c => openPass .opened (some 1) (presentGeometry viewing) c)
    let blank := viewing.onSteady (fun c => openPass .blank none (presentGeometry viewing) c)
    viewing.command.mode = .view ∧ noView.steady.geometryValid = false ∧ viewing.steady.geometryValid = true ∧
    OneRead .view 0x4000000 1 noView ∧ OneRead .view 0x4060000 1 viewing ∧ (viewGeometry viewing).size = 0x60000 ∧
    (opened.steady.pass.status = .opened ∧ opened.steady.pass.leftLineZero = false ∧ OneRead .view 0x405FFF0 32 opened ∧
      opened.steady.pass.geometry.size = 0x60000 ∧ OneRead .view 0x405FE00 32 opened) ∧
    (blank.steady.pass.status = .blank ∧ 0x5FFE0 + 16 * 1 < blank.steady.pass.geometry.size ∧ OneRead .view 0x405FFE0 1 blank) ∧
    (viewing.steady.pass.status = .closed ∧ viewing.slots.pinMessages = [] ∧ resolveSource viewing = none ∧
      0 + 16 * 1 < (viewGeometry viewing).size ∧ OneRead .view 0x4000000 1 viewing) ∧
    (resolveSource shownTable = some 3 ∧ shownTable.slots.table[3]? = some (slotWith .kept 6) ∧
      OneRead .view 0x4000000 32 shownTable) := by decide +kernel

/-- The pass `k` of `s` has left line 0. -/
def leftPass (k : PassStatus × Option Nat) (s : State) : State :=
  (s.onSteady (fun c => openPass k.1 k.2 (presentGeometry viewing) c)).onSteady (fun c =>
    { c with pass := { c.pass with leftLineZero := true } })

/-- Reads that open a pass, with a slot to show and with none: the first and the last words of the view and one beyond it, with
no pass; and the last word of line 0 in an OPEN pass, on the slot the source resolves to and on another one, and in a BLANK
pass, that have left line 0. -/
theorem witness_ViewReadsAreTranslatedInAPass_opens :
    (∀ s ∈ [viewing, shownTable], s.steady.geometryValid = true ∧ s.steady.pass.status = .closed ∧
      s.slots.pinMessages = [] ∧ (viewGeometry s).size = 0x5FFF0 + 16 * 1 ∧ OneRead .view 0x4000000 32 s ∧
      OneRead .view 0x405FFF0 1 s ∧ OneRead .view 0x405FFF0 2 s) ∧
    (∀ k ∈ [(PassStatus.opened, some 2), (.opened, some 3), (.blank, none)], ∀ b ∈ [viewing, shownTable],
      let s := leftPass k b
      s.steady.geometryValid = true ∧ s.steady.pass.status = k.1 ∧ s.steady.pass.pinned = k.2 ∧
      s.steady.pass.leftLineZero = true ∧ 0x3F0 < s.steady.pass.geometry.pitch ∧ s.steady.pass.geometry.pitch ≤ 0x400 ∧
      0x3F0 < (viewGeometry s).size ∧ s.slots.pinMessages = [] ∧ resolveSource s = resolveSource b ∧
      OneRead .view 0x40003F0 1 s) ∧
    resolveSource viewing = none ∧ resolveSource shownTable = some 3 ∧
    shownTable.slots.table[3]? = some (slotWith .kept 6) := by decide +kernel

/-- In a BLANK pass, a read that reaches the last view byte and one beyond it. -/
theorem witness_ViewReadsAreTranslatedInAPass_ends :
    let s := viewing.onSteady (fun c => openPass .blank none (presentGeometry viewing) c)
    s.steady.geometryValid = true ∧ s.steady.pass.status = .blank ∧ s.steady.pass.pinned = none ∧
    s.steady.pass.leftLineZero = false ∧ 0x5FFF0 < s.steady.pass.geometry.size ∧
    s.steady.pass.geometry.size = 0x5FFF0 + 16 * 1 ∧ OneRead .view 0x405FFF0 1 s ∧ OneRead .view 0x405FFF0 2 s := by
  decide +kernel

/-- A BLANK pass that has left line 0 is opened anew on the slot that has come to be shown, at its recorded offset (R122,
R125). -/
theorem test_blank_pass_reopens_on_a_frame :
    let e := slotWith .filled 5
    let shown := { e with record := { e.record with
      steady := some { dx := 0, dy := 0, quality := 9, hold := .noHold, ox := 7, oy := -3 } } }
    let s := (leftPass (.blank, none) (withTable [Slot.reset, shown, Slot.reset, Slot.reset] viewing)).onSteady (fun c =>
      { c with mx := 4, my := 4 })
    let t := after .viewApertureRead (reading 0x4000000 1 s)
    (t.steady.pass.status, t.steady.pass.pinned, t.steady.pass.geometry.ox, t.steady.pass.geometry.oy) =
      (.opened, some 1, 4, -3) ∧
    t.link.hostDown = [.read 12 (0x6060000 + 2 * 1024 + 32) 1] := by decide +kernel
theorem witness_ViewSourceResolvesToAShowableSlot :
    (shownTable.steady.source = none ∧ resolveSource shownTable = some 3) ∧
    (let s := shownTable.onSteady (fun c => { c with source := some 1 })
     s.steady.source = some 1 ∧ s.slots.table[1]? = some (slotWith .filled 4)) ∧
    (let s := shownTable.onSteady (fun c => { c with source := some 4 })
     s.steady.source = some 4 ∧ s.slots.table[4]? = none) := by decide

/-- Offsets at both ends of the margins, at the first and the last view byte of the smallest frame. -/
theorem witness_ViewBytesLieInsideTheShownFrame :
    4 * 32 < 512 ∧ 4 * 24 < 384 ∧ (-32 : Int).natAbs ≤ 32 ∧ (24 : Int).natAbs ≤ 24 ∧
    0 < (512 - 4 * 32) * 2 * (384 - 4 * 24) ∧ 221183 < (512 - 4 * 32) * 2 * (384 - 4 * 24) := by decide

/-- Host requests with and without own requests that can be granted, at run counts 2 and 3; and own tags all in use. -/
theorem witness_GrantsFollowTheHostRunCount :
    let own : OwnRequest := { purpose := .commandFetch, addr := 0, words := 4, data := [] }
    let s := fun (run : Nat) (h : List DownRequest) (q : List OwnRequest) =>
      boot.onLink (fun l => { l with hostRun := run, hostDown := h, ownQueue := q })
    (s 2 [.write 0 [0]] [own]).link.hostDown ≠ [] ∧ (s 2 [.write 0 [0]] [own]).link.ownQueue = own :: [] ∧
    (s 2 [.write 0 [0]] [own]).link.hostRun < 3 ∧ ¬ (s 3 [.write 0 [0]] [own]).link.hostRun < 3 ∧
    (∀ r ∈ (s 3 [] [own]).link.ownReads, r.dtag ≠ 271) ∧ (s 3 [] []).link.ownQueue = [] := by decide

/-- A host read's fetch waits to be granted. -/
theorem witness_GrantsFollowTheHostRunCount_read :
    let f : HostFetch := { dtag := 12, place := 0, skip := 0, count := 16, granted := false, returned := false }
    let s := boot.onLink (fun l => { l with hostDown := [.read 12 0 1], readMap := [{ readEntry 3 1 with fetches := [f] }] })
    s.link.hostDown = .read 12 0 1 :: [] ∧ s.link.ownQueue = [] ∧ (∃ e ∈ s.link.readMap, f ∈ e.fetches) := by decide
theorem witness_ImageAndStatusWritesAreQueuedAndNoticed :
    (let s := boot.onSlots (fun m => { m with imageWaiting := [31] })
     s.link.ownQueue.length < 8 ∧ s.slots.imageWaiting = 31 :: []) ∧
    (boot.report.statusWaiting = true ∧ boot.report.statusQueued = false ∧ boot.link.ownQueue.length < 8 ∧
      boot.slots.imageWaiting = [] ∧ boot.command.waitingReads = []) ∧
    (let o : OwnRequest := { purpose := .report (some 4), addr := 0, words := 2, data := [0, 0] }
     let s := (boot.onLink (fun l => { l with ownQueue := [o] })).onReport (fun r =>
      { r with headCopy := 3, writeCount := 5, entries := [⟨.lens, true⟩, ⟨.fault, false⟩] })
     let busy := s.onLink (fun l => { l with hostDown := [.write 0 [0]], hostRun := 3 })
     s.link.hostDown = [] ∧ busy.link.hostDown ≠ [] ∧ ¬ busy.link.hostRun < 3 ∧ s.link.ownQueue = o :: [] ∧ o.data ≠ [] ∧
       s.report.entries = [⟨.lens, true⟩] ++ ⟨.fault, false⟩ :: [] ∧
       [(⟨.lens, true⟩ : EntryRecord)].length = (4 - s.report.headCopy).toNat ∧
       s.report.entries.length ≤ (5 - s.report.headCopy).toNat ∧ s.report.entries.length ≤ (2 - s.report.headCopy).toNat) := by
  decide +kernel

/-- A report write of an entry that the head has consumed leaves the Report Unit as it was (R163). -/
theorem test_notice_of_a_consumed_entry : markForwarded 2 boot.report = boot.report := by decide +kernel

/-- A read kept back by the first Status Block write, and an image that waits. -/
theorem witness_ImageAndStatusWritesAreQueuedAndNoticed_first :
    let read : OwnRequest := { purpose := .commandFetch, addr := 0, words := 4, data := [] }
    let s := boot.onCommand (fun c => { c with waitingReads := [read] })
    s.report.statusWaiting = true ∧ s.report.statusQueued = false ∧ s.link.ownQueue.length < 8 ∧ s.slots.imageWaiting = [] ∧
    s.command.waitingReads ≠ [] ∧ s.report.statusFirst = true := by decide

/-- A read whose one fetch is in flight, between two other reads; and a read with a second fetch in flight. -/
theorem witness_ResponsesFillAndDeliverTheRead :
    let f := fun (d : Nat) => ({ dtag := d, place := 0, skip := 15, count := 1, granted := true, returned := false } : HostFetch)
    let e := fun (tag : Nat) (l : List HostFetch) => ({ tag := tag, bytes := List.replicate 16 0, error := false,
                                                        pass := some 1, fetches := l } : ReadEntry)
    let s := boot.onLink (fun l => { l with readMap := [e 2 [f 8]] ++ e 3 [f 12] :: [e 4 [f 16]] })
    s.link.readMap = [e 2 [f 8]] ++ e 3 [f 12] :: [e 4 [f 16]] ∧
    (∀ x ∈ [e 2 [f 8]] ++ [e 4 [f 16]], x.tag ≠ (e 3 [f 12]).tag ∧ ∀ g ∈ x.fetches, g.dtag ≠ 12) ∧
    (e 3 [f 12]).fetches = [] ++ f 12 :: [] ∧ (f 12).granted = true ∧ (f 12).returned = false ∧
    (∀ x ∈ ([] ++ [] : List HostFetch), x.returned = true) ∧
    (e 3 [f 12, f 13]).fetches = [f 12] ++ f 13 :: [] ∧ (∀ x ∈ [f 12], x.dtag ≠ 13) ∧
    ¬ (∀ x ∈ [f 12], x.returned = true) ∧ boot.link.readMap = [] := by decide

/-- A marked read is delivered while its pass is open on a slot, while it is closed, and while another pass is open. -/
theorem witness_ResponsesFillAndDeliverTheRead_pass :
    let opened := viewing.onSteady (fun c => openPass .opened (some 1) (presentGeometry viewing) c)
    let f : HostFetch := { dtag := 12, place := 0, skip := 0, count := 16, granted := true, returned := false }
    let e : ReadEntry := { readEntry 3 1 with fetches := [f], pass := some opened.steady.pass.number }
    let s := opened.onLink (fun l => { l with readMap := [e] })
    s.link.readMap = [] ++ e :: [] ∧ e.fetches = [] ++ f :: [] ∧ e.pass = some s.steady.pass.number ∧
    s.steady.pass.status = .opened ∧ s.steady.pass.pinned = some 1 ∧ viewing.steady.pass.status = .closed ∧
    e.pass ≠ some viewing.steady.pass.number := by decide

/-- A completion at used count 511; a frame summary while high water is set, behind a path fault that must wait. -/
theorem witness_ReportWritePlacesTheOldestEligibleReport :
    (let s := boot.onReport (fun r => { r with writeCount := 511, statusWaiting := false, highWater := true,
                                               waiting := [.pathFault .viewWrite 1 0, .frameSummary 5 1 .complete false] })
     (s.report.writeCount - s.report.headCopy).toNat < 512 ∧ s.link.ownQueue.length < 8 ∧ s.slots.imageWaiting = [] ∧
       s.command.waitingReads = [] ∧ s.report.statusWaiting = false ∧ s.report.highWater = true ∧
       Report.general (.frameSummary 5 1 .complete false) = true ∧ Report.general (.pathFault .viewWrite 1 0) = false ∧
       Report.cls (.frameSummary 5 1 .complete false) = .frame) ∧
    (let s := boot.onReport (fun r => { r with writeCount := 383, statusWaiting := false, waiting := [.eventsLost] })
     s.report.highWater = false ∧ s.report.waiting = [] ++ .eventsLost :: [] ∧
       384 ≤ (s.report.writeCount + 1 - s.report.headCopy).toNat) := by decide

/-- With 11 and with 12 places taken, a report of each class; high water; reports that merge and that do not. -/
theorem witness_ReportWritePlacesTheOldestEligibleReport_lists :
    (∀ n ∈ [11, 12], ∀ b ∈ [true, false],
      let r := (boot.onReport (fun r => { r with waiting := List.replicate n (.frameSummary 5 1 .complete false),
                                                 highWater := b })).report
      (r.waiting.filter (fun y => y.cls = .frame ∨ y.cls = .focus ∨ y.cls = .lens ∨ y.cls = .capture)).length = n ∧
      r.highWater = b) ∧
    (∀ y ∈ [Report.pathFault .viewWrite 65535 3], y.cls ≠ .exposure) ∧
    (∃ w : List Report, ∃ old : ExposureReport, w = [] ++ .exposureSet old 255 :: []) ∧
    (∀ n b, Report.pathFault .viewBeyond n b ∉ [Report.pathFault .viewWrite 65535 3]) ∧
    (∀ m d, Report.pathFault .viewWrite m d ∉ [Report.pathFault .viewBeyond 1 0]) ∧
    [Report.pathFault .viewBeyond 1 0, .pathFault .viewWrite 65535 3] =
      [.pathFault .viewBeyond 1 0] ++ .pathFault .viewWrite 65535 3 :: [] :=
  ⟨by decide, by decide, ⟨_, { set := issued 1 0, skip := .stepped, meter := none, step := 0, settled := false,
                               changed := false }, rfl⟩,
    by intro n b h; simp at h, by intro m d h; simp at h, rfl⟩

/-- A frame of 512 by 384 in the completion buffer. -/
def buffered (torn : Bool) : State :=
  let l := statLatchOf viewing
  { viewing with stats := { viewing.stats with
    buffer := some { frame := 5, torn := torn, latch := l, acc := { clearAccumulators l with zoneSum := List.replicate 192 9 } } } }

theorem witness_StatisticsWorkHandsTheRecordOn :
    (∃ m, (buffered false).stats.buffer = some m ∧ m.torn = false) ∧ (∃ m, (buffered true).stats.buffer = some m ∧ m.torn = true) ∧
    viewing.stats.buffer = none := ⟨⟨_, rfl, rfl⟩, ⟨_, rfl, rfl⟩, rfl⟩

/-- Frame 5 shown by slot 1 and by none; and for number 0 a FREE slot does not count, while a FILLED one does. -/
theorem witness_StatisticsWorkHandsTheRecordOn_record :
    (let t := [Slot.reset, slotWith .filled 5, Slot.reset, Slot.reset]
     (withTable t (buffered false)).stats.buffer.map (·.frame) = some 5 ∧ t[1]? = some (slotWith .filled 5) ∧
       TakesFields 5 (slotWith .filled 5) ∧ ∀ e ∈ t.take 1, ¬ TakesFields 5 e) ∧
    (∀ e ∈ (buffered false).slots.table, ¬ TakesFields 5 e) ∧
    ¬ TakesFields 0 Slot.reset ∧ TakesFields 0 (slotWith .filled 0) := by decide

/-- Measuring none, a torn frame and an untorn one; the pairs that end an even and an odd row; a quad inside a window and
inside the profiles, at their first and last columns. -/
theorem witness_StatisticsWorkHandsTheRecordOn_measuring :
    let l := statLatchOf viewing
    let m : Measurement := { frame := 5, torn := false, latch := l, acc := clearAccumulators l }
    viewing.stats.measuring = none ∧ ({ m with torn := true }).torn = true ∧ m.torn = false ∧
    (510 / l.width % 2 = 0 ∧ 512 / l.width % 2 = 1 ∧ 1022 / l.width % 2 = 1 ∧ 1022 % l.width / 2 = 255) ∧
    (m.acc.line[255]?.map (·.mark) = some false ∧ m.acc.rowSum.length = 192 ∧ m.acc.zoneSum.length = 192) ∧
    (l.windows.map (·.enabled) = [true, false, false, false, false] ∧ m.acc.winContrast.length = 5 ∧ m.acc.winLuma.length = 5 ∧
      m.acc.colProfile.length = 256) := by decide +kernel

/-- The detectors run with lag 96 of 192 rows and with lag 8, on a frame with a row reference; and not with lag 97, nor
while a set is quantised to their period. -/
theorem witness_StatisticsWorkHandsTheRecordOn_detectors :
    (10000000 / 104166 = 96 ∧ 2 * 96 ≤ 384 / 2 ∧ 8333333 / 1000000 = 8 ∧ 10000000 / 103092 = 97 ∧ ¬ 2 * 97 ≤ 384 / 2) ∧
    (let s := { buffered false with stats := { (buffered false).stats with rowReference := some (List.replicate 192 7) } }
     s.stats.rowReference = some (List.replicate 192 7) ∧ (List.replicate 192 7).length = 384 / 2 ∧
       s.exposure.history = [] ∧ s.exposure.latches = [] ∧
       s.stats.buffer.map (fun m => (m.acc.rowSum.length, m.latch.height)) = some (192, 384)) ∧
    (∃ e, ({ frame212 with exposure := { frame212.exposure with history := [{ issued 211 166 with quantised := .us10000 }] } } :
      State).exposure.history.getLast? = some e ∧ e.quantised = .us10000) := by
  refine ⟨by decide, by decide +kernel, _, rfl, rfl⟩

/-- The frame of section 3.9 in each mode, with and without the AE hold, and in STANDBY. -/
theorem witness_ExposureWorkIssuesASet :
    frame212.exposure.work = { notice := announced 212 1, stats := some record212 } :: [] ∧
    (frame212.exposure.latches.find? (fun l => l.frame == 212)).map (·.params.mode) = some .program ∧
    frame212.command.mode = .view ∧ frame212.focus.aeHold = false ∧ frame212.lens.mode = .ready ∧
    (frame212.onFocus (fun f => { f with aeHold := true })).focus.aeHold = true ∧
    (frame212.onCommand (fun c => { c with mode := .standby })).command.mode = .standby ∧
    (∀ m ∈ [ExposureMode.program, .manual, .locked],
      ((frame212.exposure.latches.map (fun l => { l with params := { l.params with mode := m } })).find?
        (fun l => l.frame == 212)).map (·.params.mode) = some m) ∧
    frame212.exposure.history ≠ [] ∧ viewing.exposure.history = [] ∧ viewing.exposure.work = [] := by decide

/-- Frame 212 shown by slot 1, and by none. -/
theorem witness_ExposureWorkIssuesASet_record :
    (∀ y ∈ frame212.slots.table, ¬ TakesFields 212 y) ∧
    (let s := withTable [Slot.reset, slotWith .filled 212, Slot.reset, Slot.reset] frame212
     s.slots.table[1]? = some (slotWith .filled 212) ∧ TakesFields 212 (slotWith .filled 212) ∧
       (∀ y ∈ s.slots.table.take 1, ¬ TakesFields 212 y) ∧
       s.exposure.work = { notice := announced 212 1, stats := some record212 } :: []) ∧
    (∀ l ∈ ({ frame212.exposure with latches := [] }).latches, l.frame ≠ 212) := by decide
theorem witness_LogarithmIsExactAndMonotone :
    2 ^ 13 ≤ 16380 ∧ 16380 < 2 ^ 14 ∧ 2 ^ 0 ≤ 1 ∧ 1 < 2 ^ 1 ∧ 0 ≤ 1 ∧ 2 ^ 32 - 1 < 2 ^ 32 ∧ 160 ≤ 160 := by decide
theorem witness_ProgramSetsStayInTheLimits : ProgramTable.reset.tlMin ≤ ProgramTable.reset.tlMax := by decide

/-- The lens READY with derived values, and not READY; and times that are cut to whole light periods, or are too short. -/
theorem witness_ProgramSetsStayInTheLimits_periods :
    (viewing.lens.mode = .ready ∧ viewing.zoom.derived = some derived500 ∧ boot.lens.mode ≠ .ready) ∧
    (antilog 512 = 65536 ∧ 10000 ≤ antilog 512 ∧ 190 ≤ logL (10000 * (antilog 512 / 10000))) ∧
    (antilog 414 = 7936 ∧ antilog 414 < 10000 ∧ antilog 414 < 8333) ∧
    (8333 ≤ antilog 425 ∧ logL (8333 * (antilog 425 / 8333)) < 425) := by decide

/-- Frame 5 with its record held for the Steady Controller. -/
def steadying (enable : Bool) (torn : Bool) : State :=
  (withTable [Slot.reset, slotWith .filled 5, Slot.reset, Slot.reset] viewing).onSteady (fun c =>
    { c with
      latches := [{ frame := 5, enable := enable, range := 24, leak := 4, qualityMin := 40, xl := 0 }],
      work := [{ notice := { announced 5 1 with torn := torn }, stats := some { record212 with frame := 5 } }] })

theorem witness_SteadyWorkMovesTheOffset :
    (∀ en ∈ [true, false], ∀ t ∈ [true, false],
      ((steadying en t).steady.latches.find? (fun l => l.frame == 5)).map (·.enable) = some en ∧
      (steadying en t).steady.work.map (fun w => (w.notice.torn, w.stats.isSome)) = [(t, true)] ∧
      (steadying en t).command.mode = .view) ∧
    ((steadying true true).onCommand (fun c => { c with mode := .standby })).command.mode = .standby ∧
    record212.reference = none ∧ viewing.steady.work = [] := by decide

/-- Frame 5 shown by slot 1, and by none. -/
theorem witness_SteadyWorkMovesTheOffset_record :
    (steadying true false).slots.table[1]? = some (slotWith .filled 5) ∧ TakesFields 5 (slotWith .filled 5) ∧
    (∀ x ∈ (steadying true false).slots.table.take 1, ¬ TakesFields 5 x) ∧
    ∀ x ∈ viewing.slots.table, ¬ TakesFields 5 x := by decide

/-- Each reason of the hold chain: a moving zoom, an XL step of 17 and of 16, a quality below the minimum and at it. -/
theorem witness_SteadyWorkMovesTheOffset_holds :
    (announced 5 1).torn = false ∧ ({ record212 with reference := some noProfiles }).reference = some noProfiles ∧
    ({ announced 5 1 with moving := { zoom := true, focus := false, iris := false } }).moving.zoom = true ∧
    (announced 5 1).moving.zoom = false ∧ 16 < ((17 : Int) - 0).natAbs ∧ ¬ 16 < ((16 : Int) - 0).natAbs ∧
    ((axisMotion 1 [0, 0, 9, 0] [0, 9, 0, 0]).1 = 1 ∧ 1 < [0, 0, 9, 0].length ∧ [0, 0, 9, 0].length = [0, 9, 0, 0].length) ∧
    ¬ (axisMotion 1 [0, 0, 9, 0] [0, 9, 0, 0]).2.1 < (axisMotion 1 [0, 0, 9, 0] [0, 9, 0, 0]).2.1 := by decide

/-- The offset rounds half away from zero. -/
theorem witness_SteadyWorkMovesTheOffset_rounding :
    [0, 7, 8, 23, 24, -7, -8, -24].map roundOffset = [0, 0, 1, 1, 2, 0, -1, -2] := by decide

/-- Frame 212 with its record held for the Focus Controller. -/
def focusing (st : SearchState) (used : Nat) (a : Announcement) : State :=
  (searching st viewing).onFocus (fun f => { f with framesUsed := used, work := [{ notice := a, stats := some record212 }] })

/-- The frame that passes the validity chain, and one for each of its first three reasons; a frame whose windows are at
the dark floor and one below it. -/
theorem witness_FocusWorkCountsAndSamplesFrames :
    (∀ st ∈ [SearchState.idle, .coarse, .fine, .peak, .locked, .monitor, .failed],
      (focusing st 95 (announced 212 1)).focus.search = st ∧ (focusing st 96 (announced 212 1)).focus.framesUsed = 96) ∧
    (let s := focusing .coarse 95 (announced 212 1)
     s.focus.work = { notice := announced 212 1, stats := some record212 } :: [] ∧ s.command.mode = .view ∧
       s.focus.framesUsed < 96 ∧ s.focus.moveMark = false ∧ s.focus.samples = [] ∧ s.focus.best = none ∧
       s.zoom.derived = some derived500 ∧ derived500.pInf ≤ derived500.pNear ∧ s.focus.fallback ≤ 1024) := by decide
theorem witness_FocusWorkCountsAndSamplesFrames_validity :
    (∃ w ∈ record212.windows, w.enabled = true ∧ record212.darkFloor ≤ w.mean) ∧
    (let dark : List WindowValue := [⟨true, 1, 31, 9⟩, ⟨false, 0, 99, 9⟩]
     ¬ ∃ w ∈ dark, w.enabled = true ∧ record212.darkFloor ≤ w.mean) ∧
    (announced 212 1).torn = false ∧ (announced 212 1).moving.focus = false ∧ (announced 212 1).focusSettled = true ∧
    (announced 212 1).moving.zoom = false ∧
    (let f := { viewing.focus with lockFigure := 55000 }
     ¬ 41250 < f.lockFigure * (256 - f.monitorDrop) / 256 ∧ 41249 < f.lockFigure * (256 - f.monitorDrop) / 256) := by decide

/-- Frame 212 as a valid sample at focus position `p` with figure `g`, frames used 95. -/
def sampled (st : SearchState) (p g : Nat) (f : FocusController → FocusController) : State :=
  (searching st viewing).onFocus (fun c => { f c with
    framesUsed := 95, work := [{ notice := { announced 212 1 with endSample := { LensSample.reset with focus := p } },
                                 stats := some { record212 with focusFigure := g } }] })

/-- The samples of a coarse sweep with its best at 1000. -/
def coarse (f : FocusController) : FocusController :=
  { f with coarseStep := 65, drop := 24, startPosition := 1000, best := some { position := 1000, figure := 50000, frame := 210 },
           samples := [{ position := 1000, figure := 50000, frame := 210, sweep := 1 },
                       { position := 1065, figure := 45311, frame := 211, sweep := 1 }] }

/-- A coarse sample past the peak by the limit and one above it; a next position, the range end in each sweep, and the best
figure at the contrast floor and one below it. -/
theorem witness_FocusWorkCountsAndSamplesFrames_coarse :
    (let s := sampled .coarse 1130 45311 coarse
     s.focus.search = .coarse ∧ s.command.mode = .view ∧ s.focus.moveMark = false ∧ s.zoom.derived = some derived500 ∧
       (0 < ((1130 : Int) - 1000) * 1 ∧ 45311 < 50000 * (256 - s.focus.drop) / 256 ∧
        ¬ 45312 < 50000 * (256 - s.focus.drop) / 256) ∧
       (s.focus.samples ++ [({ position := 1130, figure := 45311, frame := 212, sweep := 1 } : FocusSample)]).map (·.sweep) =
         [1, 1, 1]) ∧
    (max 848 (min (1489 + 65) 1554) ≠ 1489 ∧ max 848 (min (1554 + 65) 1554) = 1554 ∧ max 848 (min (1000 - 65) 1554) ≠ 1554 ∧
      max 848 (min (913 - 65) 1554) = 848) ∧
    (let s := sampled .coarse 848 45312 (fun f => { coarse f with sweep := 2, forward := false, contrastFloor := 50000 })
     s.focus.sweep ≠ 1 ∧ s.focus.contrastFloor ≤ 50000 ∧ ¬ s.focus.contrastFloor ≤ 49999 ∧ s.focus.fallback ≤ 1024) := by
  decide

/-- The fine plan of section 6.11. -/
def finePlan (last : Option Nat) : List PlanEntry :=
  [⟨1198, some 44000⟩, ⟨1214, some 50000⟩, ⟨1230, some 53000⟩, ⟨1246, some 54000⟩, ⟨1262, last⟩]

/-- A fine sample that leaves a position to visit, and the one that fills the plan, with its neighbours and without one. -/
theorem witness_FocusWorkCountsAndSamplesFrames_fine :
    (let s := sampled .fine 1262 49000 (fun f => { f with fineStep := 16, plan := finePlan none })
     s.focus.search = .fine ∧ (s.focus.plan.find? (fun e => e.figure.isNone)).map (·.position) = some 1262 ∧
       s.focus.plan.map (fun e => if e.position = 1262 then { e with figure := some 49000 } else e) = finePlan (some 49000)) ∧
    (let plan := finePlan (some 49000)
     plan = plan.take 3 ++ { position := 1246, figure := some 54000 } :: [⟨1262, some 49000⟩] ∧
       (plan.map (·.position)).Nodup ∧
       (∀ y ∈ plan.take 3, ((y.figure.getD 54000) < 54000 : Bool) = true) ∧
       (∃ y ∈ plan, (y.position : Int) = 1246 - 16 ∧ y.figure = some 53000) ∧
       (∃ y ∈ plan, (y.position : Int) = 1246 + 16 ∧ y.figure = some 49000) ∧ (53000 : Int) - 2 * 54000 + 49000 < 0 ∧
       ¬ ∃ y ∈ plan, (y.position : Int) = 1262 + 16) := by decide

/-- LOCKED with the baseline owed to window set 1, and a valid sample of the frame that latched set `k`. -/
def owing (k : Nat) : State :=
  (focusing .locked 0 (announced 212 1)).onFocus (fun f =>
    { f with baselinePending := true, windowSet := 1, baselineSet := 1,
             work := [{ notice := announced 212 1, stats := some { record212 with windowSet := k } }] })

/-- A sample measured with the old windows, and one measured with the new ones. -/
theorem witness_FocusWorkCountsAndSamplesFrames_baseline :
    (owing 0).focus.baselinePending = true ∧ record212.windowSet < (owing 0).focus.baselineSet ∧
    (owing 1).focus.work = { notice := announced 212 1, stats := some { record212 with windowSet := 1 } } :: [] ∧
    (owing 1).command.mode = .view ∧ (owing 1).focus.search = .locked ∧ (owing 1).focus.moveMark = false ∧
    (owing 1).focus.zoomPause = false ∧ (owing 1).focus.baselineSet ≤ 1 ∧
    (∃ w ∈ record212.windows, w.enabled = true ∧ record212.darkFloor ≤ w.mean) := by decide

/-- Section 6.2 (R96): the windows are latched at the frame start, and F_lock comes from a sample measured with them. -/
theorem test_baseline_waits_for_the_new_windows :
    (after .focusCompletionWork (owing 0)).focus.lockFigure = 0 ∧
    (after .focusCompletionWork (owing 0)).focus.baselinePending = true ∧
    (after .focusCompletionWork (owing 1)).focus.lockFigure = 5000 ∧
    (after .focusCompletionWork (owing 1)).focus.baselinePending = false := by decide +kernel

/-- Each notice waits at the head of its channel, in each search state. -/
theorem witness_ExposureNoticesReachTheFocus :
    (∀ st ∈ [SearchState.idle, .coarse, .fine, .peak, .locked, .monitor, .failed],
      let s := searching st viewing
      s.focus.search = st ∧ s.focus.zoomPause = false ∧ s.focus.farRun = 0 ∧ s.command.mode = .view ∧
      s.lens.mode = .ready ∧ s.zoom.derived = some derived500 ∧ s.focus.mode ≠ .manual ∧ s.zoom.moving = false) ∧
    (∀ v ∈ [Alarm.far, .near, .unmeasured],
      (viewing.onFocus (fun f => { f with fromExposure := [.alarm v 5] })).focus.fromExposure = .alarm v 5 :: []) ∧
    (viewing.onFocus (fun f => { f with fromExposure := [.sceneChanged 5], zoomPause := true, farRun := 1 })).focus.fromExposure =
      .sceneChanged 5 :: [] ∧
    (∀ m ∈ [ReferenceMessage.take 5 600, .drop],
      ({ viewing with exposure := { viewing.exposure with messages := [m] } } : State).exposure.messages = m :: []) := by decide
theorem witness_FocusActsOnLensAndZoomNotices :
    (∀ n ∈ [FocusLensNotice.moveEnd true 1100, .moveEnd false 1100, .stepLoss .zoom, .fault],
      (viewing.onFocus (fun f => { f with fromLens := [n] })).focus.fromLens = n :: []) ∧
    (∀ n ∈ [FocusZoomNotice.started, .stopped],
      (viewing.onFocus (fun f => { f with fromZoom := [n] })).focus.fromZoom = n :: []) ∧
    (let s := (searching .peak viewing).onFocus (fun f => { f with moveMark := true })
     s.focus.moveMark = true ∧ s.focus.search = .peak) := by decide

/-- The messages of the Capture Unit in each state; the fence at and below its limit of 1 slot; held lists of 0, 1. -/
theorem witness_CaptureUnitTakesMessagesAndAnswers :
    (∀ m ∈ [CaptureMode.idle, .armed, .running], ∀ msg ∈ [CaptureMessage.toggle true, .toggle false, .completion (announced 5 1)],
      let s := viewing.onCapture (fun c => { c with mode := m, messages := [msg], effectiveP := 1 })
      s.capture.work = none ∧ s.capture.command = none ∧ s.capture.messages = msg :: [] ∧ s.capture.mode = m ∧
      s.capture.effectiveP ≠ 0 ∧ s.capture.heldList.length < s.capture.effectiveP ∧ s.capture.acknowledge = false) ∧
    (countSlots viewing .kept + countSlots viewing .held < viewing.command.config.slotCount - 3) ∧
    (shownTable.command.config.slotCount - 3 ≤ countSlots shownTable .kept + countSlots shownTable .held) ∧
    (let c := { viewing.capture with mode := .armed, effectiveP := 1, heldList := [⟨2, 4⟩] }
     c.heldList = ⟨2, 4⟩ :: [] ∧ c.effectiveP ≤ c.heldList.length) := by decide
theorem witness_CaptureUnitTakesMessagesAndAnswers_answers :
    (∀ a ∈ [SlotAnswer.done, .pinned, .gone],
      ∀ w ∈ [CaptureWork.holdFrame ⟨2, 4⟩, .keepFrame ⟨2, 4⟩ true, .makeRoom ⟨2, 4⟩, .releasing],
      let s := ((inHand 0x0803 viewing).onSlots (fun m => { m with captureAnswer := some a })).onCapture (fun c => { c with work := some w })
      s.slots.captureAnswer = some a ∧ s.capture.work = some w ∧ s.capture.command = none ∧
      s.command.inHand = some { code := 0x0803, tag := 9 }) ∧ viewing.slots.captureAnswer = none := by decide

/-- Arming, the keeps of a trigger and a stop, each with a next frame and with none; buffer high at its limits for 8 slots. -/
theorem witness_CaptureUnitTakesMessagesAndAnswers_lists :
    (∀ rest ∈ [[], [(⟨3, 5⟩ : HeldEntry)]], ∀ a ∈ [SlotAnswer.done, .gone],
      ∀ w ∈ [CaptureWork.arming ⟨2, 4⟩ rest true 8, .arming ⟨2, 4⟩ rest false 8, .keepHeld ⟨2, 4⟩ rest (-1) 1,
             .stopping rest .stopCommand],
      let s := ((inHand 0x0801 viewing).onSlots (fun m => { m with captureAnswer := some a })).onCapture (fun c => { c with work := some w })
      s.slots.captureAnswer = some a ∧ s.capture.work = some w ∧ s.capture.command = none ∧
      s.command.inHand = some { code := 0x0801, tag := 9 }) ∧
    (∀ flag ∈ [true, false], ∀ n ∈ [2, 3, 4],
      let s := ((withTable (List.replicate (8 - n) .reset ++ List.replicate n (slotWith .kept 6)) viewing).onCapture (fun c =>
        { c with bufferHigh := flag })).onCommand (fun c => { c with config := { smallConfig with slotCount := 8 } })
      4 ≤ s.command.config.slotCount ∧ s.capture.bufferHigh = flag ∧ countSlots s .kept = n ∧ countSlots s .held = 0) ∧
    ((8 - 3) / 2 = 2 ∧ 2 < 8 - 4 ∧ 8 - 4 = 4) := by decide +kernel

/-- An answer while each command waits, and a keep that ends the burst, that takes the last index, and neither. -/
theorem witness_CaptureUnitTakesMessagesAndAnswers_waits :
    (∀ k ∈ [CaptureCommand.arm 8 64, .stop, .release 3, .standby],
      ∀ w ∈ [CaptureWork.holdFrame ⟨2, 4⟩, .keepFrame ⟨2, 4⟩ true, .keepHeld ⟨2, 4⟩ [] (-1) 1],
      let s := ((inHand 0x0801 shownTable).onSlots (fun m => { m with captureAnswer := some .done })).onCapture (fun c =>
        { c with work := some w, command := some k })
      s.slots.captureAnswer = some .done ∧ s.capture.work = some w ∧ s.capture.command = some k ∧
      s.command.inHand = some { code := 0x0801, tag := 9 }) ∧
    (let c := { viewing.capture with burst := 64, keptCount := 63, nextIndex := 64 }
     1 ≤ c.burst ∧ c.keptCount + 1 = c.burst) ∧
    (let c := { viewing.capture with burst := 0, keptCount := 32766, nextIndex := 32767 }
     ¬ (1 ≤ c.burst ∧ c.keptCount + 1 = c.burst) ∧ c.nextIndex = 32767) ∧
    (let c := { viewing.capture with burst := 64, keptCount := 62, nextIndex := 63 }
     ¬ (1 ≤ c.burst ∧ c.keptCount + 1 = c.burst) ∧ c.nextIndex ≠ 32767) := by decide

/-- A request of each kind on a slot it fits, on a pinned one, and on a slot that shows another frame. -/
theorem witness_SlotRequestsFollowTheTable :
    let ask := fun (k : SlotRequestKind) (i : Nat) (n : BitVec 32) =>
      shownTable.onSlots (fun m => { m with captureRequest := some { kind := k, slot := i, frame := n, captureId := 1, index := 1 } })
    (∀ k ∈ [SlotRequestKind.hold, .unhold, .keep, .release],
      ((ask k 1 4).slots.captureRequest).map (·.kind) = some k) ∧
    (ask .hold 1 4).slots.table[1]? = some (slotWith .filled 4) ∧ (ask .unhold 2 5).slots.table[2]? = some (slotWith .held 5) ∧
    (ask .release 3 6).slots.table[3]? = some (slotWith .kept 6) ∧ (slotWith .kept 6).pins = 0 ∧
    ({ slotWith .kept 6 with pins := 1 } : Slot).pins ≠ 0 ∧ (ask .hold 4 9).slots.table[4]? = none ∧
    viewing.slots.captureRequest = none := by decide

/-- Requests of each requester wait; the motor in each of its states, at its target and one step from it. -/
theorem witness_LensTakesTargetAndStopRequests :
    (∀ w ∈ [LensMessage.target .focus 1000 .plain, .target .focus 1001 .plain, .stop .focus .plain,
            .target .focus 1000 (.moveFocus 1000 false)],
      let s := viewing.onLens (fun l => { l with fromFocus := [w] })
      s.lens.channel .focus = w :: [] ∧ s.lens.mode = .ready ∧ (s.lens.motor .focus).state = .idle ∧
      (s.lens.motor .focus).position = 1000 ∧ s.lens.segment = none ∧ s.lens.awaiting = false ∧ s.lens.current = none ∧
      s.lens.stack = []) ∧
    (∀ m ∈ [Motor.zoom, .focus, .iris], (viewing.lens.motor m).state ≠ .pending) ∧
    (∀ w ∈ [LensMessage.target .zoom 1000 (.zoomTo none true), .stop .zoom .zoomStop],
      ((inHand 0x0501 viewing).onLens (fun l => { l with fromZoom := [w] })).lens.channel .zoom = w :: []) ∧
    (inHand 0x0501 viewing).command.inHand = some { code := 0x0501, tag := 9 } ∧
    (∀ st ∈ [MotorState.pending, .running, .preempted],
      (viewing.onLens (fun l => { l with focus := { l.focus with state := st, owner := .focus } })).lens.focus.state = st) ∧
    (stepping .focus viewing).lens.segment.map (·.motor) = some .focus ∧ (lensIn .fault viewing).lens.mode ≠ .ready := by
  decide

/-- Each message whose answer completes a command; a PENDING, RUNNING and PREEMPTED motor of each kind. -/
theorem witness_LensTakesTargetAndStopRequests_commands :
    (∀ w ∈ [LensMessage.target .focus 1000 (.moveFocus 1000 true), .target .zoom 1000 (.zoomTo (some 5) false),
            .target .zoom 1000 .camCommit, .target .iris 40 .plain],
      let s := (inHand 0x0605 viewing).onLens (fun l => { l with fromFocus := [w] })
      s.lens.channel .focus = w :: [] ∧ (w.completes = false ∨ s.command.inHand ≠ none)) ∧
    (∀ m ∈ [Motor.zoom, .focus, .iris], ∀ st ∈ [MotorState.idle, .pending, .running, .preempted],
      let s := viewing.onLens (fun l => l.setMotor m { l.motor m with state := st })
      s.lens.mode = .ready ∧ (s.lens.motor m).state = st ∧ (∀ g, s.lens.segment = some g → g.motor ≠ m) ∧
      (stepping m s).lens.segment.map (·.motor) = some m) ∧
    (∀ m ∈ [LensMode.unhomed, .homing, .parking, .parked, .fault], (lensIn m viewing).lens.mode ≠ .ready) := by
  decide +kernel

/-- A focus segment of 16 steps up from `p`, in READY, of the current move towards `target`. -/
def moving (p target : Nat) : State :=
  viewing.onLens (fun l =>
    { l with
      focus := { l.focus with position := p, state := .running, target := target, owner := .focus }, current := some .focus,
      segment := some { motor := .focus, up := true, steps := 16, period := 500, timeout := 13000, homing := false } })

/-- Homing, with a segment of motor `m` in flight. -/
def homing (h : Homing) (m : Motor) : State :=
  boot.onLens (fun l =>
    { l with mode := .homing, homing := some h,
             segment := some { motor := m, up := false, steps := 16, period := 500, timeout := 13000, homing := true } })

/-- The edge found 2 steps off and 3 steps off; a move that ends and one that goes on; each part of homing. -/
theorem witness_SegmentsEndInAMoveOrAFault :
    ((1016 : Int) + 10 - 1024).natAbs = 2 ∧ ((1016 : Int) + 11 - 1024).natAbs = 3 ∧
    (let s := moving 1016 1032
     s.lens.mode = .ready ∧ s.lens.draining = false ∧ s.lens.segment.map (·.homing) = some false ∧
       s.lens.current = some .focus ∧ s.lens.focus.target = 1016 + 16 ∧ s.lens.focus.state = .running ∧
       s.lens.stack = [] ∧ s.lens.arbitration = .preempt ∧ (∀ m ∈ [Motor.zoom, .focus, .iris], (s.lens.motor m).state ≠ .pending)) ∧
    (moving 1016 1033).lens.focus.target ≠ 1016 + 16 ∧
    (stepping .zoom viewing).lens.segment.map (·.motor) = some .zoom ∧
    (∀ h ∈ [(Homing.iris 0, Motor.iris), (.iris 1, .iris), (.iris 2, .iris), (.seek .focus true 16, .focus),
            (.seek .zoom true 1088, .zoom), (.seek .focus false 2112, .focus)],
      let s := homing h.1 h.2
      s.lens.mode = .homing ∧ s.lens.homing = some h.1 ∧ s.lens.draining = false ∧
      s.lens.segment.map (fun g => (g.homing, g.motor)) = some (true, h.2)) ∧
    seekLimit .zoom = 1088 ∧ seekLimit .focus = 2112 ∧ boot.lens.segment = none := by decide

/-- PARKING with a segment in flight: no move that is current, and one of focus and of zoom; and the iris at its target. -/
theorem witness_SegmentsEndInAMoveOrAFault_parking :
    (let s := lensIn .parking (stepping .focus prepared)
     s.lens.mode = .parking ∧ s.lens.draining = false ∧ s.lens.segment.map (·.homing) = some false ∧ s.lens.current = none) ∧
    (let s := lensIn .parking (moving 1016 1100)
     s.lens.current = some .focus ∧ s.lens.focus.owner = .focus ∧ 1016 + 16 ≠ 0) ∧
    (let s := (lensIn .parking (stepping .zoom viewing)).onLens (fun l =>
      { l with current := some .zoom, zoom := { l.zoom with state := .running } })
     s.lens.current = some .zoom ∧ s.lens.zoom.state = .running ∧ s.lens.focus.position ≠ 0) ∧
    (let s := (stepping .iris viewing).onLens (fun l =>
      { l with current := some .iris, iris := { l.iris with position := 39, target := 40, state := .running } })
     s.lens.mode = .ready ∧ s.lens.current = some .iris ∧ s.lens.iris.target = 39 + 1 ∧ s.lens.stack = [] ∧
       ∀ m ∈ [Motor.zoom, .focus, .iris], (s.lens.motor m).state ≠ .pending) := by decide

/-- PARKING: a loss of the zoom, the last step of the zoom with the focus at 0, and neither. -/
theorem witness_SegmentsEndInAMoveOrAFault_parked :
    let g : Segment := { motor := .zoom, up := false, steps := 1, period := 500, timeout := 5500, homing := false }
    let s := fun (z f : Nat) => lensIn .parking ((lensAt f prepared).onLens (fun l =>
      { l with segment := some g, zoom := { l.zoom with position := z } }))
    (∀ z ∈ [1, 2, 67], ∀ f ∈ [0, 1],
      (s z f).lens.mode = .parking ∧ (s z f).lens.draining = false ∧ (s z f).lens.segment = some g ∧ g.homing = false ∧
      (s z f).lens.current = none ∧ (s z f).lens.zoom.position = z ∧ (s z f).lens.focus.position = f) ∧
    (2 < ((67 : Int) - 1 - (64 - 1)).natAbs ∧ ¬ 2 < ((66 : Int) - 1 - (64 - 1)).natAbs) := by decide

/-- A segment that drains, of a seek of homing, of parking and of a move, of each motor. -/
theorem witness_SegmentsEndInAMoveOrAFault_drains :
    ∀ k ∈ [LensMode.homing, .parking, .ready], ∀ m ∈ [Motor.zoom, .focus, .iris],
      let s := lensIn k ((stepping m viewing).onLens (fun l => { l with draining := true }))
      s.lens.draining = true ∧ s.lens.mode = k ∧ s.lens.segment.map (·.motor) = some m := by decide

/-- The seeks at their limits and before them, with the edge and without it, and NO_HOME. -/
theorem witness_SegmentsEndInAMoveOrAFault_seeks :
    ∀ h ∈ [(Motor.zoom, 1072, 1088), (.focus, 2096, 2112)],
      (homing (.seek h.1 true h.2.1) h.1).lens.homing = some (.seek h.1 true h.2.1) ∧ h.1 ≠ .iris ∧ h.2.1 < h.2.2 ∧
      (homing (.seek h.1 true h.2.2) h.1).lens.homing = some (.seek h.1 true h.2.2) ∧ seekLimit h.1 = h.2.2 ∧
      (homing (.seek h.1 true h.2.2) h.1).lens.segment.map (fun g => (g.homing, g.motor)) = some (true, h.1) := by decide

/-- A fault of a focus segment and of another one, with the moves of the three motors in each state, and while draining. -/
theorem witness_SegmentsEndInAMoveOrAFault_faults :
    (∀ m ∈ [Motor.zoom, .focus, .iris], ∀ d ∈ [true, false], ∀ o ∈ [Requester.focus, .zoom],
      let s := (stepping m viewing).onLens (fun l =>
        { l with draining := d, focus := { l.focus with state := .running, owner := o }, zoom := { l.zoom with state := .pending } })
      s.lens.segment.map (·.motor) = some m ∧ s.lens.draining = d ∧ s.lens.focus.state ≠ .idle ∧ s.lens.focus.owner = o ∧
      s.lens.zoom.state ≠ .idle) ∧
    (moving 1016 1032).lens.zoom.state = .idle := by decide

theorem witness_ZoomActsOnItsNoticesAndRequests :
    (∀ n ∈ [ZoomNotice.handover 464, .start, .finish, .moveEnd .zoom false 500, .moveEnd .focus true 500, .stepLoss .zoom,
            .lensState .fault, .lensState .ready, .lensState .homing],
      (viewing.onZoom (fun z => { z with fromLens := [n] })).zoom.fromLens = n :: []) ∧
    (∀ m ∈ [FractionMessage.position 1554, .fraction 1025],
      (viewing.onZoom (fun z => { z with fromFocus := [m] })).zoom.fromFocus = m :: []) ∧
    (viewing.zoom.cam ≠ [] ∧ viewing.zoom.derived = some derived500 ∧ derived500.pInf < derived500.pNear ∧
      viewing.zoom.silent = 0 ∧ viewing.zoom.fresh = false ∧ boot.zoom.cam = []) ∧
    (derive 464 viewing.zoom.cam).map (fun d => (d.pInf, d.pNear)) = some (835, 1516) ∧
    (let s := viewing.onLens (fun l => { l with fromZoom := [.trackingAnswer], awaiting := true, current := some .zoom,
                                                zoom := { l.zoom with target := 512 }, arbitration := .sequential })
     s.lens.fromZoom = .trackingAnswer :: [] ∧ s.lens.awaiting = true ∧ s.lens.mode = .ready ∧
       s.lens.current = some .zoom ∧ s.lens.zoom.position ≠ s.lens.zoom.target ∧ s.lens.arbitration = .sequential) := by decide

/-- A hand-over that was outstanding at a SOFT RESET. -/
theorem witness_ZoomActsOnItsNoticesAndRequests_silent :
    let s := viewing.onZoom (fun z => { z with fromLens := [.handover 464], silent := 1 })
    s.zoom.fromLens = .handover 464 :: [] ∧ 0 < s.zoom.silent := by decide

/-- Positions between two nodes, at a node and beyond the last. -/
theorem witness_ZoomActsOnItsNoticesAndRequests_nodes :
    camTable.Pairwise (fun x y => x.zoom < y.zoom) ∧
    (∃ pre a b post, camTable = pre ++ a :: b :: post ∧ a.zoom ≤ 256 ∧ 256 < b.zoom) ∧
    (∃ pre a b post, camTable = pre ++ a :: b :: post ∧ a.zoom ≤ 999 ∧ 999 < b.zoom) ∧
    (∃ pre a, camTable = pre ++ [a] ∧ a.zoom ≤ 1000) :=
  ⟨by decide, ⟨camTable.take 1, _, _, _, rfl, by decide, by decide⟩, ⟨camTable.take 2, _, _, _, rfl, by decide, by decide⟩,
    ⟨camTable.take 3, _, rfl, by decide⟩⟩

/-- A step from reset; that reset meets the invariants is a statement of its own. -/
theorem witness_StepKeeps : ∃ t, step { boot with pending := [.powerOnReset 7] } = .next t := ⟨_, rfl⟩
theorem witness_StepKeepsTheHoldAndTheBoundedLists :
    HoldMatchesSearch (searching .peak viewing) ∧ ListsBounded (searching .peak viewing) := by
  refine ⟨?_, ?_, ?_⟩
  · unfold HoldMatchesSearch; decide
  · decide
  · decide
theorem witness_StepKeepsTheRingConsistent :
    RingConsistent (boot.onReport (fun r => { r with headCopy := 3, writeCount := 4, entries := [⟨.fault, true⟩], mask := 64,
                                                     attention := true })).report := by
  constructor <;> decide
theorem witness_StepKeepsTheWaitingOrder :
    WaitingConsistent (boot.onReport (fun r => { r with lostMark := true, waiting := [.eventsLost, .pathFault .viewWrite 2 0] })).report := by
  constructor
  · decide
  · decide
  · decide
  · intro c; cases c <;> decide

/-- ZOOM TO is in hand and its target request waits. -/
theorem witness_StepKeepsTheWaitingOrder_reserved :
    CompletionsReserved ((inHand 0x0501 viewing).onLens (fun l => { l with fromZoom := [.target .zoom 1000 (.zoomTo none true)] })) := by
  constructor <;> decide

/-- The lens drains under a SOFT RESET in hand. -/
theorem witness_StepKeepsTheWaitingOrder_drains :
    let s := (inHand 0x0A04 (stepping .focus viewing)).onLens (fun l => { l with draining := true })
    CompletionsReserved s ∧ DrainsUnderSoftReset s ∧ s.lens.draining = true := by
  refine ⟨?_, fun _ => ⟨rfl, 9, rfl⟩, rfl⟩
  constructor <;> decide
theorem witness_StepKeepsTheLinkBounded : LinkBounded (arriving viewing).link := by
  constructor <;> decide

/-- Four slots in VIEW that show frames 4 to 6, one of them KEPT, with no frame in progress. -/
theorem witness_StepKeepsTheSlotTable : SlotsConsistent shownTable := by
  have four : ∀ (i : Nat) (e : Slot), shownTable.slots.table[i]? = some e →
      e.state ≠ .filling ∧ (e.state = .free → e.pins = 0) := by
    intro i e h
    match i with
    | 0 | 1 | 2 | 3 => cases h; decide
    | n + 4 => cases h
  refine ⟨?_, ?_, ?_, ?_, ?_, ?_, ?_⟩
  · intro e h; cases h; decide
  · intro i e h; exact ⟨fun f => absurd f (four i e h).1, fun ⟨_, h⟩ => by cases h⟩
  · intro n i h; cases h
  · decide
  · decide
  · decide
  · decide
theorem witness_KeptFramesStayUntilReleased :
    shownTable.command.valid = true ∧ shownTable.slots.table[3]? = some (slotWith .kept 6) ∧ (slotWith .kept 6).state = .kept ∧
    (∃ t, exec .holdRequest shownTable = .next t) ∧ (Instr.holdRequest ≠ .releaseRequest ∧ ∀ b, Instr.holdRequest ≠ .powerOnReset b) :=
  ⟨rfl, rfl, rfl, ⟨_, rfl⟩, by decide, by intro b h; cases h⟩
theorem witness_OnlySomeCommandsEnterViewOrCountFrames :
    (arriving prepared).command.mode = .standby ∧ (after (.setModeView 7 1) (arriving prepared)).command.mode = .view := by
  decide +kernel

/-- A write that begins below the capture aperture and one that ends above it, each with a piece at its base or without. -/
theorem witness_OnlySomeCommandsEnterViewOrCountFrames_counts :
    let s := writing 0x1FFFFF0 2 viewing
    headRequest s = some (.write 0x1FFFFF0 [0, 0]) ∧ s.command.mode = .view ∧ 0 < frameSize s ∧
    requestPieces s (.write 0x1FFFFF0 [0, 0]) = [zeros .plain 0x1FFFFF0 1, { zeros .capture 0x2000000 1 with place := 16 }] ∧
    s.command.config.captureBase = 0x2000000 ∧ (after (.captureApertureWrite 0) s).slots.seq = s.slots.seq + 1 := by
  decide +kernel
theorem witness_CommandRecordsDecodeToTheirCommand :
    (Instr.moveFocus 0xFFFF 0xFFFF).wellFormed = true ∧ (encodeRecord (.moveFocus 0xFFFF 0xFFFF)).isSome = true ∧
    (Instr.unknownCommand 0xFFFF 0).wellFormed = true ∧ (encodeRecord (.unknownCommand 0xFFFF 0)).isSome = true := by decide

/-- A slot of the table and a position beyond it. -/
theorem witness_RecordsHoldTheirFieldsAtTheirOffsets :
    shownTable.slots.table[3]? = some (slotWith .kept 6) ∧ shownTable.slots.table[4]? = none := by decide
end Sys2Proof.Tests
end

section
/-!
SUPPORT. What leaves the slot table's rules alone: the operations that keep every entry's state, pins and record frame, the
frame in progress, the count, the mode and the configuration.
-/
namespace Sys2Proof.Machine
variable (s : State)

/-- What the rules of the slot table read of an entry (R1 to R4): its state, its pins and its record frame. -/
def slotRow (e : Slot) : SlotState × Nat × BitVec 32 := (e.state, e.pins, e.recordFrame)

/-- Nothing that the rules of the slot table read differs between `s` and `t` (R1 to R4, R7, R15, R20). -/
structure SlotQuiet (s t : State) : Prop where
  rows : t.slots.table.map slotRow = s.slots.table.map slotRow
  seq : t.slots.seq = s.slots.seq
  tracker : t.slots.tracker = s.slots.tracker
  mode : t.command.mode = s.command.mode
  valid : t.command.valid = s.command.valid
  config : t.command.config = s.command.config

theorem slotQuiet_iff {s t : State} : SlotQuiet s t ↔
    t.slots.table.map slotRow = s.slots.table.map slotRow ∧ t.slots.seq = s.slots.seq ∧
    t.slots.tracker = s.slots.tracker ∧ t.command.mode = s.command.mode ∧ t.command.valid = s.command.valid ∧
    t.command.config = s.command.config :=
  ⟨fun ⟨a, b, c, d, e, f⟩ => ⟨a, b, c, d, e, f⟩, fun ⟨a, b, c, d, e, f⟩ => ⟨a, b, c, d, e, f⟩⟩

theorem SlotQuiet.refl (s : State) : SlotQuiet s s := ⟨rfl, rfl, rfl, rfl, rfl, rfl⟩

theorem SlotQuiet.trans {s t u : State} (h : SlotQuiet s t) (k : SlotQuiet t u) : SlotQuiet s u :=
  ⟨k.rows.trans h.rows, k.seq.trans h.seq, k.tracker.trans h.tracker, k.mode.trans h.mode, k.valid.trans h.valid,
    k.config.trans h.config⟩

theorem SlotQuiet.settle (b s : State) : SlotQuiet s (settle b s) := by simp [slotQuiet_iff]

theorem SlotQuiet.executing (code tag : BitVec 16) (s : State) : SlotQuiet s (executing code tag s) :=
  ⟨rfl, rfl, rfl, rfl, rfl, rfl⟩

/-- What the taking of a record leaves as it was (R152). -/
@[simp] theorem executing_frame (code tag : BitVec 16) :
    (executing code tag s).slots = s.slots ∧ (executing code tag s).stats = s.stats ∧
    (executing code tag s).exposure = s.exposure ∧ (executing code tag s).lens = s.lens ∧
    (executing code tag s).zoom = s.zoom ∧ (executing code tag s).focus = s.focus ∧
    (executing code tag s).steady = s.steady ∧ (executing code tag s).capture = s.capture ∧
    (executing code tag s).report = s.report ∧ (executing code tag s).pending = s.pending ∧
    (executing code tag s).command.mode = s.command.mode ∧ (executing code tag s).command.valid = s.command.valid ∧
    (executing code tag s).command.config = s.command.config ∧
    (executing code tag s).command.camMark = s.command.camMark ∧
    (executing code tag s).command.programMark = s.command.programMark := by simp [executing]

/-! ## Entries -/

/-- A change of an entry that keeps its row keeps every row. -/
theorem map_slotRow_updAt {f : Slot → Slot} (h : ∀ e, slotRow (f e) = slotRow e) (l : List Slot) (i : Nat) :
    (updAt f l i).map slotRow = l.map slotRow := by
  induction l generalizing i with
  | nil => rfl
  | cons a l ih => cases i <;> simp [updAt, h, ih]

@[simp] theorem supplyFields_slots (n : BitVec 32) (f : FrameRecord → FrameRecord) :
    (supplyFields n f s).slots.table.map slotRow = s.slots.table.map slotRow ∧
    (supplyFields n f s).slots.seq = s.slots.seq ∧ (supplyFields n f s).slots.tracker = s.slots.tracker := by
  rcases supplyFields_cases n f s with ⟨i, -, h⟩ | ⟨-, h⟩
  · simp [h, map_slotRow_updAt (f := fun e : Slot => { e with record := f e.record }) (fun _ => rfl)]
  · simp [h]

@[simp] theorem askSlots_slots (k : SlotRequestKind) (e : HeldEntry) (id : Nat) (x : Int) (w : CaptureWork) :
    (askSlots k e id x w s).slots.table = s.slots.table ∧ (askSlots k e id x w s).slots.seq = s.slots.seq ∧
    (askSlots k e id x w s).slots.tracker = s.slots.tracker := by simp [askSlots]

@[simp] theorem sendPin_slots (m : PinMessage) :
    (sendPin m s).slots.table = s.slots.table ∧ (sendPin m s).slots.seq = s.slots.seq ∧
    (sendPin m s).slots.tracker = s.slots.tracker ∧ (sendPin m s).slots.imageWaiting = s.slots.imageWaiting := by
  simp [sendPin]

@[simp] theorem popPin_slots :
    (popPin s).slots.table = s.slots.table ∧ (popPin s).slots.seq = s.slots.seq ∧
    (popPin s).slots.tracker = s.slots.tracker ∧ (popPin s).slots.imageWaiting = s.slots.imageWaiting := by
  simp [popPin]

@[simp] theorem unpinSource_slots :
    (unpinSource s).slots.table = s.slots.table ∧ (unpinSource s).slots.seq = s.slots.seq ∧
    (unpinSource s).slots.tracker = s.slots.tracker := by
  simp only [unpinSource]; split <;> simp

@[simp] theorem closePass_slots :
    (closePass s).slots.table = s.slots.table ∧ (closePass s).slots.seq = s.slots.seq ∧
    (closePass s).slots.tracker = s.slots.tracker := by
  simp only [closePass]; (repeat' split) <;> simp

@[simp] theorem passDelivered_slots (p : Option (BitVec 16)) :
    (passDelivered p s).slots.table = s.slots.table ∧ (passDelivered p s).slots.seq = s.slots.seq ∧
    (passDelivered p s).slots.tracker = s.slots.tracker := by
  simp only [passDelivered]; (repeat' split) <;> simp

@[simp] theorem deliverTag_slots (t : Nat) :
    (deliverTag t s).slots.table = s.slots.table ∧ (deliverTag t s).slots.seq = s.slots.seq ∧
    (deliverTag t s).slots.tracker = s.slots.tracker := by
  simp only [deliverTag]; (repeat' split) <;> simp

/-! ## The Command Unit's mode and configuration -/

@[simp] theorem complete_command (st : Status) (v : Int) :
    (complete st v s).command.mode = s.command.mode ∧ (complete st v s).command.valid = s.command.valid ∧
    (complete st v s).command.config = s.command.config := ⟨rfl, rfl, rfl⟩

@[simp] theorem completeDone_command :
    (completeDone s).command.mode = s.command.mode ∧ (completeDone s).command.valid = s.command.valid ∧
    (completeDone s).command.config = s.command.config := ⟨rfl, rfl, rfl⟩

@[simp] theorem refuse_command (st : Status) :
    (refuse st s).command.mode = s.command.mode ∧ (refuse st s).command.valid = s.command.valid ∧
    (refuse st s).command.config = s.command.config := ⟨rfl, rfl, rfl⟩

/-! ## Parameter commands -/

theorem setStatisticsWork_quiet (p : StatParams) : SlotQuiet s (setStatisticsWork p s) := by
  simp only [setStatisticsWork]; split <;> simp [slotQuiet_iff]
theorem setMeteringWork_quiet (a b c d e f : Nat) : SlotQuiet s (setMeteringWork a b c d e f s) := by
  simp only [setMeteringWork]; split <;> simp [slotQuiet_iff]
theorem setExposureModeWork_quiet (m : Nat) : SlotQuiet s (setExposureModeWork m s) := by
  simp only [setExposureModeWork]; (repeat' split) <;> simp [slotQuiet_iff]
theorem setCompensationWork_quiet (v : Int) : SlotQuiet s (setCompensationWork v s) := by
  simp only [setCompensationWork]; (repeat' split) <;> simp [slotQuiet_iff]
theorem setManualExposureWork_quiet (a : BitVec 32) (b : BitVec 16) (c : BitVec 8) :
    SlotQuiet s (setManualExposureWork a b c s) := by
  simp only [setManualExposureWork]; (repeat' split) <;> simp [slotQuiet_iff]
theorem setSteadyWork_quiet (e : Bool) (a b c d f : Nat) : SlotQuiet s (setSteadyWork e a b c d f s) := by
  simp only [setSteadyWork]; (repeat' split) <;> simp [slotQuiet_iff]
theorem recenterSteadyWork_quiet : SlotQuiet s (recenterSteadyWork s) := by
  simp [recenterSteadyWork, slotQuiet_iff]
theorem setFocusModeWork_quiet (a b c d e : Nat) : SlotQuiet s (setFocusModeWork a b c d e s) := by
  simp only [setFocusModeWork]; (repeat' split) <;> simp [slotQuiet_iff]
theorem setFocusWindowsWork_quiet (w : List FocusWindow) : SlotQuiet s (setFocusWindowsWork w s) := by
  simp only [setFocusWindowsWork]; (repeat' split) <;> simp [slotQuiet_iff]
theorem setViewSourceWork_quiet (n : Nat) : SlotQuiet s (setViewSourceWork n s) := by
  simp only [setViewSourceWork]; (repeat' split) <;> simp [slotQuiet_iff]

/-! ## Lens, zoom and focus -/

theorem homeLensWork_quiet : SlotQuiet s (homeLensWork s) := by
  simp only [homeLensWork]; split <;> simp [slotQuiet_iff]
theorem parkLensWork_quiet : SlotQuiet s (parkLensWork s) := by
  simp only [parkLensWork]; (repeat' split) <;> simp [slotQuiet_iff]
theorem setLensDriveWork_quiet (a b c d e f g h : Nat) : SlotQuiet s (setLensDriveWork a b c d e f g h s) := by
  simp only [setLensDriveWork]; split <;> simp [slotQuiet_iff]
theorem zoomToWork_quiet (z : Nat) : SlotQuiet s (zoomToWork z s) := by
  simp only [zoomToWork]; split <;> simp [slotQuiet_iff]
theorem zoomStopWork_quiet : SlotQuiet s (zoomStopWork s) := by
  simp only [zoomStopWork]; split <;> simp [slotQuiet_iff]
theorem startFocusWork_quiet : SlotQuiet s (startFocusWork s) := by
  simp only [startFocusWork]; (repeat' split) <;> simp [slotQuiet_iff]
theorem cancelFocusWork_quiet : SlotQuiet s (cancelFocusWork s) := by
  simp only [cancelFocusWork]; (repeat' split) <;> simp [slotQuiet_iff]
@[simp] theorem moveFocusTaken_command (c : Nat) (b : Bool) :
    (moveFocusTaken c b s).command.mode = s.command.mode ∧ (moveFocusTaken c b s).command.valid = s.command.valid ∧
    (moveFocusTaken c b s).command.config = s.command.config := by
  simp only [moveFocusTaken]; (repeat' split) <;> simp
theorem moveFocusWork_quiet (p : Nat) : SlotQuiet s (moveFocusWork p s) := by
  simp only [moveFocusWork]; (repeat' split) <;> simp [slotQuiet_iff]
theorem targetAnswered_quiet (r : Requester) (p : Nat) (w : RequestPurpose) (b : Bool) :
    SlotQuiet s (targetAnswered r p w b s) := by
  simp only [targetAnswered]; (repeat' split) <;> simp [slotQuiet_iff]
theorem stopAnswered_quiet (w : RequestPurpose) (t : Option Nat) (b : Bool) : SlotQuiet s (stopAnswered w t b s) := by
  simp only [stopAnswered]; split <;> simp [slotQuiet_iff]
theorem targetRequest_quiet (r : Requester) (m : Motor) (p : Nat) (w : RequestPurpose) :
    SlotQuiet s (targetRequest r m p w s) := by
  simp only [targetRequest]; split
  · exact .trans (by simp [slotQuiet_iff]) (targetAnswered_quiet ..)
  · exact targetAnswered_quiet ..
theorem stopRequest_quiet (m : Motor) (w : RequestPurpose) : SlotQuiet s (stopRequest m w s) := by
  simp only [stopRequest]; split
  · exact .trans (by simp [slotQuiet_iff]) (stopAnswered_quiet ..)
  · exact stopAnswered_quiet ..

/-! ## The work of a completed frame -/

theorem statisticsWork_quiet (m : Measurement) : SlotQuiet s (statisticsWork m s) := by
  simp [statisticsWork, handRecord, slotQuiet_iff]
theorem exposureWork_quiet (l : ExposureLatch) (a : Announcement) (r : StatRecord) :
    SlotQuiet s (exposureWork l a r s) := by
  simp only [exposureWork]; split <;> simp [slotQuiet_iff, exposureViewWork, supplyMetering]
theorem steadyWork_quiet (l : SteadyLatch) (a : Announcement) (r : StatRecord) : SlotQuiet s (steadyWork l a r s) := by
  simp only [steadyWork]; (repeat' split) <;> simp [slotQuiet_iff, steadyFrame]

/-! ## The Capture Unit (R129) -/

@[simp] theorem armed_command (c : Bool) (b : Nat) :
    (armed c b s).command.mode = s.command.mode ∧ (armed c b s).command.valid = s.command.valid ∧
    (armed c b s).command.config = s.command.config := by
  simp only [armed]; split <;> simp

@[simp] theorem armNext_quiet (c : Bool) (b : Nat) (l : List HeldEntry) : SlotQuiet s (armNext c b l s) := by
  simp only [armNext]; split <;> simp [slotQuiet_iff]
theorem startArm_quiet (p b : Nat) : SlotQuiet s (startArm p b s) := by
  simp only [startArm]; split
  · simp [slotQuiet_iff]
  · split
    · simp [slotQuiet_iff]
    · split
      · simp [slotQuiet_iff]
      · exact .trans (by simp [slotQuiet_iff]) (armNext_quiet ..)
theorem stopNext_quiet (w : StopReason) (l : List HeldEntry) : SlotQuiet s (stopNext w l s) := by
  simp only [stopNext]; split <;> simp [slotQuiet_iff]
theorem startStop_quiet (w : StopReason) : SlotQuiet s (startStop w s) := by
  simp only [startStop]; split
  · simp [slotQuiet_iff]
  · exact stopNext_quiet ..
  · simp [slotQuiet_iff]
theorem startRelease_quiet (n : Nat) : SlotQuiet s (startRelease n s) := by
  simp only [startRelease]; (repeat' split) <;> simp [slotQuiet_iff]
theorem startCommand_quiet (c : CaptureCommand) : SlotQuiet s (startCommand c s) := by
  cases c with
  | arm p b => exact startArm_quiet ..
  | stop => exact startStop_quiet ..
  | release n => exact startRelease_quiet ..
  | standby => exact startStop_quiet ..
theorem takeCommand_quiet (c : CaptureCommand) : SlotQuiet s (takeCommand c s) := by
  simp only [takeCommand]; split
  · exact startCommand_quiet ..
  · simp [slotQuiet_iff]
theorem endWork_quiet : SlotQuiet s (endWork s) := by
  simp only [endWork]; split
  · exact .trans (by simp [slotQuiet_iff]) (startCommand_quiet ..)
  · simp [slotQuiet_iff]
theorem keepNext_quiet (l : List HeldEntry) (i : Int) (k : Nat) : SlotQuiet s (keepNext l i k s) := by
  simp only [keepNext]; split
  · simp [slotQuiet_iff]
  · exact .trans (by simp [slotQuiet_iff]) (endWork_quiet ..)
theorem captureCompletion_quiet (a : Announcement) : SlotQuiet s (captureCompletion a s) := by
  simp only [captureCompletion, armedCompletion, runningCompletion, askHold]
  (repeat' split) <;> simp [slotQuiet_iff]
theorem captureToggle_quiet (v : Bool) : SlotQuiet s (captureToggle v s) := by
  simp only [captureToggle]; split
  · exact .refl s
  · split
    · exact .trans (by simp [slotQuiet_iff]) (keepNext_quiet ..)
    · simp [slotQuiet_iff]

/-- The Slot Manager's answer continues the work without a change of the slots (R129). -/
theorem continueWork_quiet (w : CaptureWork) (a : SlotAnswer) : SlotQuiet s (continueWork w a s) := by
  cases w with
  | arming e rest c b => cases a <;> exact .trans (by simp [slotQuiet_iff]) (armNext_quiet ..)
  | makeRoom e => cases a <;> simp [continueWork, askHold, slotQuiet_iff]
  | holdFrame e => cases a <;> exact .trans (by simp [slotQuiet_iff]) (endWork_quiet ..)
  | keepHeld e rest i k => cases a <;> exact .trans (by simp [slotQuiet_iff]) (keepNext_quiet ..)
  | keepFrame e t => cases a <;> exact .trans (by simp [slotQuiet_iff]) (endWork_quiet ..)
  | stopping rest why => cases a <;> exact .trans (by simp [slotQuiet_iff]) (stopNext_quiet ..)
  | releasing => cases a <;> exact .trans (by simp [slotQuiet_iff]) (endWork_quiet ..)

/-! ## Tables and the resynchronisation (R159, R161) -/

theorem endLoad_quiet (st : Status) : SlotQuiet s (endLoad st s) := by simp [endLoad, slotQuiet_iff]
theorem loadTableWork_quiet (k : BitVec 8) (a : BitVec 32) : SlotQuiet s (loadTableWork k a s) := by
  simp only [loadTableWork]; (repeat' split) <;> simp [slotQuiet_iff]
theorem commitImage_quiet {k : TableKind} {b : List Byte} {t : State} (h : commitImage k b s = some t) :
    SlotQuiet s t := by
  cases k <;> simp only [commitImage] at h <;> split at h <;> simp at h <;> subst h <;> simp [slotQuiet_iff]
theorem finishImage_quiet (t : Staging) : SlotQuiet s (finishImage t s) := by
  simp only [finishImage]; split
  · rename_i u _ h; exact (commitImage_quiet s h).trans (by simp [slotQuiet_iff])
  · exact endLoad_quiet ..
theorem headerReturned_quiet (t : Staging) (h : List Byte) : SlotQuiet s (headerReturned t h s) := by
  simp only [headerReturned]; split
  · split
    · exact finishImage_quiet ..
    · simp [slotQuiet_iff]
  · exact endLoad_quiet ..
theorem restReturned_quiet (t : Staging) : SlotQuiet s (restReturned t s) := by
  simp only [restReturned]; split
  · exact finishImage_quiet ..
  · simp [slotQuiet_iff]
theorem failedReturn_quiet (t : Staging) (l : List Nat) : SlotQuiet s (failedReturn t l s) := by
  simp only [failedReturn]; split
  · exact endLoad_quiet ..
  · simp [slotQuiet_iff]
theorem tableReturned_quiet (o : Nat) (e : Bool) (d : List LinkWord) (t : Staging) :
    SlotQuiet s (tableReturned o e d t s) := by
  simp only [tableReturned]; split
  · exact .trans (by simp [slotQuiet_iff]) (failedReturn_quiet ..)
  · split
    · exact headerReturned_quiet ..
    · exact restReturned_quiet ..
theorem resynchronise_quiet : SlotQuiet s (resynchronise s) := by simp [resynchronise, slotQuiet_iff]

/-! ## Plain pieces of a request (R143, R145) -/

@[simp] theorem takeTail_command (t : BitVec 16) (a : Nat) :
    (takeTail t a s).command.mode = s.command.mode ∧ (takeTail t a s).command.valid = s.command.valid ∧
    (takeTail t a s).command.config = s.command.config := by
  simp only [takeTail]; (repeat' split) <;> simp

theorem foldl_handField_quiet (a : Nat) (l : List BlockField) : SlotQuiet s (l.foldl (handField a) s) := by
  induction l generalizing s with
  | nil => exact .refl s
  | cons f l ih => exact .trans (by cases f <;> simp [handField, slotQuiet_iff]) (ih (handField a s f))

theorem plainWrite_quiet (p : Piece) : SlotQuiet s (plainWrite p s) :=
  (foldl_handField_quiet s (max p.addr (controlBase s)) (blockFields (controlBase s) p)).trans
    (by simp [plainWrite, slotQuiet_iff])

/-- A write without a capture piece is quiet (R143). -/
theorem foldl_writePiece_quiet (now : Nat) (l : List Piece) (h : ∀ p ∈ l, p.region ≠ .capture) :
    SlotQuiet s (l.foldl (writePiece now) s) := by
  induction l generalizing s with
  | nil => exact .refl s
  | cons p l ih =>
    have first : SlotQuiet s (writePiece now s p) := by
      simp only [writePiece]; split
      · exact plainWrite_quiet ..
      · exact absurd ‹_› (h p (by simp))
      · simp [slotQuiet_iff]
    exact first.trans (ih _ fun q hq => h q (by simp [hq]))

/-- A read without a view piece is quiet (R14, R143). -/
theorem foldl_readPiece_quiet (tag : Nat) (l : List Piece) (h : ∀ p ∈ l, p.region ≠ .view) :
    SlotQuiet s (l.foldl (readPiece tag) s) := by
  induction l generalizing s with
  | nil => exact .refl s
  | cons p l ih =>
    have first : SlotQuiet s (readPiece tag s p) := by
      simp only [readPiece]; split
      · simp [slotQuiet_iff]
      · simp [slotQuiet_iff]
      · exact absurd ‹_› (h p (by simp))
    exact first.trans (ih _ fun q hq => h q (by simp [hq]))

/-- The request has no piece of class `g`. -/
theorem reaches_eq_false {g : Region} {s : State} {r : HostRequest} :
    reaches g s r = false ↔ ∀ p ∈ requestPieces s r, p.region ≠ g := by
  simp [reaches]

/-- A write that reaches no capture aperture, and a read that reaches no view aperture, are quiet. -/
theorem takeRequest_quiet (now : Nat) {r : HostRequest}
    (h : if isWrite r then reaches .capture s r = false else reaches .view s r = false) :
    SlotQuiet s (takeRequest now r s) := by
  cases r with
  | write a d =>
    exact .trans (by simp [slotQuiet_iff]) (foldl_writePiece_quiet (popArrival s) now _ (reaches_eq_false.mp h))
  | read tag a n =>
    have pieces := foldl_readPiece_quiet
      ((popArrival s).onLink (fun l => { l with readMap := l.readMap ++ [readEntry tag.toNat n] })) tag.toNat _
      (reaches_eq_false.mp h)
    have start : SlotQuiet s
      ((popArrival s).onLink (fun l => { l with readMap := l.readMap ++ [readEntry tag.toNat n] })) := by
      simp [slotQuiet_iff]
    exact (start.trans pieces).trans (by simp [takeRequest, slotQuiet_iff])

/-! ## Every command but those that act on the slots, the mode or the configuration -/

/-- The rows that may change what the rules of the slot table read. -/
def actsOnSlots : Instr → Bool
  | .powerOnReset _ | .captureApertureWrite _ | .captureApertureRead | .viewApertureRead | .configureFrame ..
  | .setModeView .. | .setModeStandby _ | .softReset _ | .holdRequest | .unholdRequest | .keepRequest | .releaseRequest
  | .pinRequest | .unpinRequest => true
  | _ => false

section
variable {s} {t : State}

theorem finish_quiet {u : State} (h : SlotQuiet s u) (ht : finish s u = .next t) : SlotQuiet s t := by
  cases ht; exact h.trans (.settle s u)

theorem notDue_quiet (ht : notDue s = .next t) : SlotQuiet s t := by cases ht; exact .refl s

theorem finishIf_quiet {o : Option State} (h : ∀ u, o = some u → SlotQuiet s u) (ht : finishIf s o = .next t) :
    SlotQuiet s t := by
  cases o with
  | none => exact notDue_quiet ht
  | some u => exact finish_quiet (h u rfl) ht

/-- A host command acts on the state with the command in hand, or its record has not arrived. -/
theorem runCommand_cases {code tag : BitVec 16} {work : State → State} (ht : runCommand code tag work s = .next t) :
    (CommandArrives s ∧ t = settle s (work (executing code tag s))) ∨ (¬ CommandArrives s ∧ t = s) := by
  by_cases arrives : CommandArrives s
  · rw [runCommand_of_arrives code tag work arrives] at ht; cases ht; exact .inl ⟨arrives, rfl⟩
  · rw [runCommand_of_not code tag work arrives] at ht; cases ht; exact .inr ⟨arrives, rfl⟩

/-- A row of an arrival takes the head request, which is of its kind, or changes nothing. -/
theorem takeHeadIf_cases {kind : State → HostRequest → Bool} {now : Nat} (ht : takeHeadIf kind now s = .next t) :
    (∃ r, headRequest s = some r ∧ kind s r = true ∧ t = settle s (takeRequest now r s)) ∨ t = s := by
  simp only [takeHeadIf] at ht
  split at ht
  · split at ht <;> cases ht
    · exact .inl ⟨_, ‹_›, ‹_›, rfl⟩
    · exact .inr rfl
  · cases ht; exact .inr rfl

theorem runCommand_quiet {code tag : BitVec 16} {work : State → State} (h : ∀ u, SlotQuiet u (work u))
    (ht : runCommand code tag work s = .next t) : SlotQuiet s t := by
  obtain ⟨-, rfl⟩ | ⟨-, rfl⟩ := runCommand_cases ht
  · exact ((SlotQuiet.executing code tag s).trans (h _)).trans (.settle s _)
  · exact .refl t

theorem takeHeadIf_quiet {kind : State → HostRequest → Bool} {now : Nat}
    (h : ∀ r, kind s r = true → if isWrite r then reaches .capture s r = false else reaches .view s r = false)
    (ht : takeHeadIf kind now s = .next t) : SlotQuiet s t := by
  obtain ⟨r, -, hr, rfl⟩ | rfl := takeHeadIf_cases ht
  · exact (takeRequest_quiet s now (h r hr)).trans (.settle s _)
  · exact .refl t

/-- A request that reaches no aperture is quiet. -/
theorem takePlain_quiet {kind : State → HostRequest → Bool} {now : Nat} (h : ∀ r, kind s r = true → plainOnly s r = true)
    (ht : takeHeadIf kind now s = .next t) : SlotQuiet s t := by
  refine takeHeadIf_quiet (fun r hr => ?_) ht
  have := h r hr
  simp only [plainOnly, Bool.and_eq_true, Bool.not_eq_true'] at this
  split
  · exact this.1
  · exact this.2

end

end Sys2Proof.Machine
end

section
namespace Sys2Proof.Machine

theorem finishIf_map_quiet {α : Type} {s t : State} {o : Option α} {f : α → State} (h : ∀ x, SlotQuiet s (f x))
    (ht : finishIf s (o.map f) = .next t) : SlotQuiet s t := by
  cases o with
  | none => exact notDue_quiet ht
  | some x => exact finish_quiet (h x) ht

theorem handsOver_plainOnly {f : BlockField → Bool} {s : State} {r : HostRequest} (h : handsOver f s r = true) :
    plainOnly s r = true := by
  simp only [handsOver, Bool.and_eq_true] at h; exact h.1

theorem takeExposureWork_quiet {s u : State} (h : takeExposureWork s = some u) : SlotQuiet s u := by
  simp only [takeExposureWork] at h
  split at h
  · split at h <;> cases h
    · exact .trans (by simp [slotQuiet_iff]) (exposureWork_quiet ..)
    · simp [slotQuiet_iff]
  · cases h

theorem takeSteadyWork_quiet {s u : State} (h : takeSteadyWork s = some u) : SlotQuiet s u := by
  simp only [takeSteadyWork] at h
  split at h
  · split at h <;> cases h
    · exact .trans (by simp [slotQuiet_iff]) (steadyWork_quiet ..)
    · simp [slotQuiet_iff]
  · cases h

theorem takeAnswer_quiet {s u : State} (h : takeAnswer s = some u) : SlotQuiet s u := by
  simp only [takeAnswer] at h
  split at h <;> cases h
  exact .trans (by simp [slotQuiet_iff]) (continueWork_quiet ..)

/-- Every row but those of `actsOnSlots` is quiet: a host command by its work, any other by the block it acts on. -/
theorem exec_quiet {c : Instr} {s t : State} (hc : actsOnSlots c = false) (ht : exec c s = .next t) : SlotQuiet s t := by
  cases c with
  | powerOnReset | captureApertureWrite | captureApertureRead | viewApertureRead | configureFrame | setModeView
  | setModeStandby | softReset | holdRequest | unholdRequest | keepRequest | releaseRequest | pinRequest
  | unpinRequest => cases hc
  -- the link and the writes that leave the part
  | hostRequest | downstreamGrant | downstreamReadResponse | viewStale | slotImageWrite | statusBlockWrite | reportWrite
  | commandFetch =>
    simp only [exec, execHostRequest, execDownstreamGrant, execDownstreamReadResponse, execViewStale, execSlotImageWrite,
      execStatusBlockWrite, execReportWrite, execCommandFetch, writeReport, finish, notDue] at ht
    (repeat' split at ht) <;> cases ht <;> simp [slotQuiet_iff, pushOwn]
  | viewWrite =>
    refine takeHeadIf_quiet (kind := fun s r => isWrite r && reaches .view s r && !reaches .capture s r) (fun r hr => ?_) ht
    simp only [Bool.and_eq_true, Bool.not_eq_true'] at hr
    simp [hr.1.1, hr.2]
  | plainRequest =>
    exact takePlain_quiet (kind := fun s r => plainOnly s r && (requestFields s r).isEmpty)
      (fun r hr => by simp only [Bool.and_eq_true] at hr; exact hr.1) ht
  | commandTail | triggerToggle | reportHead | attentionMask =>
    exact takePlain_quiet (fun r hr => handsOver_plainOnly hr) ht
  -- the notices the blocks take
  | focusCompletionWork | focusFrameLimit | exposureAlarm | sceneChanged | focusMoveEnd | focusStepLoss | lensFault
  | zoomStarted | zoomStopped =>
    simp only [exec, execFocusCompletionWork, execFocusFrameLimit, execExposureAlarm, execSceneChanged, execFocusMoveEnd,
      execFocusStepLoss, execLensFault, execZoomStarted, execZoomStopped, finish, notDue] at ht
    (repeat' split at ht) <;> cases ht <;> simp [slotQuiet_iff]
  | trackingAnswer | zoomPositionHandover | zoomStart | zoomEnd | zoomMoveEnd | zoomStepLoss | lensStateChange
  | setFromPosition | setFraction | takeReference | dropReference =>
    simp only [exec, execTrackingAnswer, execZoomPositionHandover, execZoomStart, execZoomEnd, execZoomMoveEnd,
      execZoomStepLoss, execLensStateChange, execSetFromPosition, execSetFraction, execTakeReference, execDropReference,
      finish, notDue] at ht
    (repeat' split at ht) <;> cases ht <;> simp [slotQuiet_iff]
  | lensSegmentDone | faultAnswer | segmentTimeout => exact finishIf_map_quiet (fun g => by simp [slotQuiet_iff]) ht
  | noHome =>
    simp only [exec, execNoHome] at ht; split at ht
    · exact finishIf_map_quiet (fun g => by simp [slotQuiet_iff]) ht
    · exact notDue_quiet ht
  | statisticsCompletionWork => exact finishIf_map_quiet (fun m => statisticsWork_quiet s m) ht
  | exposureCompletionWork => exact finishIf_quiet (fun _ => takeExposureWork_quiet) ht
  | steadyCompletionWork => exact finishIf_quiet (fun _ => takeSteadyWork_quiet) ht
  | captureSlotAnswer => exact finishIf_quiet (fun _ => takeAnswer_quiet) ht
  | captureCompletion =>
    simp only [exec, execCaptureCompletion] at ht; split at ht
    · exact finish_quiet (.trans (by simp [slotQuiet_iff]) (captureCompletion_quiet ..)) ht
    · exact notDue_quiet ht
  | captureTrigger =>
    simp only [exec, execCaptureTrigger] at ht; split at ht
    · exact finish_quiet (.trans (by simp [slotQuiet_iff]) (captureToggle_quiet ..)) ht
    · exact notDue_quiet ht
  | targetRequest =>
    simp only [exec, execTargetRequest] at ht; split at ht
    · exact finish_quiet (.trans (by simp [slotQuiet_iff]) (targetRequest_quiet ..)) ht
    · exact notDue_quiet ht
  | stopRequest =>
    simp only [exec, execStopRequest] at ht; split at ht
    · exact finish_quiet (.trans (by simp [slotQuiet_iff]) (stopRequest_quiet ..)) ht
    · exact notDue_quiet ht
  | tableFetchReturn =>
    simp only [exec, execTableFetchReturn] at ht; split at ht
    · exact finish_quiet (.trans (by simp [slotQuiet_iff]) (tableReturned_quiet ..)) ht
    · exact notDue_quiet ht
  | softResetComplete =>
    simp only [exec, execSoftResetComplete] at ht; split at ht
    · exact finish_quiet (.trans (resynchronise_quiet s) (by simp [slotQuiet_iff])) ht
    · exact notDue_quiet ht
  -- the host commands
  | memoryError =>
    exact runCommand_quiet (work := complete .memoryError 0) (fun u => by simp [slotQuiet_iff]) ht
  | unknownCommand =>
    simp only [exec, execUnknownCommand] at ht; split at ht
    · exact notDue_quiet ht
    · exact runCommand_quiet (fun u => by simp [slotQuiet_iff]) ht
  | setStatistics => exact runCommand_quiet (fun u => setStatisticsWork_quiet u _) ht
  | setMetering => exact runCommand_quiet (fun u => setMeteringWork_quiet u _ _ _ _ _ _) ht
  | setExposureMode => exact runCommand_quiet (fun u => setExposureModeWork_quiet u _) ht
  | setCompensation => exact runCommand_quiet (fun u => setCompensationWork_quiet u _) ht
  | setManualExposure => exact runCommand_quiet (fun u => setManualExposureWork_quiet u _ _ _) ht
  | homeLens => exact runCommand_quiet (fun u => homeLensWork_quiet u) ht
  | parkLens => exact runCommand_quiet (fun u => parkLensWork_quiet u) ht
  | setLensDrive => exact runCommand_quiet (fun u => setLensDriveWork_quiet u _ _ _ _ _ _ _ _) ht
  | zoomTo => exact runCommand_quiet (fun u => zoomToWork_quiet u _) ht
  | zoomStop => exact runCommand_quiet (fun u => zoomStopWork_quiet u) ht
  | setFocusMode => exact runCommand_quiet (fun u => setFocusModeWork_quiet u _ _ _ _ _) ht
  | setFocusWindows => exact runCommand_quiet (fun u => setFocusWindowsWork_quiet u _) ht
  | startFocus => exact runCommand_quiet (fun u => startFocusWork_quiet u) ht
  | cancelFocus => exact runCommand_quiet (fun u => cancelFocusWork_quiet u) ht
  | moveFocus => exact runCommand_quiet (fun u => moveFocusWork_quiet u _) ht
  | setSteady => exact runCommand_quiet (fun u => setSteadyWork_quiet u _ _ _ _ _ _) ht
  | recenterSteady => exact runCommand_quiet (fun u => recenterSteadyWork_quiet u) ht
  | setViewSource => exact runCommand_quiet (fun u => setViewSourceWork_quiet u _) ht
  | armCapture | stopCapture | releaseSlot => exact runCommand_quiet (fun u => takeCommand_quiet u _) ht
  | loadTable => exact runCommand_quiet (fun u => loadTableWork_quiet u _ _) ht

end Sys2Proof.Machine
end

section
/-!
SUPPORT. The rules of the slot table (R1 to R4, R7, R20) step by step: what a change of entries, the start, the completion and
the abandonment of a frame keep.
-/
namespace Sys2Proof.Machine

/-! ## The entries from slot 1 on -/

theorem getElem?_drop_one {α : Type} (l : List α) {j : Nat} (h : j ≠ 0) : (l.drop 1)[j - 1]? = l[j]? := by
  rw [List.getElem?_drop, show 1 + (j - 1) = j by omega]

theorem mem_indexed_iff {α : Type} {p : α → Bool} {l : List α} {i : Nat} {x : Nat × α} :
    x ∈ indexed p l i ↔ i ≤ x.1 ∧ l[x.1 - i]? = some x.2 ∧ p x.2 = true := by
  refine ⟨mem_indexed, ?_⟩
  induction l generalizing i with
  | nil => simp
  | cons a l ih =>
    rintro ⟨hi, hget, hp⟩
    have rest : i ≠ x.1 → x ∈ indexed p l (i + 1) := fun hne => ih ⟨by omega,
      by rwa [show x.1 - i = (x.1 - (i + 1)) + 1 by omega, List.getElem?_cons_succ] at hget, hp⟩
    by_cases heq : i = x.1
    · subst heq
      simp only [Nat.sub_self, List.getElem?_cons_zero, Option.some.injEq] at hget
      subst hget
      simp [indexed, hp]
    · simp only [indexed]; split
      · exact List.mem_cons_of_mem _ (rest heq)
      · exact rest heq

/-- The entries of the table other than slot 0 that satisfy `p`, with their slot numbers. -/
theorem mem_indexed_slots {p : Slot → Bool} {table : List Slot} {x : Nat × Slot} :
    x ∈ indexed p (table.drop 1) 1 ↔ x.1 ≠ 0 ∧ table[x.1]? = some x.2 ∧ p x.2 = true := by
  rw [mem_indexed_iff]
  constructor
  · rintro ⟨h, hget, hp⟩
    exact ⟨by omega, by rwa [getElem?_drop_one _ (by omega)] at hget, hp⟩
  · rintro ⟨h, hget, hp⟩
    exact ⟨by omega, by rwa [getElem?_drop_one _ h], hp⟩

/-! ## The fill choice (R4) -/

theorem freeSlot_eq_some {table : List Slot} {i : Nat} (h : freeSlot table = some i) :
    (i ≠ 0 ∧ ∃ e, table[i]? = some e ∧ e.state = .free) ∧
    ∀ j e, j ≠ 0 → table[j]? = some e → e.state = .free → i ≤ j := by
  obtain ⟨hi, e, he, hf⟩ := findIndex_some h
  refine ⟨⟨by omega, e, ?_, by simpa using hf⟩, fun j x hj hx hfree => ?_⟩
  · rwa [getElem?_drop_one _ (by omega)] at he
  · by_contra hlt
    have member : x ∈ (table.drop 1).take (i - 1) := by
      refine List.mem_of_getElem? (i := j - 1) ?_
      rw [List.getElem?_take_of_lt (by omega), getElem?_drop_one _ hj, hx]
    exact absurd (findIndex_least h x member) (by simp [hfree])

theorem freeSlot_eq_none {table : List Slot} (h : freeSlot table = none) {j : Nat} {e : Slot} (hj : j ≠ 0)
    (he : table[j]? = some e) : e.state ≠ .free := by
  have member : e ∈ table.drop 1 :=
    List.mem_of_getElem? (i := j - 1) (by rw [getElem?_drop_one _ hj, he])
  simpa using findIndex_none h e member

/-- The fold of test 2 takes an element of greatest distance, if there is one. -/
theorem foldl_oldest (n : BitVec 32) (l : List (Nat × Slot)) (best : Option (Nat × Slot)) :
    let r := l.foldl (fun best x =>
      match best with
      | none => some x
      | some b => if behind n b.2.fillAge < behind n x.2.fillAge then some x else some b) best
    (r = none ↔ best = none ∧ l = []) ∧
    ∀ b, r = some b → (best = some b ∨ b ∈ l) ∧
      ∀ x, best = some x ∨ x ∈ l → behind n x.2.fillAge ≤ behind n b.2.fillAge := by
  induction l generalizing best with
  | nil => cases best <;> simp
  | cons a l ih =>
    cases best with
    | none =>
      obtain ⟨hn, hb⟩ := ih (some a)
      refine ⟨by simpa using hn, fun b h => ?_⟩
      obtain ⟨hmem, hmax⟩ := hb b h
      refine ⟨.inr ?_, fun x hx => hmax x ?_⟩
      · rcases hmem with h | h
        · cases h; simp
        · simp [h]
      · rcases hx with h | h
        · cases h
        · rcases List.mem_cons.mp h with rfl | h
          · exact .inl rfl
          · exact .inr h
    | some c =>
      simp only [List.foldl_cons]
      split
      · rename_i hlt
        obtain ⟨hn, hb⟩ := ih (some a)
        refine ⟨by simpa using hn, fun b h => ?_⟩
        obtain ⟨hmem, hmax⟩ := hb b h
        refine ⟨.inr ?_, fun x hx => ?_⟩
        · rcases hmem with h | h
          · cases h; simp
          · simp [h]
        · rcases hx with h | h
          · cases h; exact (Nat.le_of_lt hlt).trans (hmax a (.inl rfl))
          · rcases List.mem_cons.mp h with rfl | h
            · exact hmax _ (.inl rfl)
            · exact hmax _ (.inr h)
      · rename_i hge
        obtain ⟨hn, hb⟩ := ih (some c)
        refine ⟨by simpa using hn, fun b h => ?_⟩
        obtain ⟨hmem, hmax⟩ := hb b h
        refine ⟨hmem.imp_right (by simp +contextual), fun x hx => ?_⟩
        rcases hx with h | h
        · exact hmax x (.inl h)
        · rcases List.mem_cons.mp h with rfl | h
          · exact (Nat.le_of_not_lt hge).trans (hmax c (.inl rfl))
          · exact hmax _ (.inr h)

/-- Slot `i` with entry `e` passes test 2 of R4. -/
abbrev FillsOver (table : List Slot) (i : Nat) (e : Slot) : Prop :=
  i ≠ 0 ∧ table[i]? = some e ∧ e.state = .filled ∧ e.pins = 0

theorem mem_indexed_fillsOver {table : List Slot} {x : Nat × Slot} :
    x ∈ indexed (fun e => e.state == .filled && e.pins == 0) (table.drop 1) 1 ↔ FillsOver table x.1 x.2 := by
  rw [mem_indexed_slots]; simp

theorem oldestFilled_eq_some {n : BitVec 32} {table : List Slot} {i : Nat} (h : oldestFilled n table = some i) :
    ∃ e, FillsOver table i e ∧ ∀ j e', FillsOver table j e' → behind n e'.fillAge ≤ behind n e.fillAge := by
  obtain ⟨b, hb, rfl⟩ := Option.map_eq_some_iff.mp h
  obtain ⟨hmem, hmax⟩ := (foldl_oldest n _ none).2 b hb
  have hb' : b ∈ _ := hmem.resolve_left (by simp)
  exact ⟨b.2, mem_indexed_fillsOver.mp hb', fun j e' he => hmax (j, e') (.inr (mem_indexed_fillsOver.mpr he))⟩

theorem oldestFilled_eq_none {n : BitVec 32} {table : List Slot} (h : oldestFilled n table = none) (j : Nat) (e : Slot) :
    ¬ FillsOver table j e := by
  intro he
  have hnil := ((foldl_oldest n _ none).1.mp (Option.map_eq_none_iff.mp h)).2
  have := mem_indexed_fillsOver (x := (j, e)).mpr he
  rw [hnil] at this
  cases this

/-- What the fill choice can be (R4): a FREE slot, an unpinned FILLED one, or slot 0. -/
theorem chooseFill_cases (n : BitVec 32) (table : List Slot) :
    (chooseFill n table ≠ 0 ∧ ∃ e, table[chooseFill n table]? = some e ∧ e.state = .free) ∨
    (∃ e, FillsOver table (chooseFill n table) e) ∨ chooseFill n table = 0 := by
  unfold chooseFill
  split
  · exact .inl (freeSlot_eq_some ‹_›).1
  · cases h : oldestFilled n table with
    | none => exact .inr (.inr rfl)
    | some i => obtain ⟨e, he, -⟩ := oldestFilled_eq_some h; exact .inr (.inl ⟨e, he⟩)

/-- Settles O27: the lowest FREE slot by the search for it, and otherwise the fold's greatest age. -/
theorem fillChoiceTakesFreeThenOldest : Obligations.FillChoiceTakesFreeThenOldest := by
  intro n table
  cases hf : freeSlot table with
  | some i =>
    have choice : chooseFill n table = i := by simp [chooseFill, hf]
    obtain ⟨hfree, hleast⟩ := freeSlot_eq_some hf
    simp only [choice]
    refine ⟨fun _ => ⟨hfree, fun j ⟨hj, e, he, hs⟩ => hleast j e hj he hs⟩, fun h => absurd ⟨i, hfree⟩ h,
      fun h => absurd ⟨i, hfree⟩ h⟩
  | none =>
    have choice : chooseFill n table = (oldestFilled n table).getD 0 := by simp [chooseFill, hf]
    simp only [choice]
    refine ⟨fun ⟨j, hj, e, he, hs⟩ => absurd hs (freeSlot_eq_none hf hj he), fun _ ⟨j, e, he⟩ => ?_, fun _ h => ?_⟩
    · cases ho : oldestFilled n table with
      | none => exact absurd he (oldestFilled_eq_none ho j e)
      | some i => exact oldestFilled_eq_some ho
    · cases ho : oldestFilled n table with
      | none => rfl
      | some i => obtain ⟨e, he, -⟩ := oldestFilled_eq_some ho; exact absurd ⟨i, e, he⟩ h

end Sys2Proof.Machine
end

section
/-!
SUPPORT. The rules of the slot table (R1 to R4, R7, R20), and the KEPT entries (R2), under each change of the table.
-/
namespace Sys2Proof.Machine

/-! ## One entry replaced -/

/-- An entry of slot `i` may become `e'` while the frame in progress stays (R1 to R4). -/
structure EntryAllowed (i : Nat) (e e' : Slot) : Prop where
  zero : i = 0 → e'.state = .free ∨ e'.state = .filling
  filling : e'.state = .filling ↔ e.state = .filling
  frame : e.state = .filling → e'.recordFrame = e.recordFrame
  unpinned : e'.state = .free ∨ e'.state = .filling → e'.pins = 0

/-- Every entry became an allowed one, and the rest that the rules read stayed. -/
theorem SlotsConsistent.of_entries {s t : State} (h : SlotsConsistent s)
    (length : t.slots.table.length = s.slots.table.length)
    (entries : ∀ (i : Nat) (e e' : Slot), s.slots.table[i]? = some e → t.slots.table[i]? = some e' → EntryAllowed i e e')
    (tracker : t.slots.tracker.inProgress = s.slots.tracker.inProgress) (mode : t.command.mode = s.command.mode)
    (valid : t.command.valid = s.command.valid) (config : t.command.config = s.command.config) : SlotsConsistent t := by
  have old : ∀ {i : Nat} {e' : Slot}, t.slots.table[i]? = some e' →
      ∃ e, s.slots.table[i]? = some e ∧ EntryAllowed i e e' := by
    intro i e' he
    have hlt : i < s.slots.table.length := length ▸ (List.getElem?_eq_some_iff.mp he).1
    exact ⟨_, List.getElem?_eq_getElem hlt, entries i _ _ (List.getElem?_eq_getElem hlt) he⟩
  refine ⟨?_, ?_, ?_, ?_, ?_, ?_, ?_⟩
  · intro e' he; obtain ⟨e, -, ha⟩ := old he; exact ha.zero rfl
  · intro i e' he; obtain ⟨e, hse, ha⟩ := old he
    rw [ha.filling, h.filling i e hse, tracker]
  · intro n i hp
    rw [tracker] at hp
    obtain ⟨e, he, hn⟩ := h.inTable n i hp
    have hlt : i < t.slots.table.length := length ▸ (List.getElem?_eq_some_iff.mp he).1
    refine ⟨_, List.getElem?_eq_getElem hlt, ?_⟩
    rw [(entries i e _ he (List.getElem?_eq_getElem hlt)).frame ((h.filling i e he).mpr ⟨n, hp⟩), hn]
  · intro e' he
    obtain ⟨i, hi⟩ := List.mem_iff_getElem?.mp he
    obtain ⟨e, -, ha⟩ := old hi
    exact ha.unpinned
  · rw [mode, tracker]; exact h.standby
  · rw [mode, valid]; exact h.viewValid
  · rw [valid, config, length]; exact h.tableSize

theorem SlotsConsistent.entryAllowed_of_row {s : State} (h : SlotsConsistent s) {i : Nat} {e e' : Slot}
    (he : s.slots.table[i]? = some e) (hrow : slotRow e' = slotRow e) : EntryAllowed i e e' := by
  simp only [slotRow, Prod.mk.injEq] at hrow
  obtain ⟨hstate, hpins, hframe⟩ := hrow
  refine ⟨?_, by rw [hstate], fun _ => hframe, ?_⟩
  · rintro rfl; rw [hstate]; exact h.slotZero e he
  · rw [hstate, hpins]; exact h.unpinned e (List.mem_of_getElem? he)

/-- What a step keeps: the rules of the slot table, a valid configuration, and each KEPT entry with its frame and its
data's place (R2, R18). -/
structure SlotSafe (s t : State) : Prop where
  consistent : SlotsConsistent s → SlotsConsistent t
  valid : s.command.valid = true → t.command.valid = true
  kept : SlotsConsistent s → s.command.valid = true → ∀ (i : Nat) (e : Slot), s.slots.table[i]? = some e →
    e.state = .kept → ∃ e', t.slots.table[i]? = some e' ∧ e'.state = .kept ∧ e'.recordFrame = e.recordFrame ∧
      t.command.config.poolBase = s.command.config.poolBase ∧ t.command.config.stride = s.command.config.stride

theorem SlotSafe.refl (s : State) : SlotSafe s s := ⟨id, id, fun _ _ _ e he hk => ⟨e, he, hk, rfl, rfl, rfl⟩⟩

theorem SlotSafe.trans {s t u : State} (h : SlotSafe s t) (k : SlotSafe t u) : SlotSafe s u := by
  refine ⟨k.consistent ∘ h.consistent, k.valid ∘ h.valid, fun hs hv i e he hk => ?_⟩
  obtain ⟨e', he', hk', hf', hp', hst'⟩ := h.kept hs hv i e he hk
  obtain ⟨e'', he'', hk'', hf'', hp'', hst''⟩ := k.kept (h.consistent hs) (h.valid hv) i e' he' hk'
  exact ⟨e'', he'', hk'', hf''.trans hf', hp''.trans hp', hst''.trans hst'⟩

theorem SlotQuiet.safe {s t : State} (q : SlotQuiet s t) : SlotSafe s t := by
  have row : ∀ i : Nat, (t.slots.table[i]?).map slotRow = (s.slots.table[i]?).map slotRow := fun i => by
    rw [← List.getElem?_map, ← List.getElem?_map, q.rows]
  have length : t.slots.table.length = s.slots.table.length := by simpa using congrArg List.length q.rows
  refine ⟨fun h => h.of_entries length (fun i e e' he he' => ?_) (by rw [q.tracker]) q.mode q.valid q.config,
    fun h => q.valid ▸ h, fun _ _ i e he hk => ?_⟩
  · have := row i
    rw [he, he'] at this
    exact h.entryAllowed_of_row he (Option.some.inj this)
  · have := row i
    rw [he] at this
    obtain ⟨e', he', hrow⟩ := Option.map_eq_some_iff.mp this
    simp only [slotRow, Prod.mk.injEq] at hrow
    exact ⟨e', he', hrow.1.trans hk, hrow.2.2, by rw [q.config], by rw [q.config]⟩

/-- Entry `i` became an allowed one. -/
theorem SlotsConsistent.of_updAt {s t : State} (h : SlotsConsistent s) {i : Nat} {f : Slot → Slot}
    (table : t.slots.table = updAt f s.slots.table i)
    (entry : ∀ e, s.slots.table[i]? = some e → EntryAllowed i e (f e))
    (tracker : t.slots.tracker = s.slots.tracker) (command : t.command = s.command) : SlotsConsistent t := by
  refine h.of_entries (by simp [table]) (fun j e e' he he' => ?_) (by rw [tracker]) (by rw [command]) (by rw [command])
    (by rw [command])
  rw [table] at he'
  by_cases hj : j = i
  · subst hj
    rw [getElem?_updAt_self, he] at he'
    cases he'
    exact entry e he
  · rw [getElem?_updAt_ne _ _ hj, he] at he'
    cases he'
    exact h.entryAllowed_of_row he rfl

/-- Entry `i` became an allowed one, and one that was KEPT stayed KEPT with its frame. -/
theorem SlotSafe.of_updAt {s t : State} {i : Nat} {f : Slot → Slot} (table : t.slots.table = updAt f s.slots.table i)
    (entry : SlotsConsistent s → ∀ e, s.slots.table[i]? = some e → EntryAllowed i e (f e) ∧
      (e.state = .kept → (f e).state = .kept ∧ (f e).recordFrame = e.recordFrame))
    (tracker : t.slots.tracker = s.slots.tracker) (command : t.command = s.command) : SlotSafe s t := by
  refine ⟨fun h => h.of_updAt table (fun e he => (entry h e he).1) tracker command, fun h => command ▸ h,
    fun h _ j e he hk => ?_⟩
  rw [table, command, getElem?_updAt]
  split
  · rename_i hj; subst hj
    obtain ⟨hk', hf'⟩ := (entry h e he).2 hk
    exact ⟨f e, by simp [he], hk', hf', rfl, rfl⟩
  · exact ⟨e, he, hk, rfl, rfl, rfl⟩

/-! ## The frame in progress -/

/-- With no frame in progress no slot is FILLING. -/
theorem SlotsConsistent.not_filling {s : State} (h : SlotsConsistent s) (hp : s.slots.tracker.inProgress = none) {i : Nat}
    {e : Slot} (he : s.slots.table[i]? = some e) : e.state ≠ .filling := by
  intro hf
  obtain ⟨n, hn⟩ := (h.filling i e he).mp hf
  rw [hp] at hn; cases hn

/-- The slot of the frame in progress, and no other, is FILLING. -/
theorem SlotsConsistent.filling_slot {s : State} (h : SlotsConsistent s) {n : BitVec 32} {i : Nat}
    (hp : s.slots.tracker.inProgress = some (n, i)) {j : Nat} {e : Slot} (he : s.slots.table[j]? = some e) :
    e.state = .filling ↔ j = i := by
  rw [h.filling j e he, hp]
  simp [eq_comm]

/-- The frame in progress ends: its entry becomes one that is not FILLING, as its slot allows (R12, R13). -/
theorem SlotSafe.of_frameEnd {s t : State} {n : BitVec 32} {i : Nat} {f : Slot → Slot}
    (hp : s.slots.tracker.inProgress = some (n, i)) (table : t.slots.table = updAt f s.slots.table i)
    (ended : ∀ e, (f e).state = .free ∨ (f e).state = .filled ∧ i ≠ 0) (pins : ∀ e, (f e).pins = e.pins)
    (tracker : t.slots.tracker.inProgress = none) (command : t.command = s.command) : SlotSafe s t := by
  refine ⟨fun h => ?_, fun h => command ▸ h, fun h _ j e he hk => ?_⟩
  · have entry : ∀ {j : Nat} {e' : Slot}, t.slots.table[j]? = some e' →
        ∃ e, s.slots.table[j]? = some e ∧ ((j = i ∧ e' = f e) ∨ (j ≠ i ∧ e' = e)) := by
      intro j e' he
      rw [table, getElem?_updAt] at he
      split at he
      · obtain ⟨e, hse, rfl⟩ := Option.map_eq_some_iff.mp he
        exact ⟨e, hse, .inl ⟨‹_›, rfl⟩⟩
      · exact ⟨e', he, .inr ⟨‹_›, rfl⟩⟩
    have quiet : ∀ {j : Nat} {e' : Slot}, t.slots.table[j]? = some e' → e'.state ≠ .filling := by
      intro j e' he
      obtain ⟨e, hse, ⟨-, rfl⟩ | ⟨hj, rfl⟩⟩ := entry he
      · rcases ended e with hs | ⟨hs, -⟩ <;> simp [hs]
      · exact fun hf => hj ((h.filling_slot hp hse).mp hf)
    refine ⟨?_, ?_, ?_, ?_, ?_, ?_, ?_⟩
    · intro e' he
      obtain ⟨e, hse, ⟨hj, rfl⟩ | ⟨-, rfl⟩⟩ := entry he
      · exact .inl ((ended e).resolve_right fun hr => hr.2 hj.symm)
      · exact h.slotZero _ hse
    · intro j e' he
      simp [quiet he, tracker]
    · intro m j hm; rw [tracker] at hm; cases hm
    · intro e' hmem hs
      obtain ⟨j, hj⟩ := List.mem_iff_getElem?.mp hmem
      obtain ⟨e, hse, ⟨hji, rfl⟩ | ⟨-, rfl⟩⟩ := entry hj
      · rw [pins]
        exact h.unpinned e (List.mem_of_getElem? hse) (.inr ((h.filling_slot hp hse).mpr hji))
      · exact h.unpinned _ (List.mem_of_getElem? hse) hs
    · intro _; exact tracker
    · rw [command]; exact h.viewValid
    · rw [command, table, updAt_length]; exact h.tableSize
  · have hj : j ≠ i := fun hji => by
      have := (h.filling_slot hp he).mpr hji
      rw [hk] at this; cases this
    exact ⟨e, by rw [table, getElem?_updAt_ne _ _ hj, he], hk, rfl, by rw [command], by rw [command]⟩

/-- A frame starts in the slot of the fill choice (R8). -/
theorem SlotSafe.of_frameStart {s t : State} {n : BitVec 32} {f : Slot → Slot}
    (hp : s.slots.tracker.inProgress = none) (hmode : s.command.mode = .view)
    (table : t.slots.table = updAt f s.slots.table (chooseFill n s.slots.table))
    (state : ∀ e, (f e).state = .filling) (frame : ∀ e, (f e).recordFrame = n) (pins : ∀ e, (f e).pins = e.pins)
    (tracker : t.slots.tracker.inProgress = some (n, chooseFill n s.slots.table)) (command : t.command = s.command) :
    SlotSafe s t := by
  generalize hi : chooseFill n s.slots.table = i at table tracker
  have chosen : SlotsConsistent s → ∃ e, s.slots.table[i]? = some e ∧ e.pins = 0 ∧ e.state ≠ .kept := by
    intro h
    rcases chooseFill_cases n s.slots.table with ⟨-, e, he, hs⟩ | ⟨e, -, he, hs, hpins⟩ | h0
    · exact ⟨e, hi ▸ he, h.unpinned e (List.mem_of_getElem? he) (.inl hs), by simp [hs]⟩
    · exact ⟨e, hi ▸ he, hpins, by simp [hs]⟩
    · have hlen := h.tableSize (h.viewValid hmode)
      have hlt : 0 < s.slots.table.length := by omega
      have he := List.getElem?_eq_getElem hlt
      have hz := h.slotZero _ he
      refine ⟨_, by rw [← hi, h0]; exact he, h.unpinned _ (List.mem_of_getElem? he) hz, ?_⟩
      rcases hz with hz | hz <;> simp [hz]
  refine ⟨fun h => ?_, fun h => command ▸ h, fun h _ j e he hk => ?_⟩
  · obtain ⟨c, hc, hcp, -⟩ := chosen h
    have hti : t.slots.table[i]? = some (f c) := by rw [table, getElem?_updAt_self, hc]; rfl
    have other : ∀ {j : Nat}, j ≠ i → t.slots.table[j]? = s.slots.table[j]? := fun hj => by
      rw [table, getElem?_updAt_ne _ _ hj]
    refine ⟨?_, ?_, ?_, ?_, ?_, ?_, ?_⟩
    · intro e he
      by_cases h0 : 0 = i
      · subst h0; rw [hti] at he; cases he; exact .inr (state c)
      · rw [other h0] at he; exact h.slotZero e he
    · intro j e he
      rw [tracker]
      by_cases hj : j = i
      · subst hj; rw [hti] at he; cases he; simp [state]
      · rw [other hj] at he
        simp [h.not_filling hp he, Ne.symm hj]
    · intro m j hm
      rw [tracker] at hm; cases hm
      exact ⟨f c, hti, frame c⟩
    · intro e hmem hs
      obtain ⟨j, he⟩ := List.mem_iff_getElem?.mp hmem
      by_cases hj : j = i
      · subst hj; rw [hti] at he; cases he; rw [pins, hcp]
      · rw [other hj] at he; exact h.unpinned e (List.mem_of_getElem? he) hs
    · rw [command, hmode]; intro hm; cases hm
    · rw [command]; exact h.viewValid
    · rw [command, table, updAt_length]; exact h.tableSize
  · obtain ⟨c, hc, -, hck⟩ := chosen h
    have hj : j ≠ i := fun hji => by
      rw [hji, hc] at he; cases he; exact hck hk
    exact ⟨e, by rw [table, getElem?_updAt_ne _ _ hj, he], hk, rfl, by rw [command], by rw [command]⟩

end Sys2Proof.Machine
end

section
/-!
SUPPORT. The operations that act on the slots keep the rules of the slot table: capture writes, pins, the requests of the
Capture Unit, CONFIGURE FRAME, SET MODE and SOFT RESET.
-/
namespace Sys2Proof.Machine
variable (s : State)

/-! ## What the frame operations do to the Slot Manager -/

theorem startFrame_slots (now : Nat) : (startFrame now s).slots =
    { s.slots with
      table := updAt (fillingEntry (s.slots.seq + 1) (lensSample s) (appliedSet s (s.slots.seq + 1))) s.slots.table
        (chooseFill (s.slots.seq + 1) s.slots.table),
      seq := s.slots.seq + 1,
      tracker := { inProgress := some (s.slots.seq + 1, chooseFill (s.slots.seq + 1) s.slots.table), expected := 0,
                   stored := 0, torn := false } } := by
  simp [startFrame]

theorem completeFrame_slots (n : BitVec 32) (i : Nat) : (completeFrame n i s).slots =
    { s.slots with table := updAt (completedEntry (announcementOf n i s) s.slots.tracker.stored) s.slots.table i,
                   tracker := { s.slots.tracker with inProgress := none } } := by
  simp [completeFrame]

theorem abandonFrame_of_none {s : State} (h : s.slots.tracker.inProgress = none) : abandonFrame s = s := by
  simp [abandonFrame, h]

/-- An entry that an abandoned frame leaves FREE with a cleared record (R12). -/
def abandonedEntry (e : Slot) : Slot := { e with state := .free, recordFrame := 0, lastFrame := 0, record := .reset }

theorem abandonFrame_slots {s : State} {n : BitVec 32} {i : Nat} (h : s.slots.tracker.inProgress = some (n, i)) :
    (abandonFrame s).slots =
      { s.slots with table := updAt abandonedEntry s.slots.table i,
                     tracker := { s.slots.tracker with inProgress := none } } := by
  simp only [abandonFrame, h]; rfl

@[simp] theorem abandonFrame_inProgress : (abandonFrame s).slots.tracker.inProgress = none := by
  cases h : s.slots.tracker.inProgress with
  | none => rw [abandonFrame_of_none h, h]
  | some x => rw [abandonFrame_slots (n := x.1) (i := x.2) h]

@[simp] theorem abandonFrame_seq : (abandonFrame s).slots.seq = s.slots.seq := by
  cases h : s.slots.tracker.inProgress with
  | none => rw [abandonFrame_of_none h]
  | some x => rw [abandonFrame_slots (n := x.1) (i := x.2) h]

@[simp] theorem tearFrame_slots (a : Nat) :
    (tearFrame a s).slots = { s.slots with tracker := { s.slots.tracker with torn := true } } := by simp [tearFrame]

@[simp] theorem storeWords_slots (i o : Nat) (d : List LinkWord) : (storeWords i o d s).slots =
    { s.slots with tracker := { s.slots.tracker with
        expected := o + 16 * d.length, stored := addStored s.slots.tracker.stored (16 * d.length) } } := by
  simp [storeWords]

/-! ## Frames (R8, R12, R13) -/

theorem abandonFrame_safe : SlotSafe s (abandonFrame s) := by
  cases h : s.slots.tracker.inProgress with
  | none => rw [abandonFrame_of_none h]; exact .refl s
  | some x =>
    have slots := abandonFrame_slots (n := x.1) (i := x.2) h
    exact .of_frameEnd (n := x.1) (i := x.2) (f := abandonedEntry) h (by simp [slots]) (fun _ => .inl rfl) (fun _ => rfl)
      (by simp [slots]) (by simp)

theorem startFrame_safe (now : Nat) (hp : s.slots.tracker.inProgress = none) (hmode : s.command.mode = .view) :
    SlotSafe s (startFrame now s) :=
  .of_frameStart (n := s.slots.seq + 1) (f := fillingEntry (s.slots.seq + 1) (lensSample s) (appliedSet s (s.slots.seq + 1))) hp hmode
    (by simp [startFrame_slots]) (fun _ => rfl) (fun _ => rfl) (fun _ => rfl) (by simp [startFrame_slots]) (by simp)

theorem completeFrame_safe {n : BitVec 32} {i : Nat} (h : s.slots.tracker.inProgress = some (n, i)) :
    SlotSafe s (completeFrame n i s) := by
  have slots := completeFrame_slots s n i
  refine .of_frameEnd (f := completedEntry (announcementOf n i s) s.slots.tracker.stored) h (by simp [slots])
    (fun e => ?_) (fun _ => rfl) (by simp [slots]) (by simp)
  by_cases hi : i = 0
  · exact .inl (by simp [completedEntry, announcementOf, hi])
  · exact .inr ⟨by simp [completedEntry, announcementOf, hi], hi⟩

/-- The rules do not read the tracker but for the frame in progress. -/
theorem SlotSafe.of_same_frame {s t : State} (table : t.slots.table = s.slots.table)
    (progress : t.slots.tracker.inProgress = s.slots.tracker.inProgress) (command : t.command = s.command) :
    SlotSafe s t := by
  refine ⟨fun h => h.of_entries (by rw [table]) (fun i e e' he he' => ?_) progress (by rw [command]) (by rw [command])
    (by rw [command]), fun h => command ▸ h, fun _ _ i e he hk => ?_⟩
  · rw [table, he] at he'; cases he'; exact h.entryAllowed_of_row he rfl
  · rw [table, command]; exact ⟨e, he, hk, rfl, rfl, rfl⟩

theorem writeInFrame_safe {n : BitVec 32} {i : Nat} (a o : Nat) (d : List LinkWord)
    (h : s.slots.tracker.inProgress = some (n, i)) : SlotSafe s (writeInFrame n i a o d s) := by
  simp only [writeInFrame]
  generalize d.take ((frameSize s - o) / 16) = kept
  generalize hu : (if o = s.slots.tracker.expected then s else tearFrame a s) = u
  generalize hv : (if kept.length < d.length then raiseFault .captureOverrun a (storeWords i o kept u)
    else storeWords i o kept u) = v
  have torn : u.slots.table = s.slots.table ∧ u.slots.tracker.inProgress = s.slots.tracker.inProgress ∧
      u.command = s.command := by subst hu; split <;> simp
  obtain ⟨table, progress, command⟩ : v.slots.table = s.slots.table ∧
      v.slots.tracker.inProgress = s.slots.tracker.inProgress ∧ v.command = s.command := by
    subst hv; split <;> simp [torn]
  have stored : SlotSafe s v := .of_same_frame table progress command
  split
  · exact stored.trans (completeFrame_safe v (progress.trans h))
  · exact stored

theorem noteImages_safe (b : State) : SlotSafe s (noteImages b s) := .of_same_frame (by simp) (by simp) (by simp)

/-- A write at offset 0 starts a frame, a frame in progress being abandoned first (R8, R12). -/
def frameStarted (now addr : Nat) (s : State) : State :=
  match s.slots.tracker.inProgress with
  | some _ => startFrame now (raiseFault .captureRestart addr (noteImages s (abandonFrame s)))
  | none => startFrame now s

/-- A write that lies below the frame size goes to the frame in progress, or is out of order without one (R9, R10). -/
def writeToFrame (addr off : Nat) (data : List LinkWord) (s : State) : State :=
  match s.slots.tracker.inProgress with
  | some (n, i) => writeInFrame n i addr off data s
  | none => raiseFault .captureOutOfOrder addr s

theorem writeToFrame_of_some {s : State} {n : BitVec 32} {i : Nat} (h : s.slots.tracker.inProgress = some (n, i))
    (a o : Nat) (d : List LinkWord) : writeToFrame a o d s = writeInFrame n i a o d s := by simp [writeToFrame, h]

theorem writeToFrame_of_none {s : State} (h : s.slots.tracker.inProgress = none) (a o : Nat) (d : List LinkWord) :
    writeToFrame a o d s = raiseFault .captureOutOfOrder a s := by simp [writeToFrame, h]

/-- A capture write by its branches: beyond the frame size, or to a frame, which offset 0 starts (R8 to R12). -/
theorem captureWrite_eq (now a o : Nat) (d : List LinkWord) : captureWrite now a o d s =
    if frameSize s ≤ o then raiseFault .captureOverrun a s
    else writeToFrame a o d (if o = 0 then frameStarted now a s else s) := rfl

theorem frameStarted_safe (now a : Nat) (hmode : s.command.mode = .view) : SlotSafe s (frameStarted now a s) := by
  unfold frameStarted
  split
  · have freed : SlotSafe s (raiseFault .captureRestart a (noteImages s (abandonFrame s))) :=
      ((abandonFrame_safe s).trans (noteImages_safe (abandonFrame s) s)).trans
        (.of_same_frame (by simp) (by simp) (by simp))
    exact freed.trans (startFrame_safe _ now (by simp) (by simpa using hmode))
  · exact startFrame_safe s now ‹_› hmode

theorem captureWrite_safe (now a o : Nat) (d : List LinkWord) (hmode : s.command.mode = .view) :
    SlotSafe s (captureWrite now a o d s) := by
  have fault : ∀ (c : FaultCause) (u : State), SlotSafe u (raiseFault c a u) := fun c u =>
    .of_same_frame (by simp) (by simp) (by simp)
  have written : ∀ u : State, SlotSafe u (writeToFrame a o d u) := fun u => by
    cases h : u.slots.tracker.inProgress with
    | none => rw [writeToFrame_of_none h]; exact fault _ u
    | some x => rw [writeToFrame_of_some (n := x.1) (i := x.2) h]; exact writeInFrame_safe u a o d h
  rw [captureWrite_eq]
  split
  · exact fault _ s
  · refine .trans ?_ (written _)
    split
    · exact frameStarted_safe s now a hmode
    · exact .refl s

theorem writePiece_safe (now : Nat) (p : Piece) : SlotSafe s (writePiece now s p) := by
  simp only [writePiece, capturePieceWrite]
  split
  · exact (plainWrite_quiet s p).safe
  · split
    · exact captureWrite_safe s _ _ _ _ ‹_›
    · exact .of_same_frame (by simp) (by simp) (by simp)
  · exact .of_same_frame (by simp) (by simp) (by simp)

/-! ## Pins (R3) -/

/-- A slot that can be shown holds an entry that is FILLED, HELD or KEPT. -/
theorem showable_iff {s : State} {i : Nat} : showable s i = true ↔
    i ≠ 0 ∧ ∃ e, s.slots.table[i]? = some e ∧ (e.state = .filled ∨ e.state = .held ∨ e.state = .kept) := by
  have state : (match (slotAt s i).state with | .filled | .held | .kept => true | _ => false) = true ↔
      ((slotAt s i).state = .filled ∨ (slotAt s i).state = .held ∨ (slotAt s i).state = .kept) := by
    cases (slotAt s i).state <;> simp
  simp only [showable, Bool.and_eq_true, bne_iff_ne, decide_eq_true_eq]
  constructor
  · rintro ⟨⟨h0, hlt⟩, hs⟩
    refine ⟨h0, _, List.getElem?_eq_getElem hlt, ?_⟩
    have : slotAt s i = s.slots.table[i] := by simp [slotAt, getAt_eq, List.getElem?_eq_getElem hlt]
    rw [← this]
    revert hs
    cases (slotAt s i).state <;> simp
  · rintro ⟨h0, e, he, hs⟩
    refine ⟨⟨h0, (List.getElem?_eq_some_iff.mp he).1⟩, ?_⟩
    have : slotAt s i = e := by simp [slotAt, getAt_eq, he]
    rw [this]
    rcases hs with hs | hs | hs <;> simp [hs]

theorem unpinSlot_safe (n : Nat) : SlotSafe s (unpinSlot n s) := by
  refine .of_updAt (i := n) (f := fun e => { e with pins := e.pins - 1 }) (by simp [unpinSlot])
    (fun h e he => ⟨⟨?_, Iff.rfl, fun _ => rfl, fun hs => ?_⟩, fun hk => ⟨hk, rfl⟩⟩) (by simp [unpinSlot]) (by simp)
  · rintro rfl; exact h.slotZero e he
  · simp [h.unpinned e (List.mem_of_getElem? he) hs]

theorem pinSlot_safe {n : Nat} {t : State} (ht : pinSlot n s = some t) : SlotSafe s t := by
  obtain ⟨hshow, rfl⟩ := pinSlot_some s ht
  obtain ⟨h0, x, hx, hstate⟩ := showable_iff.mp hshow
  refine .of_updAt (i := n) (f := fun e => { e with pins := e.pins + 1 }) (by simp)
    (fun h e he => ⟨⟨fun hn => absurd hn h0, Iff.rfl, fun _ => rfl, fun hs => ?_⟩, fun hk => ⟨hk, rfl⟩⟩) (by simp) (by simp)
  rw [hx] at he; cases he
  rcases hstate with h1 | h1 | h1 <;> simp [h1] at hs

theorem popPin_safe : SlotSafe s (popPin s) := .of_same_frame (by simp) (by simp) (by simp)

theorem takePinMessage_safe (m : PinMessage) : SlotSafe s (takePinMessage m s) := by
  have quiet : ∀ {u t : State}, SlotQuiet u t → SlotSafe u t := SlotQuiet.safe
  cases m with
  | unpin n => exact unpinSlot_safe s n
  | reviewPin n =>
    simp only [takePinMessage]; split
    · cases ha : pinSlot n s with
      | none => exact quiet (by simp [reviewAnswered, slotQuiet_iff])
      | some u => exact (pinSlot_safe s ha).trans (quiet (by simp [reviewAnswered, slotQuiet_iff]))
    · exact .refl s

theorem flushPins_safe (fuel : Nat) : SlotSafe s (flushPins fuel s) := by
  induction fuel generalizing s with
  | zero => exact .refl s
  | succ fuel ih =>
    simp only [flushPins]; split
    · exact .refl s
    · exact (((popPin_safe s).trans (takePinMessage_safe _ _)).trans (noteImages_safe _ s)).trans (ih _)

theorem openChain_safe (a : Nat) : SlotSafe s (openChain a s) := by
  have blank : SlotSafe s (openBlank a s) := .of_same_frame (by simp) (by simp) (by simp)
  simp only [openChain]; split
  · split
    · exact (pinSlot_safe s ‹_›).trans (.of_same_frame (by simp) (by simp) (by simp))
    · exact blank
  · exact blank

theorem passForRead_safe (a o : Nat) : SlotSafe s (passForRead a o s) := by
  simp only [passForRead]; split
  · exact (flushPins_safe s _).trans (openChain_safe _ a)
  · split
    · have closed : SlotSafe s (noteStatus s (closePass s)) := .of_same_frame (by simp) (by simp) (by simp)
      exact (closed.trans (flushPins_safe _ _)).trans (openChain_safe _ a)
    · exact .refl s

theorem viewRead_safe (t o : Nat) (p : Piece) : SlotSafe s (viewRead t o p s) := by
  have fault : ∀ (c : FaultCause) (u : State), SlotSafe u (raiseFault c p.addr u) := fun c u =>
    .of_same_frame (by simp) (by simp) (by simp)
  simp only [viewRead]; split
  · exact fault _ s
  · split
    · exact fault _ s
    · generalize hu : (if (viewGeometry s).size < o + 16 * p.words then raiseFault .viewBeyond p.addr s else s) = u
      have first : SlotSafe s u := by
        subst hu; split
        · exact fault _ s
        · exact .refl s
      exact (first.trans (passForRead_safe u p.addr o)).trans (.of_same_frame (by simp) (by simp) (by simp))

theorem readPiece_safe (t : Nat) (p : Piece) : SlotSafe s (readPiece t s p) := by
  have quiet : ∀ {u : State}, u.slots = s.slots → u.command = s.command → SlotSafe s u := fun hs hc =>
    .of_same_frame (by rw [hs]) (by rw [hs]) hc
  simp only [readPiece, viewPieceRead]; split
  · exact quiet (by simp) (by simp)
  · exact quiet (by simp) (by simp)
  · split
    · exact viewRead_safe s _ _ _
    · exact quiet (by simp) (by simp)

/-! ## A request that is taken (R142) -/

theorem foldl_safe {f : State → Piece → State} (h : ∀ s p, SlotSafe s (f s p)) (l : List Piece) :
    SlotSafe s (l.foldl f s) := by
  induction l generalizing s with
  | nil => exact .refl s
  | cons p l ih => exact (h s p).trans (ih (f s p))

theorem takeRequest_safe (now : Nat) (r : HostRequest) : SlotSafe s (takeRequest now r s) := by
  cases r with
  | write a d =>
    have start : SlotSafe s (popArrival s) := .of_same_frame (by simp) (by simp) (by simp)
    exact start.trans (foldl_safe _ (fun s p => writePiece_safe s now p) _)
  | read tag a n =>
    have start : SlotSafe s ((popArrival s).onLink (fun l => { l with readMap := l.readMap ++ [readEntry tag.toNat n] })) :=
      .of_same_frame (by simp) (by simp) (by simp)
    have pieces := foldl_safe ((popArrival s).onLink (fun l => { l with readMap := l.readMap ++ [readEntry tag.toNat n] }))
      (fun s p => readPiece_safe s tag.toNat p) (requestPieces s (.read tag a n))
    exact (start.trans pieces).trans (.of_same_frame (by simp [takeRequest]) (by simp [takeRequest]) (by simp [takeRequest]))

end Sys2Proof.Machine
end

section
/-!
SUPPORT. The requests of the Capture Unit, CONFIGURE FRAME, SET MODE and SOFT RESET keep the rules of the slot table, and so
does every command.
-/
namespace Sys2Proof.Machine
variable (s : State)

/-! ## Requests of the Capture Unit (R5, R6) -/

theorem slotAt_of_getElem? {s : State} {i : Nat} {e : Slot} (h : s.slots.table[i]? = some e) : slotAt s i = e := by
  simp [slotAt, getAt_eq, h]

/-- The request names an entry of the table other than slot 0, with the entry's record frame (R5). -/
theorem requestMatches_iff {s : State} {r : SlotRequest} : requestMatches s r = true ↔
    r.slot ≠ 0 ∧ ∃ e, s.slots.table[r.slot]? = some e ∧ e.recordFrame = r.frame := by
  simp only [requestMatches, Bool.and_eq_true, bne_iff_ne, decide_eq_true_eq, beq_iff_eq]
  constructor
  · rintro ⟨⟨h0, hlt⟩, hframe⟩
    have he := List.getElem?_eq_getElem hlt
    exact ⟨h0, _, he, by rw [← slotAt_of_getElem? he]; exact hframe⟩
  · rintro ⟨h0, e, he, hframe⟩
    exact ⟨⟨h0, (List.getElem?_eq_some_iff.mp he).1⟩, by rw [slotAt_of_getElem? he]; exact hframe⟩

@[simp] theorem answerRequest_slots (a : SlotAnswer) :
    (answerRequest a s).slots = { s.slots with captureRequest := none, captureAnswer := some a } := by
  simp [answerRequest]

@[simp] theorem carryOut_slots (r : SlotRequest) (f : Slot → Slot) : (carryOut r f s).slots =
    { s.slots with table := updAt f s.slots.table r.slot, captureRequest := none, captureAnswer := some .done } := by
  simp [carryOut]

theorem answerRequest_safe (a : SlotAnswer) : SlotSafe s (answerRequest a s) := .of_same_frame (by simp) (by simp) (by simp)

/-- A request carried out on a finished frame that another state replaces. -/
theorem carryOut_consistent {r : SlotRequest} {f : Slot → Slot} (h : SlotsConsistent s) (hm : requestMatches s r = true)
    (hold : (slotAt s r.slot).state ≠ .filling)
    (hnew : ∀ e, slotAt s r.slot = e → (f e).state ≠ .filling ∧ ((f e).state = .free → (f e).pins = 0)) :
    SlotsConsistent (carryOut r f s) := by
  obtain ⟨h0, -⟩ := requestMatches_iff.mp hm
  refine h.of_updAt (i := r.slot) (f := f) (by simp) (fun e he => ?_) (by simp) (by simp)
  rw [slotAt_of_getElem? he] at hold
  obtain ⟨hf, hp⟩ := hnew e (slotAt_of_getElem? he)
  exact ⟨fun hz => absurd hz h0, by simp [hf, hold], fun he => absurd he hold,
    fun hs => hp (hs.resolve_right hf)⟩

/-- A request carried out on a FILLED or HELD frame, which stays one of the frames that can be shown, is safe. -/
theorem carryOut_safe {r : SlotRequest} {f : Slot → Slot} (hm : requestMatches s r = true)
    (hold : (slotAt s r.slot).state = .filled ∨ (slotAt s r.slot).state = .held)
    (hnew : ∀ e, (f e).state ≠ .filling ∧ (f e).state ≠ .free) : SlotSafe s (carryOut r f s) := by
  have quiet : (slotAt s r.slot).state ≠ .filling ∧ (slotAt s r.slot).state ≠ .kept := by
    rcases hold with h | h <;> simp [h]
  refine ⟨fun h => carryOut_consistent s h hm quiet.1 fun e _ => ⟨(hnew e).1, fun he => absurd he (hnew e).2⟩,
    by simp, fun h _ j e he hk => ?_⟩
  have hj : j ≠ r.slot := fun hj => by
    subst hj; rw [slotAt_of_getElem? he] at quiet; exact quiet.2 hk
  exact ⟨e, by simp [getElem?_updAt_ne _ _ hj, he], hk, rfl, by simp, by simp⟩

theorem holdSlot_safe (r : SlotRequest) : SlotSafe s (holdSlot r s) := by
  simp only [holdSlot]; split
  · rename_i h
    simp only [Bool.and_eq_true, beq_iff_eq] at h
    exact carryOut_safe s h.1 (.inl h.2) (fun e => by simp)
  · exact answerRequest_safe s _

theorem unholdSlot_safe (r : SlotRequest) : SlotSafe s (unholdSlot r s) := by
  simp only [unholdSlot]; split
  · rename_i h
    simp only [Bool.and_eq_true, beq_iff_eq] at h
    exact carryOut_safe s h.1 (.inr h.2) (fun e => by simp)
  · exact answerRequest_safe s _

theorem keepSlot_safe (r : SlotRequest) : SlotSafe s (keepSlot r s) := by
  simp only [keepSlot]; split
  · rename_i h
    simp only [Bool.and_eq_true, Bool.or_eq_true, beq_iff_eq] at h
    exact carryOut_safe s h.1 h.2 (fun e => by simp [keptEntry])
  · exact answerRequest_safe s _

theorem releaseSlot_consistent (r : SlotRequest) (h : SlotsConsistent s) : SlotsConsistent (releaseSlot r s) := by
  simp only [releaseSlot]; split
  · rename_i hm
    simp only [Bool.and_eq_true, beq_iff_eq] at hm
    split
    · rename_i hpins
      refine carryOut_consistent s h hm.1 (by simp [hm.2]) fun e he => ⟨by simp [freedEntry], fun _ => ?_⟩
      rw [he] at hpins; exact hpins
    · exact (answerRequest_safe s _).consistent h
  · exact (answerRequest_safe s _).consistent h

/-! ## CONFIGURE FRAME (R18, R155, R156) -/

theorem configLegal_slotCount {region : Nat} {c : FrameConfig} (h : configLegal region c = true) : 4 ≤ c.slotCount := by
  simp only [configLegal, Bool.and_eq_true, decide_eq_true_eq] at h
  simp only [and_assoc] at h
  obtain ⟨-, -, -, -, -, -, h4, -⟩ := h
  exact h4

theorem countSlots_pos {s : State} {st : SlotState} {e : Slot} (h : e ∈ s.slots.table) (hst : e.state = st) :
    0 < countSlots s st := by
  rw [countSlots, List.length_pos_iff_exists_mem]
  exact ⟨e, List.mem_filter.mpr ⟨h, by simpa using hst⟩⟩

/-- The slots and the configuration after a CONFIGURE FRAME that passes (R18, R156). -/
theorem configure_slots (c : FrameConfig) :
    (configure c s).slots.table = (if layoutChanges s.command c then List.replicate c.slotCount Slot.reset
      else s.slots.table) ∧
    (configure c s).slots.tracker = s.slots.tracker ∧ (configure c s).slots.seq = s.slots.seq ∧
    (configure c s).command.mode = s.command.mode ∧ (configure c s).command.valid = true ∧
    (configure c s).command.config = c := by
  simp only [configure]
  (repeat' split) <;> simp_all [applyLayout, rebuildTable]

theorem configure_safe {c : FrameConfig} (hstandby : s.command.mode = .standby) (hcount : 4 ≤ c.slotCount)
    (hkept : ¬ (s.command.valid && layoutChanges s.command c && decide (0 < countSlots s .kept)) = true) :
    SlotSafe s (configure c s) := by
  obtain ⟨table, tracker, -, mode, valid, config⟩ := configure_slots s c
  have same : layoutChanges s.command c = false → s.command.valid = true ∧
      layoutOf s.command.config = layoutOf c := by
    intro hl; simpa [layoutChanges] using hl
  refine ⟨fun h => ?_, fun _ => valid, fun h hv i e he hk => ?_⟩
  · have idle := h.standby hstandby
    cases hl : layoutChanges s.command c with
    | true =>
      simp only [hl, if_true] at table
      have entry : ∀ e ∈ (configure c s).slots.table, e = Slot.reset := fun e he => by
        rw [table] at he; exact List.eq_of_mem_replicate he
      refine ⟨fun e he => ?_, fun i e he => ?_, fun n i hn => ?_, fun e he _ => ?_, fun _ => ?_, fun hm => ?_, fun _ => ?_⟩
      · rw [entry e (List.mem_of_getElem? he)]; exact .inl rfl
      · rw [entry e (List.mem_of_getElem? he), tracker, idle]; simp [Slot.reset]
      · rw [tracker, idle] at hn; cases hn
      · rw [entry e he]; rfl
      · rw [tracker, idle]
      · rw [mode, hstandby] at hm; cases hm
      · rw [table, config, List.length_replicate]; exact ⟨rfl, hcount⟩
    | false =>
      obtain ⟨hv, hlay⟩ := same hl
      simp only [layoutOf, Prod.mk.injEq] at hlay
      have hsize := h.tableSize hv
      simp only [hl, Bool.false_eq_true, if_false] at table
      refine ⟨?_, ?_, ?_, ?_, ?_, ?_, ?_⟩
      · rw [table]; exact h.slotZero
      · rw [table, tracker]; exact h.filling
      · rw [table, tracker]; exact h.inTable
      · rw [table]; exact h.unpinned
      · rw [tracker]; exact fun _ => idle
      · rw [mode, hstandby]; intro hm; cases hm
      · rw [table, config]; exact fun _ => ⟨hsize.1.trans hlay.2.2.1, hcount⟩
  · cases hl : layoutChanges s.command c with
    | true =>
      exact absurd (by simp [hv, hl, countSlots_pos (List.mem_of_getElem? he) hk]) hkept
    | false =>
      obtain ⟨-, hlay⟩ := same hl
      simp only [layoutOf, Prod.mk.injEq] at hlay
      simp only [hl, Bool.false_eq_true, if_false] at table
      rw [table, config]
      exact ⟨e, he, hk, rfl, hlay.1.symm, hlay.2.1.symm⟩

theorem refuse_quiet (st : Status) : SlotQuiet s (refuse st s) := by simp [slotQuiet_iff]
theorem completeDone_quiet : SlotQuiet s (completeDone s) := by simp [slotQuiet_iff]

theorem configureFrameWork_safe (c : FrameConfig) : SlotSafe s (configureFrameWork c s) := by
  simp only [configureFrameWork]
  split
  · exact (refuse_quiet s _).safe
  · rename_i hmode
    have hstandby : s.command.mode = .standby := by cases h : s.command.mode <;> simp_all
    split
    · exact (refuse_quiet s _).safe
    · rename_i hlegal
      split
      · exact (refuse_quiet s _).safe
      · rename_i hkept
        have hcount := configLegal_slotCount (by simpa using hlegal)
        exact (configure_safe s hstandby hcount hkept).trans (completeDone_quiet _).safe

/-! ## SET MODE and SOFT RESET (R12, R19, R20, R157, R158) -/

/-- The mode changes to one that the rules allow: to VIEW with a valid configuration, to STANDBY without a frame. -/
theorem SlotSafe.of_mode {s t : State} (table : t.slots.table = s.slots.table)
    (progress : t.slots.tracker.inProgress = s.slots.tracker.inProgress) (valid : t.command.valid = s.command.valid)
    (config : t.command.config = s.command.config) (view : t.command.mode = .view → s.command.valid = true)
    (standby : t.command.mode = .standby → s.slots.tracker.inProgress = none) : SlotSafe s t := by
  refine ⟨fun h => ⟨?_, ?_, ?_, ?_, ?_, ?_, ?_⟩, fun h => valid ▸ h, fun _ _ i e he hk => ?_⟩
  · rw [table]; exact h.slotZero
  · rw [table, progress]; exact h.filling
  · rw [table, progress]; exact h.inTable
  · rw [table]; exact h.unpinned
  · rw [progress]; exact standby
  · rw [valid]; exact view
  · rw [table, valid, config]; exact h.tableSize
  · rw [table, config]; exact ⟨e, he, hk, rfl, rfl, rfl⟩

theorem setModeViewWork_safe : SlotSafe s (setModeViewWork s) := by
  simp only [setModeViewWork]
  split
  · exact (completeDone_quiet s).safe
  · split
    · rename_i hready
      simp only [viewReady, Bool.and_eq_true] at hready
      exact .trans (.of_mode (by simp) (by simp) (by simp [enterView]) (by simp [enterView]) (fun _ => hready.1.1.1)
        (by simp [enterView])) (completeDone_quiet _).safe
    · exact (refuse_quiet s _).safe

/-- The abandonment does not read the Command Unit. -/
theorem abandonFrame_onCommand_slots (f : CommandUnit → CommandUnit) :
    (abandonFrame (s.onCommand f)).slots = (abandonFrame s).slots := by
  cases h : s.slots.tracker.inProgress with
  | none => rw [abandonFrame_of_none h, abandonFrame_of_none (s := s.onCommand f) h]; rfl
  | some x => rw [abandonFrame_slots (n := x.1) (i := x.2) h, abandonFrame_slots (s := s.onCommand f) h]; rfl

/-- The frame in progress is abandoned as the mode becomes STANDBY (R12, R20). -/
theorem abandonFrame_standby_safe {f : CommandUnit → CommandUnit} (mode : (f s.command).mode = .standby)
    (valid : (f s.command).valid = s.command.valid) (config : (f s.command).config = s.command.config) :
    SlotSafe s (abandonFrame (s.onCommand f)) :=
  (abandonFrame_safe s).trans
    (.of_mode (by rw [abandonFrame_onCommand_slots]) (by rw [abandonFrame_onCommand_slots]) (by simp [valid])
      (by simp [config]) (by simp [mode]) (by simp))

theorem setModeStandbyWork_safe : SlotSafe s (setModeStandbyWork s) := by
  simp only [setModeStandbyWork]
  split
  · exact (completeDone_quiet s).safe
  · refine (abandonFrame_standby_safe s (f := fun c => { c with mode := .standby }) rfl rfl rfl).trans ?_
    exact (SlotQuiet.trans (by simp [slotQuiet_iff]) (takeCommand_quiet _ .standby)).safe

theorem setModeWork_safe (m : BitVec 8) : SlotSafe s (setModeWork m s) := by
  simp only [setModeWork]
  split
  · exact setModeViewWork_safe s
  · split
    · exact setModeStandbyWork_safe s
    · exact (refuse_quiet s _).safe

theorem softResetSlot_state (e : Slot) : (softResetSlot e).state =
    if e.state = .filled ∨ e.state = .held then .free else e.state := by
  cases h : e.state <;> simp [softResetSlot, freedEntry, h]

@[simp] theorem softResetSlot_pins (e : Slot) : (softResetSlot e).pins = 0 := rfl

theorem softResetSlot_kept {e : Slot} (h : e.state = .kept) : (softResetSlot e).recordFrame = e.recordFrame := by
  simp [softResetSlot, h]

/-- The slots of SOFT RESET, once no frame is in progress (R19). -/
theorem SlotSafe.of_softReset {s t : State} (hp : s.slots.tracker.inProgress = none)
    (table : t.slots.table = s.slots.table.map softResetSlot) (progress : t.slots.tracker.inProgress = none)
    (command : t.command = s.command) : SlotSafe s t := by
  refine ⟨fun h => h.of_entries (by simp [table]) (fun i e e' he he' => ?_) (by rw [progress, hp]) (by rw [command])
    (by rw [command]) (by rw [command]), fun h => command ▸ h, fun h _ i e he hk => ?_⟩
  · rw [table, List.getElem?_map, he] at he'
    cases he'
    have hf := h.not_filling hp he
    have hstate := softResetSlot_state e
    refine ⟨?_, ?_, fun hfill => absurd hfill hf, fun _ => rfl⟩
    · rintro rfl
      rcases h.slotZero e he with hz | hz
      · simp [hstate, hz]
      · exact absurd hz hf
    · rw [hstate]; split <;> simp [hf]
  · refine ⟨softResetSlot e, by simp [table, he], ?_, softResetSlot_kept hk, by rw [command], by rw [command]⟩
    simp [softResetSlot_state, hk]

theorem softResetWork_safe : SlotSafe s (softResetWork s) := by
  let f : CommandUnit → CommandUnit := fun c => { c with mode := .standby, staging := none }
  refine (abandonFrame_standby_safe s (f := f) rfl rfl rfl).trans ?_
  exact .of_softReset (by simp) (by simp [softResetWork, softResetBlocks, softResetSteady, softResetSlots, f])
    (by simp [softResetWork, softResetBlocks, softResetSteady, softResetSlots, Tracker.reset])
    (by simp [softResetWork, f])

/-! ## Every command -/

section
variable {s} {t : State}

theorem finish_safe {u : State} (h : SlotSafe s u) (ht : finish s u = .next t) : SlotSafe s t := by
  cases ht; exact h.trans (SlotQuiet.settle s u).safe

theorem notDue_safe (ht : notDue s = .next t) : SlotSafe s t := (notDue_quiet ht).safe

theorem finishIf_map_safe {α : Type} {o : Option α} {f : α → State} (h : ∀ x, SlotSafe s (f x))
    (ht : finishIf s (o.map f) = .next t) : SlotSafe s t := by
  cases o with
  | none => exact notDue_safe ht
  | some x => exact finish_safe (h x) ht

theorem runCommand_safe {code tag : BitVec 16} {work : State → State} (h : ∀ u, SlotSafe u (work u))
    (ht : runCommand code tag work s = .next t) : SlotSafe s t := by
  obtain ⟨-, rfl⟩ | ⟨-, rfl⟩ := runCommand_cases ht
  · exact ((SlotQuiet.executing code tag s).safe.trans (h _)).trans (SlotQuiet.settle s _).safe
  · exact .refl t

theorem takeHeadIf_safe {kind : State → HostRequest → Bool} {now : Nat} (ht : takeHeadIf kind now s = .next t) :
    SlotSafe s t := by
  obtain ⟨r, -, -, rfl⟩ | rfl := takeHeadIf_cases ht
  · exact (takeRequest_safe s now r).trans (SlotQuiet.settle s _).safe
  · exact .refl t

/-- Every command but a power-on reset and a release request keeps the rules of the slot table and the KEPT frames. -/
theorem exec_safe {c : Instr} (hreset : ∀ strap, c ≠ .powerOnReset strap) (hrelease : c ≠ .releaseRequest)
    (ht : exec c s = .next t) : SlotSafe s t := by
  cases hc : actsOnSlots c with
  | false => exact (exec_quiet hc ht).safe
  | true =>
    cases c with
    | powerOnReset strap => exact absurd rfl (hreset strap)
    | releaseRequest => exact absurd rfl hrelease
    | captureApertureWrite => simp only [exec, execCaptureApertureWrite] at ht; exact takeHeadIf_safe ht
    | captureApertureRead => simp only [exec, execCaptureApertureRead] at ht; exact takeHeadIf_safe ht
    | viewApertureRead => simp only [exec, execViewApertureRead] at ht; exact takeHeadIf_safe ht
    | configureFrame => exact runCommand_safe (fun u => configureFrameWork_safe u _) ht
    | setModeView => exact runCommand_safe (fun u => setModeWork_safe u _) ht
    | setModeStandby => exact runCommand_safe setModeStandbyWork_safe ht
    | softReset => exact runCommand_safe softResetWork_safe ht
    | holdRequest => exact finishIf_map_safe (holdSlot_safe s) ht
    | unholdRequest => exact finishIf_map_safe (unholdSlot_safe s) ht
    | keepRequest => exact finishIf_map_safe (keepSlot_safe s) ht
    | pinRequest =>
      simp only [exec, execPinRequest] at ht; split at ht
      · exact finish_safe ((popPin_safe s).trans (takePinMessage_safe _ _)) ht
      · exact notDue_safe ht
    | unpinRequest =>
      simp only [exec, execUnpinRequest] at ht; split at ht
      · exact finish_safe ((popPin_safe s).trans (takePinMessage_safe _ _)) ht
      · exact notDue_safe ht
    | _ => cases hc

theorem execReleaseRequest_consistent (h : SlotsConsistent s) (ht : exec .releaseRequest s = .next t) :
    SlotsConsistent t := by
  simp only [exec, execReleaseRequest] at ht
  cases hr : requestOf .release s with
  | none => rw [hr] at ht; exact (notDue_safe ht).consistent h
  | some r =>
    rw [hr] at ht; cases ht
    exact (SlotQuiet.settle s _).safe.consistent (releaseSlot_consistent s r h)

end

/-- After power-on reset the table is empty, in STANDBY, and no frame is in progress (R18, R162). -/
theorem slotsConsistent_of_reset {s : State} (slots : s.slots = .reset) (command : s.command = .reset) :
    SlotsConsistent s := by
  refine ⟨?_, ?_, ?_, ?_, ?_, ?_, ?_⟩ <;> simp [slots, command, SlotManager.reset, CommandUnit.reset, Tracker.reset]

theorem exec_consistent {c : Instr} {s t : State} (h : SlotsConsistent s) (ht : exec c s = .next t) :
    SlotsConsistent t := by
  by_cases hreset : ∃ strap, c = .powerOnReset strap
  · obtain ⟨strap, rfl⟩ := hreset
    cases ht
    exact slotsConsistent_of_reset rfl rfl
  · by_cases hrelease : c = .releaseRequest
    · subst hrelease; exact execReleaseRequest_consistent h ht
    · exact (exec_safe (fun strap hs => hreset ⟨strap, hs⟩) hrelease ht).consistent h

/-- Settles O55: an idle step keeps everything, and every command keeps the rules. -/
theorem stepKeepsTheSlotTable : Obligations.StepKeepsTheSlotTable := by
  intro s t h ht
  unfold step at ht
  split at ht
  · rename_i c rest _
    have popped : SlotSafe s { s with pending := rest } := .of_same_frame rfl rfl rfl
    exact exec_consistent (popped.consistent h) ht
  · cases ht; exact h

/-- Settles O58: every command but those two keeps the KEPT entries, their frames and the frame store's layout. -/
theorem keptFramesStayUntilReleased : Obligations.KeptFramesStayUntilReleased := by
  intro c s t i e h hv ht he hk hrelease hreset
  exact (exec_safe hreset hrelease ht).kept h hv i e he hk

end Sys2Proof.Machine
end

section
/-!
SUPPORT. The mode and the frame sequence number (R15, R157): which commands change them.
-/
namespace Sys2Proof.Machine
variable (s : State)

/-! ## The pieces of a request (R143) -/

theorem cutPieces_region_addr (region : Nat → Region) (n a place : Nat) :
    ∀ p ∈ cutPieces region n a place, p.region = region p.addr ∧ a ≤ p.addr := by
  induction n generalizing a place with
  | zero => simp [cutPieces]
  | succ n ih =>
    have rest := ih (a + 16) (place + 16)
    intro p hp
    simp only [cutPieces] at hp
    split at hp
    · rename_i q ps hq
      rw [hq] at rest
      split at hp
      · rcases List.mem_cons.mp hp with rfl | hp
        · exact ⟨‹_›, Nat.le_refl a⟩
        · obtain ⟨hr, hle⟩ := rest p (by simp [hp])
          exact ⟨hr, by omega⟩
      · rcases List.mem_cons.mp hp with rfl | hp
        · exact ⟨rfl, Nat.le_refl a⟩
        · obtain ⟨hr, hle⟩ := rest p hp
          exact ⟨hr, by omega⟩
    · simp only [List.mem_singleton] at hp; subst hp
      exact ⟨rfl, Nat.le_refl a⟩

/-- The pieces lie in address order. -/
theorem cutPieces_sorted (region : Nat → Region) (n a place : Nat) :
    (cutPieces region n a place).Pairwise (fun p q => p.addr < q.addr) := by
  induction n generalizing a place with
  | zero => simp [cutPieces]
  | succ n ih =>
    have rest := ih (a + 16) (place + 16)
    have above := cutPieces_region_addr region n (a + 16) (place + 16)
    simp only [cutPieces]
    split
    · rename_i q ps hq
      rw [hq] at rest above
      obtain ⟨hqs, hps⟩ := List.pairwise_cons.mp rest
      have hq16 := (above q (by simp)).2
      split
      · exact List.pairwise_cons.mpr ⟨fun p hp => by have := hqs p hp; simp only; omega, hps⟩
      · refine List.pairwise_cons.mpr ⟨fun p hp => ?_, rest⟩
        have := (above p hp).2
        simp only; omega
    · simp

/-- The pieces of a write, in address order, each of the class of its first address. -/
theorem requestPieces_write (a : BitVec 32) (d : List LinkWord) :
    (∀ p ∈ requestPieces s (.write a d), p.region = regionAt s.command.config s.command.valid p.addr) ∧
    (requestPieces s (.write a d)).Pairwise (fun p q => p.addr < q.addr) := by
  refine ⟨fun p hp => ?_, ?_⟩
  · obtain ⟨q, hq, rfl⟩ := List.mem_map.mp hp
    exact (cutPieces_region_addr _ _ _ _ q hq).1
  · exact List.pairwise_map.mpr (cutPieces_sorted _ _ _ _)

theorem regionAt_capture {c : FrameConfig} {valid : Bool} {a : Nat} (h : regionAt c valid a = .capture) :
    c.captureBase ≤ a := by
  simp only [regionAt] at h
  split at h
  · rename_i hin
    simp only [inAperture, Bool.and_eq_true, decide_eq_true_eq] at hin
    exact hin.2.1
  · split at h <;> cases h

/-! ## The sequence number of a capture write (R8, R12, R15) -/

@[simp] theorem completeFrame_seq (n : BitVec 32) (i : Nat) : (completeFrame n i s).slots.seq = s.slots.seq := by
  rw [completeFrame_slots]

@[simp] theorem writeInFrame_seq (n : BitVec 32) (i a o : Nat) (d : List LinkWord) :
    (writeInFrame n i a o d s).slots.seq = s.slots.seq := by
  simp only [writeInFrame]; (repeat' split) <;> simp

@[simp] theorem frameStarted_seq (now a : Nat) : (frameStarted now a s).slots.seq = s.slots.seq + 1 := by
  unfold frameStarted; split <;> simp [startFrame_slots]

theorem captureWrite_seq (now a o : Nat) (d : List LinkWord) : (captureWrite now a o d s).slots.seq =
    if o = 0 ∧ 0 < frameSize s then s.slots.seq + 1 else s.slots.seq := by
  have written : ∀ u : State, (writeToFrame a o d u).slots.seq = u.slots.seq := fun u => by
    unfold writeToFrame; split <;> simp
  rw [captureWrite_eq]
  split
  · rw [if_neg (by omega)]; simp
  · by_cases ho : o = 0
    · rw [written, if_pos ho, if_pos ⟨ho, by omega⟩, frameStarted_seq]
    · rw [written, if_neg ho, if_neg fun h => ho h.1]

/-- A write piece that starts a frame in VIEW: it lies at the base of the capture aperture (R8). -/
abbrev AtCaptureBase (c : FrameConfig) (p : Piece) : Prop := p.region = .capture ∧ p.addr = c.captureBase

theorem writePiece_seq (now : Nat) (p : Piece) (h : p.region = .capture → s.command.config.captureBase ≤ p.addr) :
    (AtCaptureBase s.command.config p → s.command.mode = .view → 0 < frameSize s →
      (writePiece now s p).slots.seq = s.slots.seq + 1) ∧
    (¬ (AtCaptureBase s.command.config p ∧ s.command.mode = .view ∧ 0 < frameSize s) →
      (writePiece now s p).slots.seq = s.slots.seq) := by
  cases hr : p.region with
  | plain => simp [writePiece, AtCaptureBase, hr]
  | view => simp [writePiece, AtCaptureBase, hr]
  | capture =>
    have base : p.addr - s.command.config.captureBase = 0 ↔ p.addr = s.command.config.captureBase := by
      have := h hr; omega
    cases hm : s.command.mode with
    | standby => simp [writePiece, capturePieceWrite, hr, hm]
    | view =>
      simp only [writePiece, capturePieceWrite, hr, hm, captureWrite_seq, base]
      constructor
      · intro hb _ hs; simp [hb.2, hs]
      · intro hn
        split
        · rename_i hc; exact absurd ⟨⟨hr, hc.1⟩, trivial, hc.2⟩ hn
        · rfl

theorem writePiece_command (now : Nat) (p : Piece) :
    (writePiece now s p).command.mode = s.command.mode ∧ (writePiece now s p).command.config = s.command.config ∧
    (writePiece now s p).command.valid = s.command.valid := by
  simp only [writePiece]; split
  · exact ⟨(plainWrite_quiet s p).mode, (plainWrite_quiet s p).config, (plainWrite_quiet s p).valid⟩
  · simp
  · simp

theorem foldl_writePiece_command (now : Nat) (l : List Piece) :
    (l.foldl (writePiece now) s).command.mode = s.command.mode ∧
    (l.foldl (writePiece now) s).command.config = s.command.config ∧
    (l.foldl (writePiece now) s).command.valid = s.command.valid := by
  induction l generalizing s with
  | nil => simp
  | cons p l ih => simpa [writePiece_command s now p] using ih (writePiece now s p)

/-- At most one of the pieces, in address order, starts a frame (R8, R15). -/
theorem foldl_writePiece_seq (now : Nat) (l : List Piece) (sorted : l.Pairwise (fun p q => p.addr < q.addr))
    (region : ∀ p ∈ l, p.region = .capture → s.command.config.captureBase ≤ p.addr) :
    ((∃ p ∈ l, AtCaptureBase s.command.config p) → s.command.mode = .view → 0 < frameSize s →
      (l.foldl (writePiece now) s).slots.seq = s.slots.seq + 1) ∧
    (¬ ((∃ p ∈ l, AtCaptureBase s.command.config p) ∧ s.command.mode = .view ∧ 0 < frameSize s) →
      (l.foldl (writePiece now) s).slots.seq = s.slots.seq) := by
  induction l generalizing s with
  | nil => simp
  | cons p l ih =>
    obtain ⟨above, sorted⟩ := List.pairwise_cons.mp sorted
    obtain ⟨raises, keeps⟩ := writePiece_seq s now p (region p (by simp))
    obtain ⟨mode, config, -⟩ := writePiece_command s now p
    have size : frameSize (writePiece now s p) = frameSize s := by simp [frameSize, config]
    obtain ⟨restRaises, restKeeps⟩ := ih (writePiece now s p) sorted
      (fun q hq => by rw [config]; exact region q (by simp [hq]))
    rw [config, mode, size] at restRaises restKeeps
    have noneAbove : AtCaptureBase s.command.config p → ¬ ∃ q ∈ l, AtCaptureBase s.command.config q := by
      rintro ⟨-, hp⟩ ⟨q, hq, -, hqa⟩
      have := above q hq; omega
    rw [List.foldl_cons]
    constructor
    · rintro ⟨q, hq, hb⟩ hm hs
      rcases List.mem_cons.mp hq with rfl | hq
      · rw [restKeeps fun hc => noneAbove hb hc.1, raises hb hm hs]
      · rw [restRaises ⟨q, hq, hb⟩ hm hs, keeps fun hc => noneAbove hc.1 ⟨q, hq, hb⟩]
    · intro hn
      rw [restKeeps fun ⟨⟨q, hq, hb⟩, hc⟩ => hn ⟨⟨q, by simp [hq], hb⟩, hc⟩,
        keeps fun hc => hn ⟨⟨p, by simp, hc.1⟩, hc.2⟩]

/-- The sequence number after a write is taken (R15). -/
theorem takeRequest_write_seq (now : Nat) (a : BitVec 32) (d : List LinkWord) :
    ((∃ p ∈ requestPieces s (.write a d), AtCaptureBase s.command.config p) → s.command.mode = .view →
      0 < frameSize s → (takeRequest now (.write a d) s).slots.seq = s.slots.seq + 1) ∧
    (¬ ((∃ p ∈ requestPieces s (.write a d), AtCaptureBase s.command.config p) ∧ s.command.mode = .view ∧
      0 < frameSize s) → (takeRequest now (.write a d) s).slots.seq = s.slots.seq) := by
  obtain ⟨region, sorted⟩ := requestPieces_write s a d
  simpa [takeRequest, frameSize] using
    foldl_writePiece_seq (popArrival s) now _ sorted fun p hp hr => regionAt_capture ((region p hp).symm.trans hr)

/-! ## Reads and pins keep the number and the mode -/

theorem pinSlot_count {n : Nat} {t : State} (h : pinSlot n s = some t) : t.slots.seq = s.slots.seq ∧ t.command = s.command := by
  obtain ⟨-, rfl⟩ := pinSlot_some s h; simp

@[simp] theorem takePinMessage_count (m : PinMessage) :
    (takePinMessage m s).slots.seq = s.slots.seq ∧ (takePinMessage m s).command.mode = s.command.mode := by
  cases m with
  | unpin n => simp [takePinMessage, unpinSlot]
  | reviewPin n =>
    simp only [takePinMessage]; split
    · cases h : pinSlot n s with
      | none => simp [reviewAnswered]
      | some u => simp [reviewAnswered, pinSlot_count s h]
    · simp

@[simp] theorem flushPins_count (fuel : Nat) :
    (flushPins fuel s).slots.seq = s.slots.seq ∧ (flushPins fuel s).command.mode = s.command.mode := by
  induction fuel generalizing s with
  | zero => simp [flushPins]
  | succ fuel ih => simp only [flushPins]; split <;> simp [ih]

@[simp] theorem openChain_count (a : Nat) :
    (openChain a s).slots.seq = s.slots.seq ∧ (openChain a s).command.mode = s.command.mode := by
  simp only [openChain]; split
  · split
    · simp [pinSlot_count s ‹_›]
    · simp
  · simp

@[simp] theorem passForRead_count (a o : Nat) :
    (passForRead a o s).slots.seq = s.slots.seq ∧ (passForRead a o s).command.mode = s.command.mode := by
  simp only [passForRead]; (repeat' split) <;> simp

@[simp] theorem viewRead_count (t o : Nat) (p : Piece) :
    (viewRead t o p s).slots.seq = s.slots.seq ∧ (viewRead t o p s).command.mode = s.command.mode := by
  simp only [viewRead]; (repeat' split) <;> simp

theorem foldl_readPiece_count (t : Nat) (l : List Piece) :
    (l.foldl (readPiece t) s).slots.seq = s.slots.seq ∧ (l.foldl (readPiece t) s).command.mode = s.command.mode := by
  induction l generalizing s with
  | nil => simp
  | cons p l ih =>
    have piece : (readPiece t s p).slots.seq = s.slots.seq ∧ (readPiece t s p).command.mode = s.command.mode := by
      simp only [readPiece, viewPieceRead]; (repeat' split) <;> simp
    simpa [piece] using ih (readPiece t s p)

theorem takeRequest_read_count (now : Nat) (tag : BitVec 6) (a : BitVec 32) (n : Nat) :
    (takeRequest now (.read tag a n) s).slots.seq = s.slots.seq ∧
    (takeRequest now (.read tag a n) s).command.mode = s.command.mode := by
  have h := foldl_readPiece_count
    ((popArrival s).onLink (fun l => { l with readMap := l.readMap ++ [readEntry tag.toNat n] })) tag.toNat
    (requestPieces s (.read tag a n))
  simpa [takeRequest] using h

theorem takeRequest_mode (now : Nat) (r : HostRequest) : (takeRequest now r s).command.mode = s.command.mode := by
  cases r with
  | read tag a n => exact (takeRequest_read_count s now tag a n).2
  | write a d =>
    have h := (foldl_writePiece_command (popArrival s) now (requestPieces s (.write a d))).1
    simpa [takeRequest] using h

end Sys2Proof.Machine
end

section
/-!
The commands that enter VIEW or count a frame (O57).
-/
namespace Sys2Proof.Machine

/-- A command leaves the sequence number and the mode as they were, or brings STANDBY. -/
def KeepsCount (s t : State) : Prop :=
  t.slots.seq = s.slots.seq ∧ (t.command.mode = s.command.mode ∨ t.command.mode = .standby)

section
variable {s t : State}

theorem KeepsCount.refl (s : State) : KeepsCount s s := ⟨rfl, .inl rfl⟩

theorem SlotQuiet.keepsCount (h : SlotQuiet s t) : KeepsCount s t := ⟨h.seq, .inl h.mode⟩

theorem KeepsCount.settle (h : KeepsCount s t) (b : State) : KeepsCount s (settle b t) := by
  simpa [KeepsCount] using h

theorem runCommand_keepsCount {code tag : BitVec 16} {work : State → State} (h : ∀ u, KeepsCount u (work u))
    (ht : runCommand code tag work s = .next t) : KeepsCount s t := by
  obtain ⟨-, rfl⟩ | ⟨-, rfl⟩ := runCommand_cases ht
  · exact KeepsCount.settle (by simpa [KeepsCount] using h (executing code tag s)) s
  · exact .refl t

theorem finishIf_map_keepsCount {α : Type} {o : Option α} {f : α → State} (h : ∀ x, KeepsCount s (f x))
    (ht : finishIf s (o.map f) = .next t) : KeepsCount s t := by
  cases o with
  | none => cases ht; exact .refl s
  | some x => cases ht; exact (h x).settle s

end

theorem configureFrameWork_keepsCount (c : FrameConfig) (s : State) : KeepsCount s (configureFrameWork c s) := by
  obtain ⟨-, -, seq, mode, -⟩ := configure_slots s c
  simp only [configureFrameWork]
  (repeat' split) <;> simp [KeepsCount, seq, mode]

theorem setModeStandbyWork_keepsCount (s : State) : KeepsCount s (setModeStandbyWork s) := by
  simp only [setModeStandbyWork]; split
  · exact (completeDone_quiet s).keepsCount
  · have taken := takeCommand_quiet (closePass (leaveViewFocus
      (abandonFrame (s.onCommand (fun c => { c with mode := .standby }))))) .standby
    exact ⟨taken.seq.trans (by simp [abandonFrame_onCommand_slots]), .inr (taken.mode.trans (by simp))⟩

theorem softResetWork_keepsCount (s : State) : KeepsCount s (softResetWork s) :=
  ⟨by simp [softResetWork, softResetBlocks, softResetSteady, softResetSlots, abandonFrame_onCommand_slots],
    .inr (by simp [softResetWork])⟩

theorem holdSlot_keepsCount (s : State) (r : SlotRequest) : KeepsCount s (holdSlot r s) := by
  simp only [holdSlot]; split <;> simp [KeepsCount]
theorem unholdSlot_keepsCount (s : State) (r : SlotRequest) : KeepsCount s (unholdSlot r s) := by
  simp only [unholdSlot]; split <;> simp [KeepsCount]
theorem keepSlot_keepsCount (s : State) (r : SlotRequest) : KeepsCount s (keepSlot r s) := by
  simp only [keepSlot]; split <;> simp [KeepsCount]
theorem releaseSlot_keepsCount (s : State) (r : SlotRequest) : KeepsCount s (releaseSlot r s) := by
  simp only [releaseSlot]; (repeat' split) <;> simp [KeepsCount]

theorem execPinRows_keepsCount {c : Instr} {s t : State} (hc : c = .pinRequest ∨ c = .unpinRequest)
    (ht : exec c s = .next t) : KeepsCount s t := by
  rcases hc with rfl | rfl <;> simp only [exec, execPinRequest, execUnpinRequest, finish, notDue] at ht <;>
    split at ht <;> cases ht <;> simp [KeepsCount]

theorem takeHeadIf_read_keepsCount {s t : State} {kind : State → HostRequest → Bool} {now : Nat}
    (read : ∀ r, kind s r = true → isWrite r = false) (ht : takeHeadIf kind now s = .next t) : KeepsCount s t := by
  obtain ⟨r, -, hr, rfl⟩ | rfl := takeHeadIf_cases ht
  · cases r with
    | write a d => cases read _ hr
    | read tag a n => simp [KeepsCount, takeRequest_read_count]
  · exact .refl t

theorem setModeWork_keepsCount {m : BitVec 8} (hm : m ≠ 1) (s : State) : KeepsCount s (setModeWork m s) := by
  rw [setModeWork, if_neg hm]; split
  · exact setModeStandbyWork_keepsCount s
  · exact (refuse_quiet s _).keepsCount

/-- SET MODE VIEW enters VIEW under the conditions of R157. -/
theorem setModeViewWork_enters {s : State} (hs : s.command.mode = .standby) (hv : (setModeViewWork s).command.mode = .view) :
    viewReady s = true := by
  by_contra hn
  rw [setModeViewWork, if_neg (by simp [hs]), if_neg hn] at hv
  simp [hs] at hv

/-- What may enter VIEW (R157): SET MODE with the mode byte 1, its record there and its conditions met. -/
abbrev EntersView (c : Instr) (s : State) : Prop :=
  (∃ tag, c = .setModeView tag 1) ∧ CommandArrives s ∧ s.command.valid = true ∧ s.lens.mode = .ready ∧
    s.command.camMark = true ∧ s.command.programMark = true

/-- What may count a frame (R8, R12, R15): a capture write with a piece at the aperture's base, taken in VIEW. -/
abbrev CountsFrame (c : Instr) (s : State) : Prop :=
  s.command.mode = .view ∧ ∃ now a d, c = .captureApertureWrite now ∧ headRequest s = some (.write a d) ∧
    ∃ p ∈ requestPieces s (.write a d), p.region = .capture ∧ p.addr = s.command.config.captureBase

/-- The mode and the sequence number after a command: each as it was, but for the cases of R15 and R157. -/
abbrev CountStep (c : Instr) (s t : State) : Prop :=
  (s.command.mode = .standby → t.command.mode = .view → EntersView c s) ∧
  (t.slots.seq = s.slots.seq ∨ (t.slots.seq = s.slots.seq + 1 ∧ CountsFrame c s) ∨
    (t.slots.seq = 0 ∧ ∃ strap, c = .powerOnReset strap))

theorem KeepsCount.step {c : Instr} {s t : State} (h : KeepsCount s t) : CountStep c s t := by
  refine ⟨fun hs hv => ?_, .inl h.1⟩
  rcases h.2 with hm | hm <;> simp [hs, hv] at hm

theorem execSetModeView_count {tag : BitVec 16} {m : BitVec 8} {s t : State}
    (ht : exec (.setModeView tag m) s = .next t) : CountStep (.setModeView tag m) s t := by
  simp only [exec, execSetModeView] at ht
  by_cases hm : m = 1
  · subst hm
    obtain ⟨arrives, rfl⟩ | ⟨-, rfl⟩ := runCommand_cases ht
    · refine ⟨fun hs hv => ⟨⟨tag, rfl⟩, arrives, ?_⟩, .inl (by simp [setModeWork])⟩
      have ready := setModeViewWork_enters (s := executing codeSetMode tag s) (by simpa using hs)
        (by simpa [setModeWork] using hv)
      simpa [viewReady, lensReady, and_assoc] using ready
    · exact (KeepsCount.refl t).step
  · exact (runCommand_keepsCount (setModeWork_keepsCount hm) ht).step

theorem execCaptureApertureWrite_count {now : Nat} {s t : State} (ht : exec (.captureApertureWrite now) s = .next t) :
    CountStep (.captureApertureWrite now) s t := by
  simp only [exec, execCaptureApertureWrite] at ht
  obtain ⟨r, hr, hkind, rfl⟩ | rfl := takeHeadIf_cases ht
  · refine ⟨fun hs hv => ?_, ?_⟩
    · rw [(settle_command s _).2.2.2.1, takeRequest_mode, hs] at hv; cases hv
    · cases r with
      | read => simp [isWrite] at hkind
      | write a d =>
        obtain ⟨raises, keeps⟩ := takeRequest_write_seq s now a d
        rw [(settle_slots s _).2.1]
        by_cases base : (∃ p ∈ requestPieces s (.write a d), AtCaptureBase s.command.config p) ∧
            s.command.mode = .view ∧ 0 < frameSize s
        · exact .inr (.inl ⟨raises base.1 base.2.1 base.2.2, base.2.1, now, a, d, rfl, hr, base.1⟩)
        · exact .inl (keeps base)
  · exact (KeepsCount.refl t).step

theorem exec_count {c : Instr} {s t : State} (ht : exec c s = .next t) : CountStep c s t := by
  cases hc : actsOnSlots c with
  | false => exact (exec_quiet hc ht).keepsCount.step
  | true =>
    cases c with
    | powerOnReset strap =>
      cases ht
      exact ⟨fun _ hv => (by cases hv), .inr (.inr ⟨rfl, strap, rfl⟩)⟩
    | captureApertureWrite => exact execCaptureApertureWrite_count ht
    | captureApertureRead =>
      simp only [exec, execCaptureApertureRead] at ht
      exact (takeHeadIf_read_keepsCount (fun r hr => by simp at hr; exact hr.1) ht).step
    | viewApertureRead =>
      simp only [exec, execViewApertureRead] at ht
      exact (takeHeadIf_read_keepsCount (fun r hr => by simp at hr; exact hr.1) ht).step
    | configureFrame => exact (runCommand_keepsCount (configureFrameWork_keepsCount _) ht).step
    | setModeView => exact execSetModeView_count ht
    | setModeStandby => exact (runCommand_keepsCount setModeStandbyWork_keepsCount ht).step
    | softReset => exact (runCommand_keepsCount softResetWork_keepsCount ht).step
    | holdRequest => exact (finishIf_map_keepsCount (holdSlot_keepsCount s) ht).step
    | unholdRequest => exact (finishIf_map_keepsCount (unholdSlot_keepsCount s) ht).step
    | keepRequest => exact (finishIf_map_keepsCount (keepSlot_keepsCount s) ht).step
    | releaseRequest => exact (finishIf_map_keepsCount (releaseSlot_keepsCount s) ht).step
    | pinRequest => exact (execPinRows_keepsCount (.inl rfl) ht).step
    | unpinRequest => exact (execPinRows_keepsCount (.inr rfl) ht).step
    | _ => cases hc

/-- A capture write is taken when it is the head request and reaches the aperture (R142). -/
theorem execCaptureApertureWrite_of_head {s : State} {a : BitVec 32} {d : List LinkWord} (now : Nat)
    (hr : headRequest s = some (.write a d)) (hp : ∃ p ∈ requestPieces s (.write a d), p.region = .capture) :
    exec (.captureApertureWrite now) s = .next (settle s (takeRequest now (.write a d) s)) := by
  have reach : reaches .capture s (.write a d) = true := by simpa [reaches] using hp
  simp [exec, execCaptureApertureWrite, takeHeadIf, hr, isWrite, reach, finish]

/-- Settles O57: the rows that act on the slots one by one, every other being quiet; and the one piece at the base. -/
theorem onlySomeCommandsEnterViewOrCountFrames : Obligations.OnlySomeCommandsEnterViewOrCountFrames := by
  refine ⟨fun c s t ht => exec_count ht, fun now s a d hr hmode hsize base => ?_⟩
  obtain ⟨p, hp, hreg, haddr⟩ := base
  refine ⟨_, execCaptureApertureWrite_of_head now hr ⟨p, hp, hreg⟩, ?_⟩
  rw [(settle_slots s _).2.1]
  exact (takeRequest_write_seq s now a d).1 ⟨p, hp, hreg, haddr⟩ hmode hsize

end Sys2Proof.Machine
end

section
namespace Sys2Proof.Machine

/-- Settles O4: the command's effect is the reset state of every block, field by field. -/
theorem powerOnResetSetsTheResetValues : Obligations.PowerOnResetSetsTheResetValues := fun _ _ => rfl

/-! ## The invariants at reset -/

theorem ringConsistent_reset : RingConsistent ReportUnit.reset := by
  constructor <;> simp [ReportUnit.reset]

theorem waitingConsistent_reset : WaitingConsistent ReportUnit.reset := by
  constructor <;> simp [ReportUnit.reset]

theorem linkBounded_reset (strap : BitVec 3) : LinkBounded (PassThrough.reset strap) := by
  constructor <;> simp [PassThrough.reset]

theorem completionsReserved_reset (strap : BitVec 3) : CompletionsReserved (State.resetWith strap) := by
  constructor <;> simp [owed, State.resetWith, LensDrive.reset, CaptureUnit.reset, CommandUnit.reset, ReportUnit.reset,
    waitingCompletions]

/-- Settles O56: one lemma for each invariant. -/
theorem resetMeetsTheInvariants : Obligations.ResetMeetsTheInvariants := by
  intro strap
  refine ⟨?_, ringConsistent_reset, waitingConsistent_reset, linkBounded_reset strap, slotsConsistent_of_reset rfl rfl,
    ⟨?_, ?_⟩, completionsReserved_reset strap, ?_⟩
  · simp [HoldMatchesSearch, State.resetWith, FocusController.reset]
  · simp [State.resetWith, ExposureController.reset]
  · simp [State.resetWith, FocusController.reset]
  · intro h; cases h

end Sys2Proof.Machine
end

section
/-!
What a step adds to its own effect (O3), and the waiting image writes (R17).
-/
namespace Sys2Proof.Machine

/-! ## The slots that changed (R17) -/

theorem mem_changedSlots {l m : List Slot} {k i : Nat} : i ∈ changedSlots l m k ↔
    k ≤ i ∧ ∃ x y, l[i - k]? = some x ∧ m[i - k]? = some y ∧ x ≠ y := by
  induction l generalizing m k with
  | nil => simp [changedSlots]
  | cons a l ih =>
    cases m with
    | nil => simp [changedSlots]
    | cons b m =>
      have rest : i ∈ changedSlots l m (k + 1) ↔
          k + 1 ≤ i ∧ ∃ x y, (a :: l)[i - k]? = some x ∧ (b :: m)[i - k]? = some y ∧ x ≠ y := by
        rw [ih]
        refine and_congr_right fun hi => ?_
        rw [show i - k = (i - (k + 1)) + 1 by omega, List.getElem?_cons_succ, List.getElem?_cons_succ]
      simp only [changedSlots]
      split
      · rename_i hab
        rw [rest]
        constructor
        · rintro ⟨hi, h⟩; exact ⟨by omega, h⟩
        · rintro ⟨hi, x, y, hx, hy, hxy⟩
          refine ⟨Nat.lt_of_le_of_ne hi fun hki => ?_, x, y, hx, hy, hxy⟩
          subst hki hab
          simp at hx hy
          exact hxy (hx.symm.trans hy)
      · rename_i hab
        rw [List.mem_cons, rest]
        constructor
        · rintro (rfl | ⟨hi, h⟩)
          · exact ⟨Nat.le_refl _, a, b, by simp [hab]⟩
          · exact ⟨by omega, h⟩
        · rintro ⟨hi, h⟩
          rcases Nat.eq_or_lt_of_le hi with heq | hlt
          · exact .inl heq.symm
          · exact .inr ⟨hlt, h⟩

theorem changedSlots_sorted (l m : List Slot) (k : Nat) : (changedSlots l m k).Pairwise (· < ·) := by
  induction l generalizing m k with
  | nil => simp [changedSlots]
  | cons a l ih =>
    cases m with
    | nil => simp [changedSlots]
    | cons b m =>
      simp only [changedSlots]
      split
      · exact ih m (k + 1)
      · exact List.pairwise_cons.mpr ⟨fun i hi => (mem_changedSlots.mp hi).1, ih m (k + 1)⟩

/-! ## The reads that enter (R147, R149) -/

theorem enterReads_enters {s : State} (h : s.slots.imageWaiting = []) (hf : s.report.statusFirst = false) :
    (enterReads s).link.ownQueue =
      s.link.ownQueue ++ s.command.waitingReads.take (Config.ownPlaces - s.link.ownQueue.length) ∧
    (enterReads s).command.waitingReads =
      s.command.waitingReads.drop (Config.ownPlaces - s.link.ownQueue.length) := by
  simp [enterReads, h, hf]

theorem enterReads_stays {s : State} (h : ¬ (s.slots.imageWaiting = [] ∧ s.report.statusFirst = false)) :
    enterReads s = s := by
  rw [enterReads, if_neg (by simpa using h)]

theorem enterReads_eq (s : State) : enterReads s =
    { s with link := { s.link with ownQueue := (enterReads s).link.ownQueue },
             command := { s.command with waitingReads := (enterReads s).command.waitingReads } } := by
  by_cases h : s.slots.imageWaiting = [] ∧ s.report.statusFirst = false
  · simp [enterReads, h]
  · rw [enterReads_stays h]

/-- All that the end of a step can change: the waiting writes, the own-traffic queue and the waiting reads. -/
theorem settle_eq (b s : State) : settle b s =
    { s with slots := { s.slots with imageWaiting := (settle b s).slots.imageWaiting },
             report := { s.report with statusWaiting := (settle b s).report.statusWaiting },
             link := { s.link with ownQueue := (settle b s).link.ownQueue },
             command := { s.command with waitingReads := (settle b s).command.waitingReads } } := by
  rw [settle_imageWaiting, settle_statusWaiting]
  exact enterReads_eq (noteStatus b (noteImages b s))

/-- Settles O3. -/
theorem settleChangesOnlyWaitingWrites : Obligations.SettleChangesOnlyWaitingWrites := by
  intro b s
  have images : (settle b s).slots.imageWaiting = s.slots.imageWaiting ++
      (changedSlots b.slots.table s.slots.table 0).filter (fun i => !s.slots.imageWaiting.contains i) :=
    settle_imageWaiting b s
  have noted : (noteStatus b (noteImages b s)).slots.imageWaiting = (settle b s).slots.imageWaiting := by simp
  refine ⟨settle_eq b s, ⟨_, images, (changedSlots_sorted _ _ _).filter _, fun i => ?_⟩, by simp, fun ⟨himg, hf⟩ => ?_,
    fun h => ?_⟩
  · rw [List.mem_filter, mem_changedSlots]
    simp [and_comm]
  · exact enterReads_enters (s := noteStatus b (noteImages b s)) (noted.trans himg) hf
  · have stays : settle b s = noteStatus b (noteImages b s) :=
      enterReads_stays (by rw [noted]; exact h)
    rw [stays]; exact ⟨rfl, rfl⟩

end Sys2Proof.Machine
end

section
/-!
The candidates of ARM CAPTURE (O14), the Slot Manager's answers (O47), and SET VIEW SOURCE with its pins (O10).
-/
namespace Sys2Proof.Machine

/-! ## The candidates of ARM CAPTURE (R15, R130) -/

theorem insertByAge_perm (seq : BitVec 32) (x : HeldEntry) (l : List HeldEntry) : (insertByAge seq x l).Perm (x :: l) := by
  induction l with
  | nil => exact .refl _
  | cons y l ih =>
    simp only [insertByAge]
    split
    · exact .refl _
    · exact (ih.cons y).trans (.swap x y l)

/-- Oldest first, by the distance behind the present count. -/
def OldestFirst (seq : BitVec 32) (l : List HeldEntry) : Prop :=
  l.Pairwise (fun a b => behind seq b.frame ≤ behind seq a.frame)

theorem OldestFirst.insertByAge {seq : BitVec 32} {l : List HeldEntry} (h : OldestFirst seq l) (x : HeldEntry) :
    OldestFirst seq (insertByAge seq x l) := by
  induction l with
  | nil => exact List.pairwise_singleton _ _
  | cons y l ih =>
    obtain ⟨hy, hl⟩ := List.pairwise_cons.mp h
    simp only [Machine.insertByAge]
    split
    · rename_i hlt
      refine List.pairwise_cons.mpr ⟨fun z hz => ?_, h⟩
      rcases List.mem_cons.mp hz with rfl | hz
      · exact Nat.le_of_lt hlt
      · exact Nat.le_trans (hy z hz) (Nat.le_of_lt hlt)
    · rename_i hle
      refine List.pairwise_cons.mpr ⟨fun z hz => ?_, ih hl⟩
      rcases List.mem_cons.mp ((insertByAge_perm seq x l).subset hz) with rfl | hz
      · exact Nat.le_of_not_lt hle
      · exact hy z hz

/-- The entry of a slot and its index that the candidates list. -/
def heldEntryOf (x : Nat × Slot) : HeldEntry := { slot := x.1, frame := x.2.recordFrame }

theorem foldl_insertByAge_perm (seq : BitVec 32) (l : List (Nat × Slot)) (acc : List HeldEntry) :
    (l.foldl (fun acc x => insertByAge seq (heldEntryOf x) acc) acc).Perm (l.map heldEntryOf ++ acc) := by
  induction l generalizing acc with
  | nil => exact .refl _
  | cons x l ih =>
    refine (ih _).trans ?_
    exact ((insertByAge_perm seq _ acc).append_left _).trans List.perm_middle

theorem foldl_insertByAge_oldestFirst {seq : BitVec 32} (l : List (Nat × Slot)) {acc : List HeldEntry}
    (h : OldestFirst seq acc) : OldestFirst seq (l.foldl (fun acc x => insertByAge seq (heldEntryOf x) acc) acc) := by
  induction l generalizing acc with
  | nil => exact h
  | cons x l ih => exact ih (h.insertByAge _)

theorem indexed_nodup {α : Type} (p : α → Bool) (l : List α) (i : Nat) : ((indexed p l i).map (·.1)).Nodup := by
  induction l generalizing i with
  | nil => exact List.nodup_nil
  | cons a l ih =>
    simp only [indexed]
    split
    · refine List.nodup_cons.mpr ⟨fun hmem => ?_, ih (i + 1)⟩
      obtain ⟨x, hx, hi⟩ := List.mem_map.mp hmem
      have := (mem_indexed hx).1
      simp only at hi
      omega
    · exact ih (i + 1)

theorem candidates_perm (s : State) : (candidates s).Perm
    ((indexed (fun e => e.state == .filled) (s.slots.table.drop 1) 1).map heldEntryOf) := by
  have perm := foldl_insertByAge_perm s.slots.seq (indexed (fun e => e.state == .filled) (s.slots.table.drop 1) 1) []
  rw [List.append_nil] at perm
  exact perm

/-- Settles O14. -/
theorem armCandidatesAreTheFilledSlotsInAge : Obligations.ArmCandidatesAreTheFilledSlotsInAge := by
  intro s
  refine ⟨fun e => ?_, ?_, foldl_insertByAge_oldestFirst _ List.Pairwise.nil⟩
  · rw [(candidates_perm s).mem_iff, List.mem_map]
    constructor
    · rintro ⟨x, hx, rfl⟩
      obtain ⟨h0, hget, hp⟩ := mem_indexed_slots.mp hx
      exact ⟨h0, x.2, hget, by simpa using hp, rfl⟩
    · rintro ⟨h0, x, hget, hp, hf⟩
      exact ⟨(e.slot, x), mem_indexed_slots.mpr ⟨h0, hget, by simpa using hp⟩, by cases e; simp_all [heldEntryOf]⟩
  · refine (((candidates_perm s).map _).nodup_iff).mpr ?_
    rw [List.map_map]
    exact indexed_nodup _ _ 1

/-! ## The Slot Manager's answers (R5, R6) -/

/-- The entry of the table that a request names, if its slot and frame name one. -/
def Names (s : State) (r : SlotRequest) (e : Slot) : Prop :=
  r.slot ≠ 0 ∧ s.slots.table[r.slot]? = some e ∧ e.recordFrame = r.frame

theorem Names.matches {s : State} {r : SlotRequest} {e : Slot} (h : Names s r e) :
    requestMatches s r = true ∧ slotAt s r.slot = e := by
  obtain ⟨h0, he, hf⟩ := h
  exact ⟨requestMatches_iff.mpr ⟨h0, e, he, hf⟩, slotAt_of_getElem? he⟩

/-- A request whose named entry, if any, fails the test of its row fails the row's condition. -/
theorem requestMatches_and_eq_false {s : State} {r : SlotRequest} {p : Slot → Bool} (h : ∀ e, Names s r e → p e = false) :
    (requestMatches s r && p (slotAt s r.slot)) = false := by
  by_cases hm : requestMatches s r = true
  · obtain ⟨h0, e, he, hf⟩ := requestMatches_iff.mp hm
    rw [slotAt_of_getElem? he, h e ⟨h0, he, hf⟩, Bool.and_false]
  · simp [Bool.not_eq_true _ ▸ hm]

/-- What carrying a request out does to the state. -/
theorem carryOut_spec {s : State} {r : SlotRequest} {e : Slot} (f : Slot → Slot) (h : Names s r e) :
    ∃ u, finish s (carryOut r f s) = .next (settle s u) ∧
      u = { s with slots :=
        { s.slots with captureRequest := none, captureAnswer := some .done, table := u.slots.table } } ∧
      u.slots.table[r.slot]? = some (f e) ∧ ∀ j, j ≠ r.slot → u.slots.table[j]? = s.slots.table[j]? := by
  obtain ⟨-, he, -⟩ := h
  exact ⟨carryOut r f s, rfl, rfl, by simp [getElem?_updAt_self, he], fun j hj => by simp [getElem?_updAt_ne _ _ hj]⟩

/-- The row that stands for a kind of slot request. -/
def requestRow : SlotRequestKind → Instr
  | .hold => .holdRequest
  | .unhold => .unholdRequest
  | .keep => .keepRequest
  | .release => .releaseRequest

/-- The answer of the Slot Manager by the kind of request. -/
def slotAnswer (r : SlotRequest) : State → State :=
  match r.kind with
  | .hold => holdSlot r
  | .unhold => unholdSlot r
  | .keep => keepSlot r
  | .release => releaseSlot r

theorem exec_requestRow_of_none {s : State} {k : SlotRequestKind}
    (h : ∀ r, s.slots.captureRequest = some r → r.kind ≠ k) : exec (requestRow k) s = .next s := by
  have none : requestOf k s = none := Option.filter_eq_none_iff.mpr fun r hr => by simpa using h r hr
  cases k with
  | hold => simp only [requestRow, exec, execHoldRequest, none]; rfl
  | unhold => simp only [requestRow, exec, execUnholdRequest, none]; rfl
  | keep => simp only [requestRow, exec, execKeepRequest, none]; rfl
  | release => simp only [requestRow, exec, execReleaseRequest, none]; rfl

theorem exec_requestRow_of_some {s : State} {r : SlotRequest} (h : s.slots.captureRequest = some r) :
    exec (requestRow r.kind) s = finish s (slotAnswer r s) := by
  obtain ⟨k, slot, frame, id, index⟩ := r
  have some : requestOf k s = some ⟨k, slot, frame, id, index⟩ := by simp [requestOf, h]
  cases k with
  | hold => simp only [requestRow, exec, execHoldRequest, some]; rfl
  | unhold => simp only [requestRow, exec, execUnholdRequest, some]; rfl
  | keep => simp only [requestRow, exec, execKeepRequest, some]; rfl
  | release => simp only [requestRow, exec, execReleaseRequest, some]; rfl

/-- The entry's state is the one the rule's table requires of the request. -/
def fitsRequest (r : SlotRequest) (e : Slot) : Bool :=
  match r.kind with
  | .hold => e.state == .filled
  | .unhold => e.state == .held
  | .keep => e.state == .filled || e.state == .held
  | .release => e.state == .kept

/-- The entry after a request that is carried out. -/
def entryAfter (r : SlotRequest) : Slot → Slot :=
  match r.kind with
  | .hold => fun e => { e with state := .held }
  | .unhold => fun e => { e with state := .filled }
  | .keep => keptEntry r
  | .release => freedEntry

/-- The answer to a request: the table's three cases. -/
theorem slotAnswer_eq (s : State) (r : SlotRequest) : slotAnswer r s =
    if requestMatches s r && fitsRequest r (slotAt s r.slot) then
      if r.kind = .release ∧ (slotAt s r.slot).pins ≠ 0 then answerRequest .pinned s else carryOut r (entryAfter r) s
    else answerRequest .gone s := by
  obtain ⟨k, slot, frame, id, index⟩ := r
  cases k with
  | hold => simp [slotAnswer, holdSlot, fitsRequest, entryAfter]
  | unhold => simp [slotAnswer, unholdSlot, fitsRequest, entryAfter]
  | keep => simp [slotAnswer, keepSlot, fitsRequest, entryAfter]
  | release => simp [slotAnswer, releaseSlot, fitsRequest, entryAfter]

theorem slotAnswer_of_fits {s : State} {r : SlotRequest} {e : Slot} (h : Names s r e) (hf : fitsRequest r e = true)
    (hp : ¬ (r.kind = .release ∧ e.pins ≠ 0)) : slotAnswer r s = carryOut r (entryAfter r) s := by
  obtain ⟨hm, hs⟩ := h.matches
  rw [slotAnswer_eq, hm, hs, hf, if_neg hp]; rfl

theorem slotAnswer_of_pinned {s : State} {r : SlotRequest} {e : Slot} (h : Names s r e) (hf : fitsRequest r e = true)
    (hp : r.kind = .release ∧ e.pins ≠ 0) : slotAnswer r s = answerRequest .pinned s := by
  obtain ⟨hm, hs⟩ := h.matches
  rw [slotAnswer_eq, hm, hs, hf, if_pos hp]; rfl

theorem slotAnswer_of_not_fits {s : State} {r : SlotRequest} (h : ∀ e, Names s r e → fitsRequest r e = false) :
    slotAnswer r s = answerRequest .gone s := by
  rw [slotAnswer_eq, requestMatches_and_eq_false h]; rfl

/-- Settles O47. -/
theorem slotRequestsFollowTheTable : Obligations.SlotRequestsFollowTheTable := by
  intro s
  refine ⟨fun k h => exec_requestRow_of_none h, fun r hr => ?_⟩
  have answer := exec_requestRow_of_some hr
  refine ⟨fun e hn hf => ?_, fun e hn hk hs hp => ?_, fun h => ?_⟩
  · have carried := carryOut_spec (entryAfter r) hn
    rw [← slotAnswer_of_fits hn ?_ ?_, ← answer] at carried
    · obtain ⟨k, slot, frame, id, index⟩ := r
      cases k <;> exact carried
    · obtain ⟨k, slot, frame, id, index⟩ := r
      cases k with
      | keep => simpa [fitsRequest, or_comm] using hf
      | _ => simp_all [fitsRequest]
    · rintro ⟨hk, hp⟩
      rw [hk] at hf
      exact hp hf.2
  · rw [slotAnswer_of_pinned hn (by simp [fitsRequest, hk, hs]) ⟨hk, hp⟩] at answer
    exact answer
  · rw [slotAnswer_of_not_fits fun e hn => ?_] at answer
    · exact answer
    · have := h e hn
      obtain ⟨k, slot, frame, id, index⟩ := r
      cases k <;> simp_all [fitsRequest]

end Sys2Proof.Machine
end

section
/-!
SET VIEW SOURCE (R126) with its pin requests (R3) (O10).
-/
namespace Sys2Proof.Machine

/-- A slot number in a command's byte that can be shown. -/
theorem showable_toNat_iff {s : State} {n : BitVec 8} : showable s n.toNat = true ↔
    n ≠ 0 ∧ ∃ e, s.slots.table[n.toNat]? = some e ∧ (e.state = .filled ∨ e.state = .held ∨ e.state = .kept) := by
  rw [showable_iff]
  exact and_congr_left' (not_congr ⟨fun h => BitVec.eq_of_toNat_eq h, fun h => by simp [h]⟩)

/-! ## SET VIEW SOURCE (R126) -/

theorem setViewSourceWork_live {n : Nat} {s : State} (hn : n = 0xFF) :
    setViewSourceWork n s = completeDone (setSource none (unpinSource s)) := if_pos hn

theorem setViewSourceWork_of_not_shown {n : Nat} {s : State} (hn : n ≠ 0xFF)
    (h : ¬ (s.command.valid = true ∧ showable s n = true)) : setViewSourceWork n s = refuse .badParameter s := by
  rw [setViewSourceWork, if_neg hn, if_neg (by simpa using h)]

theorem setViewSourceWork_of_shown {n : Nat} {s : State} (hn : n ≠ 0xFF) (hv : s.command.valid = true)
    (hs : showable s n = true) : setViewSourceWork n s = if s.steady.source = some n then completeDone s else
      sendPin (.reviewPin n) { s with command := { s.command with slotWanted := some n } } := by
  rw [setViewSourceWork, if_neg hn, if_pos (by simp [hv, hs])]

theorem unpinSource_of_live {s : State} (h : s.steady.source = none) : unpinSource s = s := by simp [unpinSource, h]

theorem unpinSource_of_slot {s : State} {n : Nat} (h : s.steady.source = some n) :
    unpinSource s = sendPin (.unpin n) s := by simp [unpinSource, h]

/-! ## The Slot Manager's turn (R3) -/

theorem exec_pinRequest_of_not {s : State} (h : ∀ n rest, s.slots.pinMessages ≠ .reviewPin n :: rest) :
    exec .pinRequest s = .next s := by
  change execPinRequest s = _
  unfold execPinRequest
  split
  · exact absurd ‹_› (h _ _)
  · rfl

theorem exec_unpinRequest_of_not {s : State} (h : ∀ n rest, s.slots.pinMessages ≠ .unpin n :: rest) :
    exec .unpinRequest s = .next s := by
  change execUnpinRequest s = _
  unfold execUnpinRequest
  split
  · exact absurd ‹_› (h _ _)
  · rfl

theorem exec_pinRequest_of_reviewPin {s : State} {n : Nat} {rest : List PinMessage}
    (h : s.slots.pinMessages = .reviewPin n :: rest) :
    exec .pinRequest s = finish s (takePinMessage (.reviewPin n) (popPin s)) := by
  simp only [exec, execPinRequest, h]

theorem exec_unpinRequest_of_unpin {s : State} {n : Nat} {rest : List PinMessage}
    (h : s.slots.pinMessages = .unpin n :: rest) : exec .unpinRequest s = finish s (unpinSlot n (popPin s)) := by
  simp only [exec, execUnpinRequest, h, takePinMessage]

theorem popPin_of_cons {s : State} {m : PinMessage} {rest : List PinMessage} (h : s.slots.pinMessages = m :: rest) :
    popPin s = { s with slots := { s.slots with pinMessages := rest } } := by
  rw [popPin, h]; rfl

/-- The command no longer waits for a pin. -/
def noSlotWanted (s : State) : State := { s with command := { s.command with slotWanted := none } }

/-- The pin that the command in hand waits for is refused. -/
theorem takePinMessage_refused {s : State} {n : Nat} {h : InHand} (hw : s.command.slotWanted = some n)
    (hi : s.command.inHand = some h) (hs : ¬ showable s n = true) :
    takePinMessage (.reviewPin n) s = completedWith h .badParameter 0 (noSlotWanted s) := by
  rw [takePinMessage, if_pos hw, pinSlot, if_neg hs]
  exact complete_of_inHand (s := noSlotWanted s) hi _ _

/-- The pin that the command in hand waits for is given: the source changes and the slot it leaves is unpinned. -/
theorem takePinMessage_given {s : State} {n : Nat} {h : InHand} (hw : s.command.slotWanted = some n)
    (hi : s.command.inHand = some h) (hs : showable s n = true) :
    takePinMessage (.reviewPin n) s = completedWith h .done 0
      (setSource (some n) (unpinSource (noSlotWanted (s.onSlot n (fun e => { e with pins := e.pins + 1 }))))) := by
  rw [takePinMessage, if_pos hw, pinSlot, if_pos hs]
  exact complete_of_inHand (h := h) (by simpa using hi) _ _

theorem unpinSource_messages (s : State) : unpinSource s = { s with slots := { s.slots with pinMessages :=
    s.slots.pinMessages ++ (s.steady.source.toList.map .unpin) } } := by
  unfold unpinSource sendPin
  split <;> simp [*]

/-- Settles O10. -/
theorem viewSourceFollowsThePinAnswer : Obligations.ViewSourceFollowsThePinAnswer := by
  refine ⟨fun tag n s h => ?_, fun s => ⟨fun h => ?_, fun n rest hm => ?_, fun h => ?_, fun n rest hm => ?_⟩⟩
  · have runs := runCommand_of_arrives codeSetViewSource tag (setViewSourceWork n.toNat) h
    have notLive : n ≠ 0xFF → n.toNat ≠ 0xFF := fun hn hc => hn (BitVec.eq_of_toNat_eq hc)
    refine ⟨fun hn hsrc => ?_, fun old hn hsrc => ?_, fun hn hs => ?_, fun hn ⟨hv, hs⟩ hsrc => ?_,
      fun hn ⟨hv, hs⟩ hsrc => ?_⟩
    · rw [setViewSourceWork_live (by rw [hn]; rfl), unpinSource_of_live (by simpa using hsrc)] at runs
      exact runs
    · rw [setViewSourceWork_live (by rw [hn]; rfl), unpinSource_of_slot (n := old) (by simpa using hsrc)] at runs
      exact runs
    · rw [setViewSourceWork_of_not_shown (s := executing codeSetViewSource tag s) (notLive hn) fun ⟨hv, hsh⟩ =>
        hs ⟨hv, showable_toNat_iff.mp hsh⟩] at runs
      exact runs
    all_goals rw [setViewSourceWork_of_shown (notLive hn) (by simpa using hv)
      (showable_toNat_iff.mpr (by simpa using hs))] at runs
    · rw [if_pos (by simpa using hsrc)] at runs; exact runs
    · rw [if_neg (by simpa using hsrc)] at runs; exact runs
  · exact exec_pinRequest_of_not h
  · have turn := exec_pinRequest_of_reviewPin hm
    have pop := popPin_of_cons hm
    refine ⟨fun hw => ?_, fun ih hw hi hs => ?_, fun ih e hw hi ⟨h0, he, hst⟩ => ?_⟩
    · rw [← pop, turn]; exact congrArg (finish s) (if_neg hw)
    · rw [takePinMessage_refused (s := popPin s) hw hi fun hsh => ?_, pop] at turn
      · exact turn
      · obtain ⟨h0, e, he, hst⟩ := showable_iff.mp hsh
        exact hs ⟨e, h0, he, hst⟩
    · have shown : showable (popPin s) n = true := showable_iff.mpr ⟨h0, e, he, hst⟩
      rw [takePinMessage_given (s := popPin s) hw hi shown, pop, unpinSource_messages] at turn
      refine ⟨_, turn, ?_, by simp [getElem?_updAt_self, he, setSource, noSlotWanted],
        fun j hj => by simp [getElem?_updAt_ne _ _ hj, setSource, noSlotWanted]⟩
      cases hsrc : s.steady.source <;> simp [setSource, noSlotWanted, State.onSlot, State.onSteady, hsrc]
  · exact exec_unpinRequest_of_not h
  · have turn := exec_unpinRequest_of_unpin hm
    rw [popPin_of_cons hm] at turn
    exact ⟨_, turn, rfl, fun e he => by simp [unpinSlot, State.onSlot, getElem?_updAt_self, he],
      fun j hj => by simp [unpinSlot, State.onSlot, getElem?_updAt_ne _ _ hj]⟩

end Sys2Proof.Machine
end

section
/-!
The writes that the part issues: slot images (R17), the Status Block (R169), and the notice of a forwarded write
(R148, R163, R168) (O35).
-/
namespace Sys2Proof.Machine

theorem controlBase_eq (s : State) : controlBase s = s.link.strap.toNat * 0x20000000 + 0x1FF00000 := rfl

theorem updAt_length_append {α : Type} (f : α → α) (l : List α) (a : α) (m : List α) :
    updAt f (l ++ a :: m) l.length = l ++ f a :: m := by
  induction l with
  | nil => rfl
  | cons b l ih => simp [updAt, ih]

/-! ## The image and the Status Block writes (R17, R147, R149, R169) -/

theorem ownRoom_iff {s : State} : ownRoom s = true ↔ s.link.ownQueue.length < 8 := decide_eq_true_iff

theorem exec_slotImageWrite_of_waiting {s : State} {i : Nat} {rest : List Nat} (hroom : s.link.ownQueue.length < 8)
    (h : s.slots.imageWaiting = i :: rest) : exec .slotImageWrite s =
      finish s (pushOwn (imageRequest s i) { s with slots := { s.slots with imageWaiting := rest } }) := by
  change execSlotImageWrite s = _
  rw [execSlotImageWrite, ownRoom_iff.mpr hroom, h]

theorem exec_slotImageWrite_of_not {s : State}
    (h : ¬ (s.link.ownQueue.length < 8 ∧ s.slots.imageWaiting ≠ [])) : exec .slotImageWrite s = .next s := by
  change execSlotImageWrite s = _
  unfold execSlotImageWrite
  split
  · rename_i hroom himg
    exact absurd ⟨ownRoom_iff.mp hroom, by simp [himg]⟩ h
  · rfl

/-- A Status Block write is due (R147, R149, R169). -/
theorem statusDue_iff {s : State} :
    (s.report.statusWaiting && !s.report.statusQueued && statusTurn s) = true ↔
      s.report.statusWaiting = true ∧ s.report.statusQueued = false ∧ s.link.ownQueue.length < 8 ∧
        s.slots.imageWaiting = [] ∧ (s.command.waitingReads = [] ∨ s.report.statusFirst = true) := by
  simp [statusTurn, ownRoom_iff, and_assoc, or_comm]

/-! ## The forwarded notice (R148, R163, R168) -/

/-- An own request with data is granted when it stands first and no host request has the turn. -/
theorem exec_downstreamGrant_of_own {s : State} {o : OwnRequest} {q : List OwnRequest}
    (hturn : s.link.hostDown = [] ∨ ¬ s.link.hostRun < 3) (hq : s.link.ownQueue = o :: q) (hd : o.data ≠ []) :
    exec .downstreamGrant s = finish s (grantOwn s) := by
  have own : ownEligible s.link = true := by simp [ownEligible, hq, hd]
  change execDownstreamGrant s = _
  unfold execDownstreamGrant
  rw [own]
  split
  · contradiction
  · rfl
  · rename_i hh _
    exact if_neg (hturn.resolve_left (by simp [hh]))
  · contradiction

theorem grantOwn_of_data {s : State} {o : OwnRequest} {q : List OwnRequest} (hq : s.link.ownQueue = o :: q)
    (hd : o.data ≠ []) : grantOwn s = { s with
      report := writeForwarded o.purpose s.report,
      link := { s.link with ownQueue := q, hostRun := 0, forwarded := .write o.addr o.data :: s.link.forwarded } } := by
  have : o.data.isEmpty = false := by simpa using hd
  simp only [grantOwn, hq, this]
  rfl

/-- The notice of a report whose entry is still in the ring. -/
theorem markForwarded_of_entry {r : ReportUnit} {c : BitVec 16} {pre post : List EntryRecord} {e : EntryRecord}
    (he : r.entries = pre ++ e :: post) (hi : pre.length = (c - r.headCopy).toNat) : markForwarded c r =
      evalAttention { r with entries := pre ++ { e with forwarded := true } :: post } := by
  have : pre.length < r.entries.length := by simp [he]
  simp only [markForwarded, ← hi, if_pos this]
  rw [he, updAt_length_append]

/-- The notice of a report whose entry has been consumed. -/
theorem markForwarded_of_consumed {r : ReportUnit} {c : BitVec 16} (h : r.entries.length ≤ (c - r.headCopy).toNat) :
    markForwarded c r = r := if_neg (Nat.not_lt.mpr h)

/-- Settles O35. -/
theorem imageAndStatusWritesAreQueuedAndNoticed : Obligations.ImageAndStatusWritesAreQueuedAndNoticed := by
  refine ⟨fun s => ⟨fun hroom i rest hi => ?_, exec_slotImageWrite_of_not, fun hdue => ?_, fun hdue => ?_⟩,
    fun s o q hturn hq hd => ?_⟩
  · rw [exec_slotImageWrite_of_waiting hroom hi, imageRequest, controlBase_eq]; rfl
  · refine (if_pos (statusDue_iff.mpr hdue)).trans ?_
    rw [statusRequest, controlBase_eq]; rfl
  · exact if_neg (mt statusDue_iff.mp hdue)
  · have granted := exec_downstreamGrant_of_own hturn hq hd
    rw [grantOwn_of_data hq hd] at granted
    refine ⟨_, granted, rfl, fun hp => by rw [hp]; rfl, fun i hp => by rw [hp]; rfl, fun hp => by rw [hp]; rfl,
      fun c hp => ?_⟩
    rw [hp]
    exact ⟨fun pre e post he hi => markForwarded_of_entry he hi, markForwarded_of_consumed⟩

end Sys2Proof.Machine
end

section
/-!
One host request of one piece: how the head request is taken, and the read that is handled (R142, R143, R146).
-/
namespace Sys2Proof.Machine

/-! ## The head request (R142) -/

theorem headRequest_some {s : State} {r : HostRequest} (h : headRequest s = some r) :
    s.link.hostDown = [] ∧ mustWait s r = false := by
  unfold headRequest at h
  split at h
  · split at h
    · cases h
    · rename_i hnot
      cases h
      exact ⟨‹_›, Bool.eq_false_iff.mpr hnot⟩
  · cases h

theorem takeHeadIf_of_head {kind : State → HostRequest → Bool} {now : Nat} {s : State} {r : HostRequest}
    (h : headRequest s = some r) (hk : kind s r = true) : takeHeadIf kind now s = finish s (takeRequest now r s) := by
  rw [takeHeadIf, h]; exact if_pos hk

theorem reaches_of_piece {s : State} {r : HostRequest} {p : Piece} {g : Region} (h : requestPieces s r = [p]) :
    reaches g s r = (p.region == g) := by simp [reaches, h]

/-- A request of one piece, a write, is taken by handling that piece. -/
theorem takeRequest_write_piece {now : Nat} {s : State} {a : BitVec 32} {d : List LinkWord} {p : Piece}
    (h : requestPieces s (.write a d) = [p]) : takeRequest now (.write a d) s = writePiece now (popArrival s) p := by
  simp [takeRequest, h]

/-! ## The read that is handled (R146) -/

/-- A fetch that is not granted yet. -/
def newFetch (dtag place skip count : Nat) : HostFetch :=
  { dtag := dtag, place := place, skip := skip, count := count, granted := false, returned := false }

/-- The read being handled stands last in the read-tag map, and no read before it has its tag. -/
structure Handles (s : State) (m : List ReadEntry) (e : ReadEntry) : Prop where
  map : s.link.readMap = m ++ [e]
  fresh : ∀ x ∈ m, x.tag ≠ e.tag

/-- The state in which a read's piece is handled: the read has left the arrival buffer and has its entry. -/
def readTaken (tag n : Nat) (s : State) : State :=
  (popArrival s).onLink (fun l => { l with readMap := l.readMap ++ [readEntry tag n] })

theorem takeRequest_read_piece {now : Nat} {s : State} {tag : BitVec 6} {a : BitVec 32} {n : Nat} {p : Piece}
    (h : requestPieces s (.read tag a n) = [p]) : takeRequest now (.read tag a n) s =
      deliverTag tag.toNat (readPiece tag.toNat (readTaken tag.toNat n s) p) := by
  simp [takeRequest, h, readTaken]

theorem readTaken_handles {s : State} {tag : BitVec 6} {a : BitVec 32} {n : Nat}
    (h : headRequest s = some (.read tag a n)) :
    Handles (readTaken tag.toNat n s) s.link.readMap (readEntry tag.toNat n) :=
  ⟨rfl, fun x hx => by
    have free : tagBusy s tag.toNat = false := (headRequest_some h).2
    simpa [readEntry] using (List.any_eq_false.mp free) x hx⟩

section
variable {s : State} {m : List ReadEntry} {e : ReadEntry}

theorem Handles.find (h : Handles s m e) : s.link.readMap.find? (fun x => x.tag == e.tag) = some e := by
  have none : m.find? (fun x => x.tag == e.tag) = none := List.find?_eq_none.mpr fun x hx => by simpa using h.fresh x hx
  simp [h.map, none]

theorem Handles.fetchCount (h : Handles s m e) : Machine.fetchCount s e.tag = e.fetches.length := by
  simp [Machine.fetchCount, h.find]

theorem Handles.onEntry (h : Handles s m e) (f : ReadEntry → ReadEntry) :
    onEntry e.tag f s = { s with link := { s.link with readMap := m ++ [f e] } } := by
  have same : m.map (fun x => if x.tag = e.tag then f x else x) = m := by
    rw [List.map_congr_left fun x hx => if_neg (h.fresh x hx), List.map_id']
  simp [Machine.onEntry, State.onLink, h.map, same]

/-- A fetch for the read that is handled: its place in the read-tag map and its downstream request. -/
theorem Handles.addFetch (h : Handles s m e) (addr words place skip count : Nat) :
    addFetch e.tag addr words place skip count s = { s with link := { s.link with
      hostDown := s.link.hostDown ++ [.read (4 * e.tag + e.fetches.length) addr words],
      readMap := m ++ [{ e with fetches := e.fetches ++ [newFetch (4 * e.tag + e.fetches.length) place skip count] }] } } := by
  rw [Machine.addFetch, h.fetchCount, h.onEntry]; rfl

theorem Handles.addFetch_handles (h : Handles s m e) (addr words place skip count : Nat) :
    Handles (Machine.addFetch e.tag addr words place skip count s) m
      { e with fetches := e.fetches ++ [newFetch (4 * e.tag + e.fetches.length) place skip count] } := by
  rw [h.addFetch]; exact ⟨rfl, h.fresh⟩

/-- A read with nothing outstanding is delivered. -/
theorem Handles.deliver (h : Handles s m e) (hr : e.ready = true) : deliverTag e.tag s =
    passDelivered e.pass { s with link := { s.link with
      readMap := m, delivered := { tag := e.tag, error := e.error, bytes := e.bytes } :: s.link.delivered } } := by
  have rest : (m ++ [e]).filter (fun x => x.tag != e.tag) = m := by
    rw [List.filter_append, List.filter_eq_self.mpr fun x hx => by simpa using h.fresh x hx]; simp
  rw [deliverTag, h.find]
  simp only [hr, if_true, State.onLink, h.map, rest]

theorem Handles.waits (h : Handles s m e) (hr : e.ready = false) : deliverTag e.tag s = s := by
  rw [deliverTag, h.find]
  simp only [hr, Bool.false_eq_true, if_false]

end

end Sys2Proof.Machine
end

section
/-!
Plain requests, capture aperture reads and the Control Block fields (R14, R132, R143, R145, R168) (O23).
-/
namespace Sys2Proof.Machine

/-! ## A request of one plain or capture piece (R14, R143, R146) -/

theorem plainOnly_of_piece {s : State} {r : HostRequest} {p : Piece} (h : requestPieces s r = [p])
    (hp : p.region = .plain) : plainOnly s r = true := by
  simp [plainOnly, reaches_of_piece h, hp]

theorem requestFields_write_piece {s : State} {a : BitVec 32} {d : List LinkWord} {p : Piece}
    (h : requestPieces s (.write a d) = [p]) (hp : p.region = .plain) :
    requestFields s (.write a d) = blockFields (controlBase s) p := by
  simp [requestFields, isWrite, h, hp]

theorem exec_plainRequest_of_head {s : State} {r : HostRequest} (hr : headRequest s = some r)
    (hp : plainOnly s r = true) (hf : requestFields s r = []) : exec .plainRequest s = finish s (takeRequest 0 r s) :=
  takeHeadIf_of_head (kind := fun s r => plainOnly s r && (requestFields s r).isEmpty) hr (by simp [hp, hf])

theorem exec_captureApertureRead_of_head {s : State} {tag : BitVec 6} {a : BitVec 32} {n : Nat} {p : Piece}
    (hr : headRequest s = some (.read tag a n)) (h : requestPieces s (.read tag a n) = [p]) (hp : p.region = .capture) :
    exec .captureApertureRead s = finish s (takeRequest 0 (.read tag a n) s) :=
  takeHeadIf_of_head (kind := fun s r => !isWrite r && reaches .capture s r) hr
    (by simp [isWrite, reaches_of_piece h, hp])

/-- A write of one plain piece that hands over a field is taken by the row of that field. -/
theorem takeHeadIf_handsOver {s : State} {a : BitVec 32} {d : List LinkWord} {p : Piece} {f : BlockField}
    {kind : BlockField → Bool} (hr : headRequest s = some (.write a d)) (h : requestPieces s (.write a d) = [p])
    (hp : p.region = .plain) (hf : f ∈ blockFields (controlBase s) p) (hk : kind f = true) :
    takeHeadIf (handsOver kind) 0 s = finish s (plainWrite p (popArrival s)) := by
  rw [takeHeadIf_of_head hr, takeRequest_write_piece h, writePiece, hp]
  rw [handsOver, plainOnly_of_piece h hp, requestFields_write_piece h hp]
  exact List.any_eq_true.mpr ⟨f, hf, hk⟩

/-- A plain write piece, the first of its request, hands its fields over, which leaves the link alone, and is forwarded. -/
theorem plainWrite_forwards {s : State} {p : Piece} (hd : s.link.hostDown = []) : plainWrite p (popArrival s) =
    { (blockFields (controlBase s) p).foldl (handField (max p.addr (controlBase s))) (popArrival s) with
      link := { s.link with arrival := s.link.arrival.tail, hostDown := [.write p.addr p.data] } } := by
  have keep := (foldl_handField_frame (popArrival s) (max p.addr (controlBase s)) (blockFields (controlBase s) p)).1
  have down : (popArrival s).link.hostDown = [] := hd
  have base : controlBase (popArrival s) = controlBase s := rfl
  simp only [plainWrite, forwardWrite, sendDown, base, keep, down]
  rfl

theorem readPiece_capture {s : State} {tag : BitVec 6} {n : Nat} {p : Piece} (hp : p.region = .capture)
    (hv : s.command.mode = .view) : readPiece tag.toNat (readTaken tag.toNat n s) p =
      captureRead tag.toNat (p.addr - s.command.config.captureBase) p (readTaken tag.toNat n s) := by
  have mode : (readTaken tag.toNat n s).command.mode = .view := hv
  rw [readPiece, hp]
  simp only [capturePieceRead, mode]
  rfl

/-- A read of one piece for which one fetch goes down. -/
theorem takeRequest_read_fetched {s : State} {tag : BitVec 6} {a : BitVec 32} {n : Nat} {p : Piece}
    (hr : headRequest s = some (.read tag a n)) (h : requestPieces s (.read tag a n) = [p]) {addr words place : Nat}
    (piece : readPiece tag.toNat (readTaken tag.toNat n s) p =
      addFetch tag.toNat addr words place 0 (16 * words) (readTaken tag.toNat n s)) :
    takeRequest 0 (.read tag a n) s = { s with link := { s.link with
      arrival := s.link.arrival.tail,
      hostDown := [.read (4 * tag.toNat) addr words],
      readMap := s.link.readMap ++ [{ readEntry tag.toNat n with
        fetches := [newFetch (4 * tag.toNat) place 0 (16 * words)] }] } } := by
  have handles := readTaken_handles hr
  have down : (readTaken tag.toNat n s).link.hostDown = [] := (headRequest_some hr).1
  rw [takeRequest_read_piece h, piece]
  refine ((handles.addFetch_handles addr words place 0 (16 * words)).waits rfl).trans ?_
  refine (handles.addFetch addr words place 0 (16 * words)).trans ?_
  rw [down]; rfl

/-- A read of one piece for which nothing is fetched. -/
theorem takeRequest_read_zeros {s t : State} {tag : BitVec 6} {a : BitVec 32} {n : Nat} {p : Piece}
    (hr : headRequest s = some (.read tag a n)) (h : requestPieces s (.read tag a n) = [p])
    (piece : readPiece tag.toNat (readTaken tag.toNat n s) p = t) (link : t.link = (readTaken tag.toNat n s).link) :
    takeRequest 0 (.read tag a n) s = { t with link := { s.link with
      arrival := s.link.arrival.tail,
      delivered := { tag := tag.toNat, error := false, bytes := List.replicate (16 * n) 0 } :: s.link.delivered } } := by
  obtain ⟨map, fresh⟩ := readTaken_handles hr
  rw [takeRequest_read_piece h, piece]
  refine (Handles.deliver (e := readEntry tag.toNat n) ⟨link ▸ map, fresh⟩ rfl).trans ?_
  rw [link]; rfl

theorem captureRead_of_none {tag off : Nat} {p : Piece} {s : State}
    (h : s.slots.tracker.inProgress = none ∨ min p.words ((frameSize s - off) / 16) = 0) : captureRead tag off p s = s := by
  unfold captureRead
  split
  · rename_i hin
    exact if_pos (h.resolve_left (by simp [hin]))
  · rfl

theorem captureRead_of_some {tag off : Nat} {p : Piece} {s : State} {k : BitVec 32} {i : Nat}
    (h : s.slots.tracker.inProgress = some (k, i)) (hn : min p.words ((frameSize s - off) / 16) ≠ 0) :
    captureRead tag off p s = addFetch tag (slotBase s i + off) (min p.words ((frameSize s - off) / 16)) p.place 0
      (16 * min p.words ((frameSize s - off) / 16)) s := by
  rw [captureRead, h]; exact if_neg hn

/-! ## The Control Block fields (R145, R172) -/

/-- The word at an offset of the Control Block, if a piece covers it. -/
theorem coveredWord_iff {base off : Nat} {p : Piece} {w : LinkWord} :
    (if p.addr ≤ base + off then p.data[(base + off - p.addr) / 16]? else none) = some w ↔
      p.addr ≤ base + off ∧ p.data[(base + off - p.addr) / 16]? = some w := by
  split <;> simp_all

theorem mem_blockFields_iff {base : Nat} {p : Piece} {f : BlockField} : f ∈ blockFields base p ↔
    (∃ w, (p.addr ≤ base + 0 ∧ p.data[(base + 0 - p.addr) / 16]? = some w) ∧
      (f = .tail (w.extractLsb' 0 16) ∨ f = .toggle (w.getLsbD 32))) ∨
    (∃ w, (p.addr ≤ base + 0x10 ∧ p.data[(base + 0x10 - p.addr) / 16]? = some w) ∧
      (f = .head (w.extractLsb' 0 16) ∨ f = .mask (w.extractLsb' 32 8))) := by
  simp only [← coveredWord_iff, blockFields, List.mem_append]
  refine or_congr ?_ ?_
  all_goals (split <;> simp_all)

/-- Settles O23. -/
theorem plainPiecesAndFieldsPassThrough : Obligations.PlainPiecesAndFieldsPassThrough := by
  refine ⟨fun s r p hr h => ⟨?_, ?_⟩, fun base p => ?_, fun s a d p hr h hp => ⟨fun v hv => ?_, fun m hm => ?_⟩,
    fun s addr m v => ⟨rfl, fun hv => if_neg hv, fun hv => if_pos hv⟩⟩
  · rintro a d rfl hp hf
    refine (exec_plainRequest_of_head hr (plainOnly_of_piece h hp)
      ((requestFields_write_piece h hp).trans hf)).trans ?_
    rw [takeRequest_write_piece h, writePiece, hp, plainWrite_forwards (headRequest_some hr).1]
    simp only [controlBase_eq] at hf ⊢
    rw [hf]; rfl
  · rintro tag a n rfl
    refine ⟨fun hp => ?_, fun hp hv => ⟨fun hn => ?_, fun k i hin hn => ?_⟩⟩
    · refine (exec_plainRequest_of_head hr (plainOnly_of_piece h hp) rfl).trans ?_
      rw [takeRequest_read_fetched hr h (by rw [readPiece, hp]; rfl)]; rfl
    all_goals rw [exec_captureApertureRead_of_head hr h hp]
    · rw [takeRequest_read_zeros hr h (by rw [readPiece_capture hp hv, captureRead_of_none (s := readTaken _ _ s) hn]) rfl]; rfl
    · rw [takeRequest_read_fetched hr h (by rw [readPiece_capture hp hv]; exact captureRead_of_some hin hn)]; rfl
  · simp only [mem_blockFields_iff]
    refine ⟨fun v => ?_, fun v => ?_, fun v => ?_, fun v => ?_⟩ <;> simp
  · exact (takeHeadIf_handsOver (kind := BlockField.isToggle) hr h hp hv rfl).trans
      (congrArg (finish s) (plainWrite_forwards (headRequest_some hr).1))
  · exact (takeHeadIf_handsOver (kind := BlockField.isMask) hr h hp hm rfl).trans
      (congrArg (finish s) (plainWrite_forwards (headRequest_some hr).1))

end Sys2Proof.Machine
end

section
/-!
Capture aperture writes in a frame (R9 to R11) (O29), and where they store (R1, R8 to R12) (O30).
-/
namespace Sys2Proof.Machine

/-! ## The capture write of a request of one piece (R9, R142) -/

theorem writePiece_capture {now : Nat} {s : State} {p : Piece} (hp : p.region = .capture) (hv : s.command.mode = .view) :
    writePiece now s p = captureWrite now p.addr (p.addr - s.command.config.captureBase) p.data s := by
  simp only [writePiece, hp, capturePieceWrite, hv]

theorem exec_captureApertureWrite_piece {s : State} {a : BitVec 32} {d : List LinkWord} {p : Piece} (now : Nat)
    (hr : headRequest s = some (.write a d)) (h : requestPieces s (.write a d) = [p]) (hp : p.region = .capture)
    (hv : s.command.mode = .view) : exec (.captureApertureWrite now) s = .next (settle s
      (captureWrite now p.addr (p.addr - s.command.config.captureBase) p.data (popArrival s))) := by
  rw [execCaptureApertureWrite_of_head now hr ⟨p, by simp [h], hp⟩, takeRequest_write_piece h,
    writePiece_capture hp (s := popArrival s) hv]
  rfl

theorem captureWrite_beyond {now addr off : Nat} {d : List LinkWord} {s : State} (h : frameSize s ≤ off) :
    captureWrite now addr off d s = raiseFault .captureOverrun addr s := by
  rw [captureWrite_eq, if_pos h]

theorem captureWrite_inside {now addr off : Nat} {d : List LinkWord} {s : State} (h : off < frameSize s) (h0 : off ≠ 0) :
    captureWrite now addr off d s = writeToFrame addr off d s := by
  rw [captureWrite_eq, if_neg (Nat.not_le.mpr h), if_neg h0]

theorem captureWrite_start {now addr : Nat} {d : List LinkWord} {s : State} (h : 0 < frameSize s) :
    captureWrite now addr 0 d s = writeToFrame addr 0 d (frameStarted now addr s) := by
  rw [captureWrite_eq, if_neg (Nat.not_le.mpr h), if_pos rfl]

/-! ## Writes in a frame (R9, R10, R23) -/

theorem addStored_of_lt {a b : Nat} (h : a + b < 2 ^ 32) : addStored a b = a + b := if_pos h

/-- The state in which a write is stored: one out of sequence has torn the frame. -/
def tornIfOutOfOrder (addr off : Nat) (s : State) : State :=
  if off = s.slots.tracker.expected then s else tearFrame addr s

theorem tornIfOutOfOrder_of_eq {addr off : Nat} {s : State} (h : off = s.slots.tracker.expected) :
    tornIfOutOfOrder addr off s = s := if_pos h

theorem tornIfOutOfOrder_of_ne {addr off : Nat} {s : State} (h : off ≠ s.slots.tracker.expected) :
    tornIfOutOfOrder addr off s = tearFrame addr s := if_neg h

@[simp] theorem tornIfOutOfOrder_frame (s : State) (addr off : Nat) :
    (tornIfOutOfOrder addr off s).link = s.link ∧ (tornIfOutOfOrder addr off s).command = s.command := by
  unfold tornIfOutOfOrder
  split <;> simp

/-- The first write of a request that is stored. -/
theorem storeWords_eq {i off : Nat} {d : List LinkWord} {s : State} (hd : s.link.hostDown = [])
    (h : s.slots.tracker.stored + 16 * d.length < 2 ^ 32) : storeWords i off d s = { s with
      link := { s.link with hostDown := [.write (slotBase s i + off) d] },
      stats := measure off d s.stats,
      slots := { s.slots with tracker := { s.slots.tracker with
        expected := off + 16 * d.length, stored := s.slots.tracker.stored + 16 * d.length } } } := by
  simp only [storeWords, sendDown, hd, addStored_of_lt h, List.nil_append]

/-- A write that ends below the frame size is stored, and the frame goes on. -/
theorem writeInFrame_inside {n : BitVec 32} {i addr off : Nat} {d : List LinkWord} {s : State}
    (h : off + 16 * d.length < frameSize s) :
    writeInFrame n i addr off d s = storeWords i off d (tornIfOutOfOrder addr off s) := by
  have whole : d.take ((frameSize s - off) / 16) = d := List.take_of_length_le (by omega)
  simp only [writeInFrame, whole, Nat.lt_irrefl, if_false, storeWords_slots]
  exact if_neg (Nat.ne_of_lt h)

/-- A torn frame is no longer measured. -/
theorem measure_tearMeasurement (off : Nat) (d : List LinkWord) (e : StatEngine) :
    measure off d (tearMeasurement e) = tearMeasurement e := by
  cases h : e.measuring <;> simp [measure, tearMeasurement, h]

/-- Settles O29. -/
theorem writesInAFrameAreStoredOrFaulted : Obligations.WritesInAFrameAreStoredOrFaulted := by
  intro now s a d p hr h hp hv
  have down := (headRequest_some hr).1
  have out := exec_captureApertureWrite_piece now hr h hp hv
  refine ⟨fun hoff => ?_, fun hoff h0 hin => ?_, fun n i hin h0 hend hstored => ⟨fun hseq => ?_, fun hseq => ?_⟩⟩
  · rw [captureWrite_beyond (s := popArrival s) hoff] at out
    exact out
  · rw [captureWrite_inside (s := popArrival s) hoff h0, writeToFrame_of_none (s := popArrival s) hin] at out
    exact out
  all_goals rw [captureWrite_inside (s := popArrival s) (Nat.lt_of_le_of_lt (Nat.le_add_right _ _) hend) h0,
    writeToFrame_of_some (s := popArrival s) hin, writeInFrame_inside (s := popArrival s) hend] at out
  · rw [tornIfOutOfOrder_of_eq (s := popArrival s) hseq, storeWords_eq (s := popArrival s) down hstored] at out
    exact out
  · rw [tornIfOutOfOrder_of_ne (s := popArrival s) hseq, storeWords_eq (s := tearFrame p.addr (popArrival s)) down hstored]
      at out
    have torn : (tearFrame p.addr (popArrival s)).stats = tearMeasurement s.stats := rfl
    rw [torn, measure_tearMeasurement] at out
    exact out

/-! ## Where capture writes store (R1, R8 to R12) -/

/-- A write to memory lies in the frame bytes of slot `i`. -/
def StoresInSlot (s : State) (i : Nat) (r : DownRequest) : Prop :=
  ∃ addr data, r = .write addr data ∧ slotBase s i ≤ addr ∧ addr + 16 * data.length ≤ slotBase s i + frameSize s

theorem writeInFrame_hostDown (n : BitVec 32) (i addr off : Nat) (d : List LinkWord) (s : State) :
    (writeInFrame n i addr off d s).link.hostDown =
      s.link.hostDown ++ [.write (slotBase s i + off) (d.take ((frameSize s - off) / 16))] := by
  have base : slotBase (tornIfOutOfOrder addr off s) i = slotBase s i := by simp [slotBase]
  have completed : ∀ u : State, (if u.slots.tracker.expected = frameSize s then completeFrame n i u else u).link = u.link :=
    fun u => by split <;> simp
  have overrun : ∀ (c : Prop) [Decidable c] (u : State), (if c then raiseFault .captureOverrun addr u else u).link = u.link :=
    fun c _ u => by split <;> simp
  simp only [writeInFrame]
  rw [completed, overrun]
  simp only [storeWords, sendDown]
  rw [← tornIfOutOfOrder, base, tornIfOutOfOrder_frame s addr off |>.1]

theorem frameStarted_progress (now addr : Nat) (s : State) : (frameStarted now addr s).slots.tracker.inProgress =
    some (s.slots.seq + 1, chooseFill (s.slots.seq + 1) (abandonFrame s).slots.table) := by
  unfold frameStarted
  split
  · simp [startFrame_slots]
  · rw [startFrame_slots, abandonFrame_of_none ‹_›]

@[simp] theorem frameStarted_frame (now addr : Nat) (s : State) :
    (frameStarted now addr s).link = s.link ∧ (frameStarted now addr s).command = s.command := by
  unfold frameStarted
  split <;> simp

theorem abandonFrame_popArrival (s : State) :
    (abandonFrame (popArrival s)).slots.table = (abandonFrame s).slots.table := by
  cases h : s.slots.tracker.inProgress with
  | none => rw [abandonFrame_of_none h, abandonFrame_of_none (s := popArrival s) h]; rfl
  | some x =>
    rw [abandonFrame_slots (n := x.1) (i := x.2) h, abandonFrame_slots (s := popArrival s) (n := x.1) (i := x.2) h]; rfl

/-- What a write below the frame size sends down lies in the frame bytes of the frame in progress. -/
theorem writeToFrame_stores {addr off : Nat} {d : List LinkWord} {s : State} (hoff : off < frameSize s) {r : DownRequest}
    (hr : r ∈ (writeToFrame addr off d s).link.hostDown) :
    r ∈ s.link.hostDown ∨ ∃ n i, s.slots.tracker.inProgress = some (n, i) ∧ StoresInSlot s i r := by
  cases h : s.slots.tracker.inProgress with
  | none => rw [writeToFrame_of_none h] at hr; exact .inl (by simpa using hr)
  | some x =>
    rw [writeToFrame_of_some (n := x.1) (i := x.2) h, writeInFrame_hostDown] at hr
    refine (List.mem_append.mp hr).imp_right fun hnew => ⟨x.1, x.2, rfl, _, _, List.mem_singleton.mp hnew, ?_⟩
    rw [List.length_take]
    omega

/-- The slot a capture write stores in: the one chosen for the frame it starts, or that of the frame in progress. -/
def StoringSlot (s : State) (off i : Nat) : Prop :=
  if off = 0 then i = chooseFill (s.slots.seq + 1) (abandonFrame s).slots.table
  else ∃ n, s.slots.tracker.inProgress = some (n, i)

theorem captureWrite_stores {now addr off : Nat} {d : List LinkWord} {s : State} {r : DownRequest}
    (hr : r ∈ (captureWrite now addr off d s).link.hostDown) :
    r ∈ s.link.hostDown ∨ ∃ i, StoringSlot s off i ∧ StoresInSlot s i r := by
  have same : ∀ i, StoresInSlot (frameStarted now addr s) i r ↔ StoresInSlot s i r := fun i => by
    simp [StoresInSlot, slotBase, frameSize]
  rcases Nat.lt_or_ge off (frameSize s) with hoff | hoff
  · by_cases h0 : off = 0
    · subst h0
      rw [captureWrite_start hoff] at hr
      have size : 0 < frameSize (frameStarted now addr s) := by simpa [frameSize] using hoff
      refine (writeToFrame_stores size hr).imp (by simp) ?_
      rintro ⟨n, i, hin, hst⟩
      rw [frameStarted_progress] at hin
      cases hin
      exact ⟨_, by simp [StoringSlot], (same _).mp hst⟩
    · rw [captureWrite_inside hoff h0] at hr
      refine (writeToFrame_stores hoff hr).imp_right ?_
      rintro ⟨n, i, hin, hst⟩
      exact ⟨i, by simp [StoringSlot, h0, hin], hst⟩
  · rw [captureWrite_beyond hoff] at hr
    exact .inl (by simpa using hr)

/-- Settles O30. -/
theorem captureWritesStayInTheFillingSlot : Obligations.CaptureWritesStayInTheFillingSlot := by
  refine ⟨fun now s p hv hp r hr => ?_, fun now s u r p hv hr h hp hu q hq => ?_⟩
  · rw [writePiece_capture hp hv] at hr
    refine (captureWrite_stores hr).imp_right ?_
    rintro ⟨i, hi, addr, data, rfl, hlo, hhi⟩
    exact ⟨i, addr, data, rfl, hi, hlo, hhi⟩
  · have down := (headRequest_some hr).1
    cases r with
    | read tag a n =>
      simp only [exec, execCaptureApertureWrite] at hu
      obtain ⟨r, hr', hkind, -⟩ | rfl := takeHeadIf_cases hu
      · cases hr.symm.trans hr'
        cases hkind
      · simp [down] at hq
    | write a d =>
      cases (exec_captureApertureWrite_piece now hr h hp hv).symm.trans hu
      obtain hold | ⟨i, hi, addr, data, rfl, hlo, hhi⟩ := captureWrite_stores (by simpa using hq)
      · simp [down, popArrival] at hold
      · refine ⟨i, addr, data, rfl, ?_, hlo, hhi⟩
        have region := (requestPieces_write s a d).1 p (by simp [h])
        have base := regionAt_capture (region.symm.trans hp)
        have zero : p.addr - s.command.config.captureBase = 0 ↔ p.addr = s.command.config.captureBase := by omega
        have same : StoringSlot (popArrival s) (p.addr - s.command.config.captureBase) i ↔
            StoringSlot s (p.addr - s.command.config.captureBase) i := by simp [StoringSlot, abandonFrame_popArrival]
        simpa only [StoringSlot, zero] using same.mp hi

end Sys2Proof.Machine
end

section
/-!
SUPPORT. What a frame start, a restart and a completion write, block by block (R8, R12, R13).
-/
namespace Sys2Proof.Machine

theorem updAt_eq_set {α : Type} (f : α → α) {l : List α} {i : Nat} {a : α} (h : l[i]? = some a) :
    updAt f l i = l.set i (f a) := by
  refine List.ext_getElem? fun j => ?_
  obtain ⟨hi, ha⟩ := List.getElem?_eq_some_iff.mp h
  rw [getElem?_updAt, List.getElem?_set]
  by_cases hj : j = i
  · simp [hj, hi, ha]
  · simp [hj, Ne.symm hj]

/-! ## Frame start (R8, R22, R45, R115) -/

/-- The latch of the Exposure Controller for frame `n` (R45). -/
def exposureLatchOf (n : BitVec 32) (s : State) : ExposureLatch :=
  { frame := n, params := s.exposure.params, program := s.exposure.program, steady := s.steady.enable,
    applied := (appliedSet s n).1 }

/-- The held lens values after the start of frame `n`: copied when the initial set is applied (R45, R53). -/
def heldAtStart (n : BitVec 32) (s : State) : LensValues :=
  if (historyEntry s n).isNone then lensValues s else s.exposure.held

theorem latchExposure_eq (n : BitVec 32) (s : State) : latchExposure n s = { s with exposure := { s.exposure with
    latches := s.exposure.latches ++ [exposureLatchOf n s], held := heldAtStart n s } } := by
  unfold latchExposure heldAtStart
  split <;> rfl

theorem startFrame_eq {now : Nat} {s : State} {e : Slot}
    (he : s.slots.table[chooseFill (s.slots.seq + 1) s.slots.table]? = some e) : startFrame now s = { s with
    slots := { s.slots with
      table := s.slots.table.set (chooseFill (s.slots.seq + 1) s.slots.table)
        (fillingEntry (s.slots.seq + 1) (lensSample s) (appliedSet s (s.slots.seq + 1)) e),
      seq := s.slots.seq + 1,
      tracker := { inProgress := some (s.slots.seq + 1, chooseFill (s.slots.seq + 1) s.slots.table), expected := 0,
                   stored := 0, torn := false } },
    exposure := { s.exposure with
      latches := s.exposure.latches ++ [exposureLatchOf (s.slots.seq + 1) s], held := heldAtStart (s.slots.seq + 1) s },
    stats := startMeasuring (s.slots.seq + 1) (statLatchOf s) s.stats,
    steady := latchSteady (s.slots.seq + 1) (appliedSet s (s.slots.seq + 1)).1.xl s.steady,
    lens := markFrameStart now s.lens } := by
  rw [← updAt_eq_set _ he]
  simp only [startFrame, latchExposure_eq]
  rfl

/-- The detectors are reset at a frame start when the line time has changed (R38). -/
theorem startMeasuring_eq (n : BitVec 32) (l : StatLatch) (e : StatEngine) : startMeasuring n l e = { e with
    measuring := some { frame := n, torn := false, latch := l, acc := clearAccumulators l },
    det100 := if l.params.lineTime = e.lineTimeLatched then e.det100 else .reset,
    det120 := if l.params.lineTime = e.lineTimeLatched then e.det120 else .reset,
    lineTimeLatched := l.params.lineTime } := by
  simp only [startMeasuring]
  by_cases h : l.params.lineTime = e.lineTimeLatched
  · simp [h]
  · simp [h]

theorem inFlight_eq (l : LensDrive) (m : Motor) : inFlight l m = l.segment.any (fun g => g.motor == m) := by
  cases h : l.segment <;> simp [inFlight, h]

theorem settledBy_eq (l : LensDrive) (now : Nat) :
    settledBy l now = l.lastFocusEnd.all (fun t => t + l.settleTime ≤ now) := by
  cases h : l.lastFocusEnd <;> simp [settledBy, h]

theorem latchWindow_eq (wq hq : Nat) (w : FocusWindow) : latchWindow wq hq w =
    { rect := w.rect.getD (centreRect wq hq),
      enabled := w.enabled && decide (16 ≤ (w.rect.getD (centreRect wq hq)).width ∧
        16 ≤ (w.rect.getD (centreRect wq hq)).height ∧
        (w.rect.getD (centreRect wq hq)).x + (w.rect.getD (centreRect wq hq)).width ≤ wq ∧
        (w.rect.getD (centreRect wq hq)).y + (w.rect.getD (centreRect wq hq)).height ≤ hq) } := by
  simp [latchWindow, Rect.inside, Bool.and_assoc]

/-- The first write of a frame goes to the chosen slot's base. -/
theorem writeToFrame_startFrame {now addr : Nat} {d : List LinkWord} {s : State} (hd : s.link.hostDown = [])
    (hsize : 16 * d.length < frameSize s) : writeToFrame addr 0 d (startFrame now s) = { startFrame now s with
      link := { s.link with hostDown := [.write (slotBase s (chooseFill (s.slots.seq + 1) s.slots.table)) d] },
      slots := { (startFrame now s).slots with tracker := {
        inProgress := some (s.slots.seq + 1, chooseFill (s.slots.seq + 1) s.slots.table),
        expected := 16 * d.length, stored := addStored 0 (16 * d.length), torn := false } },
      stats := measure 0 d (startFrame now s).stats } := by
  have size : 0 + 16 * d.length < frameSize (startFrame now s) := by simpa [frameSize] using hsize
  have base : ∀ i, slotBase (startFrame now s) i = slotBase s i := fun i => by simp [slotBase]
  rw [writeToFrame_of_some (s := startFrame now s) (congrArg (·.tracker.inProgress) (startFrame_slots s now)),
    writeInFrame_inside size, tornIfOutOfOrder_of_eq (congrArg (·.tracker.expected) (startFrame_slots s now)).symm]
  simp only [storeWords, sendDown, base, Nat.zero_add, Nat.add_zero]
  simp [hd, startFrame_slots]

/-! ## Restart (R12, R17) -/

theorem abandonFrame_eq {s : State} {k : BitVec 32} {j : Nat} {e : Slot}
    (h : s.slots.tracker.inProgress = some (k, j)) (he : s.slots.table[j]? = some e) : abandonFrame s = { s with
      slots := { s.slots with
        table := s.slots.table.set j (abandonedEntry e), tracker := { s.slots.tracker with inProgress := none } },
      stats := abandonMeasurement s.stats, exposure := dropExposureLatch k s.exposure,
      steady := dropSteadyLatch k s.steady } := by
  rw [← updAt_eq_set abandonedEntry he]
  simp only [abandonFrame, h]
  rfl

theorem eq_singleton_of_sorted {l : List Nat} {i : Nat} (hl : l.Pairwise (· < ·)) (h : ∀ k, k ∈ l ↔ k = i) : l = [i] := by
  cases l with
  | nil => exact absurd ((h i).mpr rfl) List.not_mem_nil
  | cons a l =>
    have ha : a = i := (h a).mp (List.mem_cons_self ..)
    subst ha
    have rest : l = [] := List.eq_nil_iff_forall_not_mem.mpr fun k hk => by
      have := (List.pairwise_cons.mp hl).1 k hk
      have := (h k).mp (List.mem_cons_of_mem _ hk)
      omega
    rw [rest]

theorem changedSlots_set {l : List Slot} {j : Nat} {e a : Slot} (he : l[j]? = some e) (ha : e ≠ a) :
    changedSlots l (l.set j a) 0 = [j] := by
  have hj : j < l.length := (List.getElem?_eq_some_iff.mp he).1
  refine eq_singleton_of_sorted (changedSlots_sorted _ _ _) fun k => ?_
  rw [mem_changedSlots, Nat.sub_zero, List.getElem?_set]
  constructor
  · rintro ⟨-, x, y, hx, hy, hxy⟩
    by_contra hk
    rw [if_neg (Ne.symm hk), hx] at hy
    exact hxy (Option.some.inj hy)
  · rintro rfl
    exact ⟨Nat.zero_le _, e, a, he, by simp [hj], ha⟩

theorem addWaiting_singleton (waits : List Nat) (j : Nat) :
    addWaiting waits [j] = if j ∈ waits then waits else waits ++ [j] := by
  by_cases h : j ∈ waits <;> simp [addWaiting, h]

/-- The image writes that wait after a restart: the abandoned slot's, then the new slot's (R17). -/
theorem addWaiting_restart {l : List Slot} {waits : List Nat} {i j : Nat} {x a b : Slot}
    (hi : (l.set j a)[i]? = some x) (hx : i ≠ j → x ≠ b) (hiw : i ∉ waits) :
    addWaiting (waits ++ [j]) (changedSlots l ((l.set j a).set i b) 0) = waits ++ (if i = j then [j] else [j, i]) := by
  have outside : ∀ k, k ≠ i → k ≠ j → ((l.set j a).set i b)[k]? = l[k]? := fun k hki hkj => by
    rw [List.getElem?_set_ne (Ne.symm hki), List.getElem?_set_ne (Ne.symm hkj)]
  have changed : ∀ k ∈ changedSlots l ((l.set j a).set i b) 0, k = i ∨ k = j := fun k hk => by
    obtain ⟨-, u, v, hu, hv, huv⟩ := mem_changedSlots.mp hk
    by_contra hne
    rw [not_or] at hne
    rw [Nat.sub_zero] at hu hv
    rw [outside k hne.1 hne.2, hu] at hv
    exact huv (Option.some.inj hv)
  rw [addWaiting, List.append_assoc]
  congr 1
  by_cases hij : i = j
  · rw [if_pos hij, List.filter_eq_nil_iff.mpr fun k hk => ?_, List.append_nil]
    have : k = j := (changed k hk).elim (fun h => h.trans hij) id
    simp [this]
  · suffices new : (changedSlots l ((l.set j a).set i b) 0).filter (fun k => !(waits ++ [j]).contains k) = [i] by
      rw [if_neg hij, new]; rfl
    refine eq_singleton_of_sorted ((changedSlots_sorted _ _ _).filter _) fun k => ?_
    rw [List.mem_filter]
    constructor
    · rintro ⟨hk, hnot⟩
      exact (changed k hk).resolve_right fun hkj => by simp [hkj] at hnot
    · rintro rfl
      rw [List.getElem?_set_ne (Ne.symm hij)] at hi
      have hk : k < l.length := (List.getElem?_eq_some_iff.mp hi).1
      exact ⟨mem_changedSlots.mpr ⟨Nat.zero_le _, x, b, hi, by simp [hk], hx hij⟩, by simp [hiw, hij]⟩

/-- The state in which a restart's frame starts: the abandoned frame's slot is free and its image write waits. -/
theorem restarted_eq {s : State} {k : BitVec 32} {j addr : Nat} {e : Slot}
    (h : s.slots.tracker.inProgress = some (k, j)) (he : s.slots.table[j]? = some e) (hf : e.state = .filling) :
    raiseFault .captureRestart addr (noteImages s (abandonFrame s)) = { s with
      slots := { s.slots with
        table := s.slots.table.set j (abandonedEntry e), tracker := { s.slots.tracker with inProgress := none },
        imageWaiting := if j ∈ s.slots.imageWaiting then s.slots.imageWaiting else s.slots.imageWaiting ++ [j] },
      stats := abandonMeasurement s.stats, exposure := dropExposureLatch k s.exposure,
      steady := dropSteadyLatch k s.steady,
      report := { s.report with waiting := mergeFault .captureRestart addr s.report.waiting } } := by
  have changed : changedSlots s.slots.table (s.slots.table.set j (abandonedEntry e)) 0 = [j] :=
    changedSlots_set he fun heq => by rw [heq] at hf; cases hf
  rw [abandonFrame_eq h he, ← addWaiting_singleton, ← changed]
  rfl

/-! ## A write out of sequence, and one that reaches past the frame size (R10, R11) -/

/-- A path fault given under a condition. -/
def faultIf (b : Prop) [Decidable b] (c : FaultCause) (addr : Nat) (w : List Report) : List Report :=
  if b then mergeFault c addr w else w

theorem tornIfOutOfOrder_eq (addr off : Nat) (s : State) : tornIfOutOfOrder addr off s = { s with
    slots := { s.slots with tracker := { s.slots.tracker with
      torn := s.slots.tracker.torn || decide (off ≠ s.slots.tracker.expected) } },
    stats := if off = s.slots.tracker.expected then s.stats else tearMeasurement s.stats,
    report := { s.report with
      waiting := faultIf (off ≠ s.slots.tracker.expected) .captureOutOfOrder addr s.report.waiting } } := by
  unfold tornIfOutOfOrder faultIf
  by_cases h : off = s.slots.tracker.expected
  · simp [h]
  · simp [h, tearFrame, raiseFault, State.onReport]

theorem raiseFault_if (b : Prop) [Decidable b] (c : FaultCause) (addr : Nat) (s : State) :
    (if b then raiseFault c addr s else s) =
      { s with report := { s.report with waiting := faultIf b c addr s.report.waiting } } := by
  unfold faultIf
  split <;> rfl

/-! ## Completion (R13) -/

theorem countCompletion_eq (c : SteadyController) : countCompletion c = { c with
    pass := if c.pass.status = .closed then c.pass else { c.pass with completions := min 4 (c.pass.completions + 1) } } := by
  unfold countCompletion
  split
  · rename_i h; rw [if_pos h]
  · rename_i h; rw [if_neg h]; rfl

theorem lensSample_eq (s : State) : lensSample s = if s.lens.mode = .ready ∨ s.lens.mode = .parking
    then { zoom := s.lens.zoom.position, focus := s.lens.focus.position, irisStop := s.lens.iris.position / 8, known := true }
    else { zoom := 0, focus := 0, irisStop := 0, known := false } := by
  simp only [lensSample, lensKnown, Bool.or_eq_true, beq_iff_eq]
  rfl

theorem announcementOf_eq {n : BitVec 32} {i : Nat} {e : Slot} {s : State} (he : s.slots.table[i]? = some e) :
    announcementOf n i s =
      { frame := n, slot := i, outcome := outcomeOf i s.slots.tracker.torn, torn := s.slots.tracker.torn,
        startSample := e.record.startSample, endSample := lensSample s, moving := movedMarks s.lens,
        focusSettled := focusSettled s.lens e.record.startSample (lensSample s) } := by
  simp only [announcementOf, slotAt_of_getElem? he]

theorem completeFrame_eq {n : BitVec 32} {i : Nat} {e : Slot} {s : State} (he : s.slots.table[i]? = some e) :
    completeFrame n i s = { s with
      slots := { s.slots with
        table := s.slots.table.set i (completedEntry (announcementOf n i s) s.slots.tracker.stored e),
        tracker := { s.slots.tracker with inProgress := none } },
      stats := bufferMeasurement s.stats,
      exposure := { s.exposure with work := s.exposure.work ++ [{ notice := announcementOf n i s, stats := none }] },
      focus := { s.focus with work := s.focus.work ++ [{ notice := announcementOf n i s, stats := none }] },
      steady := { s.steady with
        work := s.steady.work ++ [{ notice := announcementOf n i s, stats := none }],
        pass := if s.steady.pass.status = .closed then s.steady.pass
          else { s.steady.pass with completions := min 4 (s.steady.pass.completions + 1) } },
      capture := { s.capture with messages := s.capture.messages ++ [.completion (announcementOf n i s)] },
      report := giveSummary (.frameSummary n i (announcementOf n i s).outcome s.slots.tracker.torn) s.report } := by
  rw [← updAt_eq_set _ he]
  simp only [completeFrame, announce, countCompletion_eq]
  rfl

theorem writeInFrame_completes {n : BitVec 32} {i addr off : Nat} {d : List LinkWord} {s : State}
    (hoff : off < frameSize s) (hmod : (frameSize s - off) % 16 = 0) (hend : frameSize s ≤ off + 16 * d.length) :
    writeInFrame n i addr off d s = completeFrame n i
      (if frameSize s < off + 16 * d.length then raiseFault .captureOverrun addr
        (storeWords i off (d.take ((frameSize s - off) / 16)) (tornIfOutOfOrder addr off s))
       else storeWords i off (d.take ((frameSize s - off) / 16)) (tornIfOutOfOrder addr off s)) := by
  have length : (d.take ((frameSize s - off) / 16)).length = (frameSize s - off) / 16 := by
    rw [List.length_take]; omega
  have past : (frameSize s - off) / 16 < d.length ↔ frameSize s < off + 16 * d.length := by omega
  have full : off + 16 * ((frameSize s - off) / 16) = frameSize s := by omega
  have expected : ∀ (c : Prop) [Decidable c] (u : State),
      (if c then raiseFault .captureOverrun addr u else u).slots = u.slots := fun c _ u => by split <;> simp
  simp only [writeInFrame, length, past, expected, storeWords_slots, full, if_true]
  rfl

/-- The state in which the last write of a frame has been stored, before the frame completes. -/
theorem lastWords_eq {i addr off : Nat} {d : List LinkWord} {s : State} (hd : s.link.hostDown = [])
    (hoff : off < frameSize s) (hmod : (frameSize s - off) % 16 = 0) (hend : frameSize s ≤ off + 16 * d.length)
    (hstored : s.slots.tracker.stored + 16 * (d.take ((frameSize s - off) / 16)).length < 2 ^ 32) :
    (if frameSize s < off + 16 * d.length then raiseFault .captureOverrun addr
        (storeWords i off (d.take ((frameSize s - off) / 16)) (tornIfOutOfOrder addr off s))
      else storeWords i off (d.take ((frameSize s - off) / 16)) (tornIfOutOfOrder addr off s)) = { s with
    link := { s.link with hostDown := [.write (slotBase s i + off) (d.take ((frameSize s - off) / 16))] },
    stats := measure off (d.take ((frameSize s - off) / 16))
      (if off = s.slots.tracker.expected then s.stats else tearMeasurement s.stats),
    slots := { s.slots with tracker := { s.slots.tracker with
      expected := frameSize s, stored := s.slots.tracker.stored + 16 * (d.take ((frameSize s - off) / 16)).length,
      torn := s.slots.tracker.torn || decide (off ≠ s.slots.tracker.expected) } },
    report := { s.report with
      waiting := faultIf (frameSize s < off + 16 * d.length) .captureOverrun addr
        (faultIf (off ≠ s.slots.tracker.expected) .captureOutOfOrder addr s.report.waiting) } } := by
  have full : off + 16 * (d.take ((frameSize s - off) / 16)).length = frameSize s := by
    rw [List.length_take]; omega
  rw [raiseFault_if, tornIfOutOfOrder_eq, storeWords_eq ?down ?stored, full]
  case down => exact hd
  case stored => exact hstored
  rfl

/-- What the completion buffer takes after the last words: the measured frame, or the torn one. -/
theorem bufferMeasurement_lastWords (off : Nat) (d : List LinkWord) (expected : Nat) (e : StatEngine) :
    bufferMeasurement (measure off d (if off = expected then e else tearMeasurement e)) = { e with
      measuring := none,
      buffer := if off = expected then (measure off d e).measuring
        else e.measuring.map (fun m => { m with torn := true }) } := by
  by_cases h : off = expected
  · simp only [h, if_true, measure, bufferMeasurement]
    split
    · split <;> rfl
    · rfl
  · simp only [h, if_false, measure_tearMeasurement]
    rfl

end Sys2Proof.Machine
end

section
/-!
Frames that a write at offset 0 starts or restarts, and frames that a write completes (O28).
-/
namespace Sys2Proof.Machine

theorem addStored_zero {n : Nat} (h : n ≤ 32) : addStored 0 (16 * n) = 16 * n := by
  rw [addStored_of_lt (by omega), Nat.zero_add]

theorem frameStarted_of_none {now addr : Nat} {s : State} (h : s.slots.tracker.inProgress = none) :
    frameStarted now addr s = startFrame now s := by simp [frameStarted, h]

theorem frameStarted_of_some {now addr : Nat} {s : State} {x : BitVec 32 × Nat} (h : s.slots.tracker.inProgress = some x) :
    frameStarted now addr s = startFrame now (raiseFault .captureRestart addr (noteImages s (abandonFrame s))) := by
  simp [frameStarted, h]

theorem chooseFill_lt {n : BitVec 32} {table : List Slot} (h : 0 < table.length) : chooseFill n table < table.length := by
  obtain ⟨-, e, he, -⟩ | ⟨e, he⟩ | hz := chooseFill_cases n table
  · exact (List.getElem?_eq_some_iff.mp he).1
  · exact (List.getElem?_eq_some_iff.mp he.2.1).1
  · rw [hz]; exact h

theorem historyEntry_of_unique {s : State} {n : BitVec 32} {e : ExposureSet} (he : e ∈ s.exposure.history)
    (htag : e.tag = some (n - BitVec.ofNat 32 s.command.config.latency))
    (hone : ∀ e' ∈ s.exposure.history, e'.tag = some (n - BitVec.ofNat 32 s.command.config.latency) → e' = e) :
    historyEntry s n = some e := by
  cases h : historyEntry s n with
  | none => exact absurd htag (by simpa using List.find?_eq_none.mp h e he)
  | some e' =>
    have found := h
    unfold historyEntry at found
    have htag' := List.find?_some found
    rw [hone e' (List.mem_of_find?_eq_some found) (by simpa using htag')]

/-- Settles O28. -/
theorem writesStartAndCompleteFrames : Obligations.WritesStartAndCompleteFrames := by
  refine ⟨fun now s a d p hr h hp hv hbase hlen hsize => ?_, fun s n => ?_,
    fun now s a d p n i e hr h hp hv hin he => ?_⟩
  · have down := (headRequest_some hr).1
    intro n applied moves filling exposureLatch heldRead steadyLatch lens wq hq window latch clear same stats tracker link
    have hheld : heldRead = heldAtStart n s := by
      simp only [heldRead, heldAtStart, lensValues, lensReady, appliedSet]
      split
      · rename_i hm hd hn
        cases hh : historyEntry s n <;> simp_all [Derived.lensValues]
      · rename_i hne
        cases hh : historyEntry s n with
        | some x => rfl
        | none =>
          rw [hh] at hne
          simp only [Option.isNone_none, if_true]
          split
          · exact absurd rfl (hne _ (by simpa using ‹(s.lens.mode == LensMode.ready) = true›) ‹_›)
          · rfl
    have hlens : lens = markFrameStart now s.lens := by
      simp only [lens, moves, markFrameStart, inFlight_eq, settledBy_eq]
    have hlatch : latch = statLatchOf s := by
      have hwindow : window = latchWindow wq hq := funext fun w => (latchWindow_eq wq hq w).symm
      simp only [latch, hwindow, statLatchOf]
      cases s.stats.patterns[s.exposure.params.pattern]? <;> rfl
    have hstats : stats = measure 0 p.data (startMeasuring n (statLatchOf s) s.stats) := by
      rw [startMeasuring_eq, ← hlatch]; rfl
    clear_value heldRead lens stats
    subst hheld hlens hstats
    have out := exec_captureApertureWrite_piece now hr h hp hv
    rw [Nat.sub_eq_zero_of_le hbase.le, captureWrite_start (s := popArrival s) (Nat.lt_of_le_of_lt (Nat.zero_le _) hsize)] at out
    refine ⟨fun e hin => ?_, fun k j e hcons hin he => ?_⟩
    · intro i he
      refine ⟨addStored 0 (16 * p.data.length), fun hlen => addStored_zero hlen, out.trans ?_⟩
      rw [frameStarted_of_none (s := popArrival s) hin, writeToFrame_startFrame (s := popArrival s) down hsize,
        startFrame_eq (s := popArrival s) he]
      rfl
    · intro freed i waits
      have hstate : e.state = .filling := (hcons.filling j e he).mpr ⟨k, hin⟩
      have hi : i < (s.slots.table.set j freed).length := chooseFill_lt (by
        rw [List.length_set]; exact Nat.lt_of_le_of_lt (Nat.zero_le _) (List.getElem?_eq_some_iff.mp he).1)
      obtain ⟨x, hx⟩ : ∃ x, (s.slots.table.set j freed)[i]? = some x := ⟨_, List.getElem?_eq_getElem hi⟩
      rw [frameStarted_of_some (s := popArrival s) hin, restarted_eq (s := popArrival s) hin he hstate,
        writeToFrame_startFrame ?down ?size, startFrame_eq (e := x) hx] at out
      case down => exact down
      case size => exact hsize
      refine ⟨_, x, addStored 0 (16 * p.data.length), out, hx, fun hlen => addStored_zero hlen, rfl, fun hiw hjw => ?_⟩
      have fresh : i ≠ j → x ≠ filling x := fun hij heq => by
        rw [List.getElem?_set_ne (Ne.symm hij)] at hx
        exact hij ((hcons.filling_slot hin hx).mp (congrArg Slot.state heq))
      refine (settle_imageWaiting _ _).trans ((congrArg (addWaiting · _) (if_neg hjw)).trans ?_)
      exact addWaiting_restart hx fresh hiw
  · intro issued al
    refine ⟨fun e he htag hone => ?_, fun hnone => ?_⟩
    · rw [appliedSet, historyEntry_of_unique he htag hone]
    · have hmissing : historyEntry s n = none := List.find?_eq_none.mpr fun e he => by simpa using hnone e he
      have hal : (lensValues s).alOpen = al := by
        simp only [al, lensValues, lensReady]
        by_cases hm : s.lens.mode = .ready
        · cases hd : s.zoom.derived <;> simp [hm, Derived.lensValues]
        · simp [hm]
      rw [appliedSet, hmissing, initialSet, hal]
      rfl
  · intro off size kept hoff hlt hmod hend stored hstored torn outcome raise faults sample moving an item pass
    have down := (headRequest_some hr).1
    have out := exec_captureApertureWrite_piece now hr h hp hv
    rw [captureWrite_inside (s := popArrival s) hlt hoff, writeToFrame_of_some (s := popArrival s) hin,
      writeInFrame_completes (s := popArrival s) hlt hmod hend,
      lastWords_eq (s := popArrival s) down hlt hmod hend hstored, completeFrame_eq ?entry, announcementOf_eq ?entry,
      lensSample_eq, bufferMeasurement_lastWords] at out
    case entry => exact he
    exact out

end Sys2Proof.Machine
end

section
/-!
View aperture reads in a pass: the fetches of a read, and its delivery (R123 to R125).
-/
namespace Sys2Proof.Machine

/-! ## The fetches of a run of view bytes (R123) -/

/-- The downstream reads that cover `n` bytes at `phys`, each with its fetch, the first under tag `d`. -/
def coverFetches (d place phys n : Nat) : List (DownRequest × HostFetch) :=
  let skip := phys % 16
  let words := (skip + n + 15) / 16
  if words ≤ 32 then [(DownRequest.read d (phys - skip) words, newFetch d place skip n)]
  else [(DownRequest.read d (phys - skip) 32, newFetch d place skip (512 - skip)),
        (DownRequest.read (d + 1) (phys - skip + 512) (words - 32),
          newFetch (d + 1) (place + (512 - skip)) 0 (n - (512 - skip)))]

/-- The fetches of `bytes` view bytes from offset `off`, cut where the read crosses a view line. -/
def runFetches (d place bytes : Nat) (g : PassGeometry) (off : Nat) : List (DownRequest × HostFetch) :=
  let n := min bytes (g.size - off)
  let first := min n (g.pitch - off % g.pitch)
  let head := coverFetches d place (viewAddress g off) first
  if first = n then head
  else head ++ coverFetches (d + head.length) (place + first) (viewAddress g (off + first)) (n - first)

/-- The entry of a read with more fetches. -/
def ReadEntry.fetching (e : ReadEntry) (l : List (DownRequest × HostFetch)) : ReadEntry :=
  { e with fetches := e.fetches ++ l.map (·.2) }

/-- The state with fetches added for the read `e` that stands behind the reads `m`. -/
def fetchedFor (m : List ReadEntry) (e : ReadEntry) (l : List (DownRequest × HostFetch)) (s : State) : State :=
  { s with link := { s.link with hostDown := s.link.hostDown ++ l.map (·.1), readMap := m ++ [e.fetching l] } }

section
variable {s : State} {m : List ReadEntry} {e : ReadEntry}

theorem fetchedFor_handles (h : Handles s m e) (l : List (DownRequest × HostFetch)) :
    Handles (fetchedFor m e l s) m (e.fetching l) := ⟨rfl, h.fresh⟩

theorem fetchedFor_append (l l' : List (DownRequest × HostFetch)) :
    fetchedFor m (e.fetching l) l' (fetchedFor m e l s) = fetchedFor m e (l ++ l') s := by
  simp [fetchedFor, ReadEntry.fetching]

theorem Handles.fetchRun (h : Handles s m e) (place phys n : Nat) : fetchRun e.tag place phys n s =
    fetchedFor m e (coverFetches (4 * e.tag + e.fetches.length) place phys n) s := by
  simp only [Machine.fetchRun, coverFetches]
  by_cases hw : (phys % 16 + n + 15) / 16 ≤ 32
  · rw [if_pos hw, if_pos (show _ ≤ Config.maxWords from hw), h.addFetch]
    rfl
  · rw [if_neg hw, if_neg (show ¬ _ ≤ Config.maxWords from hw)]
    refine ((h.addFetch_handles _ _ _ _ _).addFetch _ _ _ _ _).trans ?_
    rw [h.addFetch]
    simp [fetchedFor, ReadEntry.fetching, newFetch, Config.maxWords, Nat.add_assoc]

theorem Handles.foldl_fetchRun (h : Handles s m e) (he : e.fetches = []) (place bytes off : Nat) (g : PassGeometry) :
    (viewRuns g off (min bytes (g.size - off))).foldl (fun s r => Machine.fetchRun e.tag (place + r.1) r.2.1 r.2.2 s) s =
      fetchedFor m e (runFetches (4 * e.tag) place bytes g off) s := by
  have first := h.fetchRun place (viewAddress g off)
  simp only [he, List.length_nil, Nat.add_zero] at first
  simp only [viewRuns, runFetches]
  split
  · rename_i hall
    rw [List.foldl_cons, List.foldl_nil]
    exact (first _).trans (by rw [hall])
  · rw [List.foldl_cons, List.foldl_cons, List.foldl_nil, Nat.add_zero, first]
    refine ((fetchedFor_handles h _).fetchRun _ _ _).trans ?_
    rw [fetchedFor_append]
    simp [ReadEntry.fetching, he]

/-- A read waits while one of its fetches is outstanding. -/
theorem runFetches_waits (he : e.fetches = []) (d place bytes off : Nat) (g : PassGeometry) :
    (e.fetching (runFetches d place bytes g off)).ready = false := by
  have cover : ∀ d place phys n, ((coverFetches d place phys n).map (·.2)).all (·.returned) = false := by
    intro d place phys n
    simp only [coverFetches]
    split <;> rfl
  simp only [ReadEntry.ready, ReadEntry.fetching, he, List.nil_append, runFetches]
  split
  · exact cover _ _ _ _
  · rw [List.map_append, List.all_append, cover, Bool.false_and]

end

end Sys2Proof.Machine
end

section
/-!
View aperture reads: the marks a read leaves, the read in a pass, and the pass a read opens (R121 to R125).
-/
namespace Sys2Proof.Machine

/-! ## The marks of a read (R123) -/

/-- The pass after a read at `off`: line 0 is left by one that starts in another line. -/
def passLeft (off : Nat) (p : ViewPass) : ViewPass :=
  { p with leftLineZero := p.leftLineZero || decide (p.geometry.pitch ≤ off) }

/-- The entry of a read of `n` bytes at `off`: marked with the pass when it reaches the last view byte. -/
def markedEntry (off n : Nat) (p : ViewPass) (e : ReadEntry) : ReadEntry :=
  { e with pass := if p.geometry.size ≤ off + n then some p.number else e.pass }

/-- The state of a read that is handled in a pass, before its fetches. -/
def markedRead (off n : Nat) (m : List ReadEntry) (e : ReadEntry) (s : State) : State :=
  { s with link := { s.link with readMap := m ++ [markedEntry off n s.steady.pass e] },
           steady := { s.steady with pass := passLeft off s.steady.pass } }

section
variable {s : State} {m : List ReadEntry} {e : ReadEntry}

theorem Handles.of_link {t : State} (h : Handles s m e) (ht : t.link = s.link) : Handles t m e := ⟨ht ▸ h.map, h.fresh⟩

theorem Handles.markViewRead (h : Handles s m e) (off n : Nat) : markViewRead e.tag off n s = markedRead off n m e s := by
  have left : (if s.steady.pass.geometry.pitch ≤ off then
      s.onSteady (fun c => { c with pass := { c.pass with leftLineZero := true } }) else s) =
      { s with steady := { s.steady with pass := passLeft off s.steady.pass } } := by
    by_cases hp : s.steady.pass.geometry.pitch ≤ off
    · simp [passLeft, hp, State.onSteady]
    · simp [passLeft, hp]
  simp only [Machine.markViewRead, left]
  have same : Handles { s with steady := { s.steady with pass := passLeft off s.steady.pass } } m e := ⟨h.map, h.fresh⟩
  by_cases hs : s.steady.pass.geometry.size ≤ off + n
  · rw [if_pos hs, same.onEntry]
    simp [markedRead, markedEntry, hs, passLeft]
  · simp [markedRead, markedEntry, hs, ← h.map]

theorem markedRead_handles (h : Handles s m e) (off n : Nat) :
    Handles (markedRead off n m e s) m (markedEntry off n s.steady.pass e) := ⟨rfl, h.fresh⟩

/-! ## A read in a pass, with its delivery (R123 to R125) -/

/-- A read in an OPEN pass fetches its bytes. -/
theorem Handles.readInPass_opened (h : Handles s m e) (he : e.fetches = []) (hp : s.steady.pass.status = .opened)
    (place off n : Nat) : deliverTag e.tag (readInPass e.tag place off n s) =
      fetchedFor m (markedEntry off n s.steady.pass e) (runFetches (4 * e.tag) place n s.steady.pass.geometry off)
        (markedRead off n m e s) := by
  have status : (markedRead off n m e s).steady.pass.status = .opened := hp
  have fetches : (markedEntry off n s.steady.pass e).fetches = [] := he
  have marked := markedRead_handles h off n
  simp only [readInPass, h.markViewRead, status]
  refine (congrArg (deliverTag e.tag) (marked.foldl_fetchRun fetches place n off s.steady.pass.geometry)).trans ?_
  exact (fetchedFor_handles marked _).waits (runFetches_waits fetches _ _ _ _ _)

theorem Handles.readInPass_blank (h : Handles s m e) (he : e.fetches = []) (hp : s.steady.pass.status = .blank)
    (place off n : Nat) : deliverTag e.tag (readInPass e.tag place off n s) =
      passDelivered (markedEntry off n s.steady.pass e).pass { markedRead off n m e s with link := { s.link with
        readMap := m, delivered := { tag := e.tag, error := e.error, bytes := e.bytes } :: s.link.delivered } } := by
  have status : (markedRead off n m e s).steady.pass.status = .blank := hp
  simp only [readInPass, h.markViewRead, status]
  refine ((markedRead_handles h off n).deliver ?_).trans rfl
  simp [ReadEntry.ready, markedEntry, he]

end

/-- A BLANK pass closes without an unpin. -/
theorem passDelivered_blank {s : State} (hp : s.steady.pass.status = .blank) (hn : s.steady.pass.pinned = none) :
    passDelivered (some s.steady.pass.number) s = { s with steady := { s.steady with
      pass := { s.steady.pass with status := .closed, completions := 0 } } } := by
  simp [passDelivered, closePass, hp, hn, State.onSteady]

/-! ## The read that is taken (R121 to R124) -/

/-- The link after a view read whose bytes are fetched. -/
def linkFetched (s : State) (tag k : Nat) (mark : Option (BitVec 16)) (l : List (DownRequest × HostFetch)) : PassThrough :=
  { s.link with
    arrival := s.link.arrival.tail, hostDown := l.map (·.1),
    readMap := s.link.readMap ++ [{ tag := tag, bytes := List.replicate (16 * k) 0, fetches := l.map (·.2),
                                    error := false, pass := mark }] }

/-- The link after a view read that is answered with zeros. -/
def linkZeros (s : State) (tag k : Nat) : PassThrough :=
  { s.link with
    arrival := s.link.arrival.tail,
    delivered := { tag := tag, error := false, bytes := List.replicate (16 * k) 0 } :: s.link.delivered }

section
variable {s t : State} {tag : BitVec 6} {a : BitVec 32} {k : Nat} (place off n : Nat)

theorem deliver_opened (hr : headRequest s = some (.read tag a k)) (ht : t.link = (readTaken tag.toNat k s).link)
    (hp : t.steady.pass.status = .opened) : deliverTag tag.toNat (readInPass tag.toNat place off n t) = { t with
      link := linkFetched s tag.toNat k (if t.steady.pass.geometry.size ≤ off + n then some t.steady.pass.number else none)
        (runFetches (4 * tag.toNat) place n t.steady.pass.geometry off),
      steady := { t.steady with pass := passLeft off t.steady.pass } } := by
  have handles := (readTaken_handles hr).of_link ht
  have down : t.link.hostDown = [] := by rw [ht]; exact (headRequest_some hr).1
  refine (handles.readInPass_opened rfl hp place off n).trans ?_
  simp only [fetchedFor, markedRead, down, List.nil_append]
  rw [ht]
  rfl

theorem deliver_blank (hr : headRequest s = some (.read tag a k)) (ht : t.link = (readTaken tag.toNat k s).link)
    (hp : t.steady.pass.status = .blank) (hend : off + n < t.steady.pass.geometry.size) :
    deliverTag tag.toNat (readInPass tag.toNat place off n t) = { t with
      link := linkZeros s tag.toNat k, steady := { t.steady with pass := passLeft off t.steady.pass } } := by
  have handles := (readTaken_handles hr).of_link ht
  refine (handles.readInPass_blank rfl hp place off n).trans ?_
  simp only [markedEntry, if_neg (Nat.not_le.mpr hend)]
  rw [ht]
  rfl

theorem deliver_blank_last (hr : headRequest s = some (.read tag a k)) (ht : t.link = (readTaken tag.toNat k s).link)
    (hp : t.steady.pass.status = .blank) (hn : t.steady.pass.pinned = none) (hend : t.steady.pass.geometry.size ≤ off + n) :
    deliverTag tag.toNat (readInPass tag.toNat place off n t) = { t with
      link := linkZeros s tag.toNat k, steady := { t.steady with
        pass := { passLeft off t.steady.pass with status := .closed, completions := 0 } } } := by
  have handles := (readTaken_handles hr).of_link ht
  refine (handles.readInPass_blank rfl hp place off n).trans ?_
  simp only [markedEntry, if_pos hend]
  rw [ht]
  exact passDelivered_blank hp hn

end

end Sys2Proof.Machine
end

section
/-!
The pass a view read opens (R121, R122, R125, R169) (O31).
-/
namespace Sys2Proof.Machine

/-! ## Pins do not change what can be shown (R3, R122) -/

theorem updAt_eq_modify {α : Type} (f : α → α) (l : List α) (i : Nat) : updAt f l i = l.modify i f := by
  refine List.ext_getElem? fun j => ?_
  rw [getElem?_updAt, List.getElem?_modify]
  by_cases h : j = i
  · simp [h]
  · simp [h, Ne.symm h]

/-- Two states agree on what the view source reads, up to pins. -/
structure SameShown (s t : State) : Prop where
  rows : t.slots.table.map (fun e => { e with pins := 0 }) = s.slots.table.map (fun e => { e with pins := 0 })
  seq : t.slots.seq = s.slots.seq
  source : t.steady.source = s.steady.source

section
variable {s t : State}

theorem SameShown.length (h : SameShown s t) : t.slots.table.length = s.slots.table.length := by
  simpa using congrArg List.length h.rows

theorem SameShown.slotAt (h : SameShown s t) (i : Nat) :
    { slotAt t i with pins := 0 } = { slotAt s i with pins := 0 } := by
  have row := congrArg (fun l => l[i]?) h.rows
  simp only [List.getElem?_map] at row
  simp only [Machine.slotAt, getAt_eq]
  cases ht : t.slots.table[i]? <;> cases hs : s.slots.table[i]? <;> simp_all

theorem SameShown.slot_fields (h : SameShown s t) (i : Nat) : (Machine.slotAt t i).state = (Machine.slotAt s i).state ∧
    (Machine.slotAt t i).record = (Machine.slotAt s i).record ∧
    (Machine.slotAt t i).recordFrame = (Machine.slotAt s i).recordFrame := by
  have row := h.slotAt i
  simp only [Slot.mk.injEq] at row
  simp [row]

theorem SameShown.showable (h : SameShown s t) (i : Nat) : Machine.showable t i = Machine.showable s i := by
  simp only [Machine.showable, h.length, (h.slot_fields i).1]

theorem SameShown.resolveSource (h : SameShown s t) : Machine.resolveSource t = Machine.resolveSource s := by
  have live : liveSlot t = liveSlot s := by
    simp only [liveSlot, h.length, h.seq, h.showable, (h.slot_fields _).2.1, (h.slot_fields _).2.2]
  simp only [Machine.resolveSource, h.source, live, h.showable]

end

/-- A fold that at each step keeps its value or takes the element ends with an element of the list. -/
theorem foldl_pick_mem {α : Type} {f : Option α → α → Option α} (hf : ∀ acc x, f acc x = some x ∨ f acc x = acc)
    {l : List α} {acc : Option α} {b : α} (h : l.foldl f acc = some b) : acc = some b ∨ b ∈ l := by
  induction l generalizing acc with
  | nil => exact .inl h
  | cons x l ih =>
    rcases ih h with hacc | hl
    · rcases hf acc x with hx | hx
      · rw [hx] at hacc; cases hacc; exact .inr (List.mem_cons_self ..)
      · exact .inl (hx.symm.trans hacc)
    · exact .inr (List.mem_cons_of_mem _ hl)

theorem liveSlot_showable {s : State} {n : Nat} (h : liveSlot s = some n) : showable s n = true := by
  rw [liveSlot] at h
  have listed := (foldl_pick_mem (fun acc i => ?_) h).resolve_left nofun
  · have shown := (List.mem_filter.mp listed).2
    rw [Bool.and_eq_true] at shown
    exact shown.1
  · cases acc with
    | none => exact .inl rfl
    | some b => dsimp only; split <;> simp

theorem resolveSource_showable {s : State} {n : Nat} (h : resolveSource s = some n) : showable s n = true := by
  unfold resolveSource at h
  split at h
  · exact liveSlot_showable h
  · split at h
    · cases h; assumption
    · cases h

/-! ## The pass that closes (R17, R125, R169) -/

/-- The slot whose pin is given back when a read opens a new pass. -/
def closingSlot (p : ViewPass) : Option Nat := if p.status = .closed then none else p.pinned

/-- The unpin of a slot (R3). -/
def unpinned (e : Slot) : Slot := { e with pins := e.pins - 1 }

/-- The image write of an unpinned slot waits when its pin count falls (R17). -/
theorem addWaiting_unpinned (table : List Slot) (waits : List Nat) (old : Nat)
    [Decidable ((∃ e, table[old]? = some e ∧ 1 ≤ e.pins) ∧ old ∉ waits)] :
    addWaiting waits (changedSlots table (table.modify old unpinned) 0) =
      if (∃ e, table[old]? = some e ∧ 1 ≤ e.pins) ∧ old ∉ waits then waits ++ [old] else waits := by
  by_cases hpin : ∃ e, table[old]? = some e ∧ 1 ≤ e.pins
  · obtain ⟨e, he, hp⟩ := hpin
    have changed : changedSlots table (table.modify old unpinned) 0 = [old] := by
      rw [← updAt_eq_modify, updAt_eq_set _ he]
      exact changedSlots_set he fun heq => by
        have pins : e.pins = e.pins - 1 := congrArg Slot.pins heq
        omega
    rw [changed, addWaiting_singleton]
    by_cases hw : old ∈ waits
    · rw [if_pos hw, if_neg fun h => h.2 hw]
    · rw [if_neg hw, if_pos ⟨⟨e, he, hp⟩, hw⟩]
  · rw [if_neg fun h => hpin h.1]
    suffices same : changedSlots table (table.modify old unpinned) 0 = [] by simp [same, addWaiting]
    refine List.eq_nil_iff_forall_not_mem.mpr fun i hi => ?_
    obtain ⟨-, x, y, hx, hy, hxy⟩ := mem_changedSlots.mp hi
    rw [Nat.sub_zero] at hx hy
    rw [List.getElem?_modify, hx] at hy
    by_cases hio : old = i
    · subst hio
      have zero : x.pins = 0 := by
        by_contra hne
        exact hpin ⟨x, hx, Nat.one_le_iff_ne_zero.mpr hne⟩
      have same : unpinned x = x := by cases x; simp_all [unpinned]
      simp [same] at hy
      exact hxy hy
    · simp [hio] at hy
      exact hxy hy

/-- The Status Block shows the pass state. -/
theorem statusFields_pass (s : State) : (statusFields s)[44]? = some ⟨0x87, 1, passCode s.steady.pass.status⟩ := rfl

/-- A change of the pass state makes a Status Block write wait (R169). -/
theorem noteStatus_of_pass {b s : State} (h : s.report.statusWaiting = true ∨ s.steady.pass.status ≠ b.steady.pass.status) :
    noteStatus b s = { s with report := { s.report with statusWaiting := true } } := by
  suffices waits : (s.report.statusWaiting || (statusFields b != statusFields s)) = true by rw [noteStatus, waits]
  rcases h with h | h
  · rw [h, Bool.true_or]
  · have differ : statusFields b ≠ statusFields s := fun heq => by
      have fields := congrArg (fun l => l[44]?) heq
      simp only [statusFields_pass, Option.some.injEq, Field.mk.injEq] at fields
      revert h
      cases hs : s.steady.pass.status <;> cases hb : b.steady.pass.status <;> simp_all [passCode]
    simp [differ]

theorem noteStatus_self (s : State) : noteStatus s s = s := by simp [noteStatus]

/-! ## The pass that closes when a read opens a new one (R17, R125, R169) -/

/-- The state after the pass in force has closed for a new one, with the unpin taken and its image write noted. -/
def passClosed (s : State) : State :=
  let old := closingSlot s.steady.pass
  let table := match old with
    | some i => s.slots.table.modify i unpinned
    | none => s.slots.table
  { s with
    slots := { s.slots with
      table := table, imageWaiting := addWaiting s.slots.imageWaiting (changedSlots s.slots.table table 0) },
    steady := { s.steady with pass := if s.steady.pass.status = .closed then s.steady.pass
      else { s.steady.pass with status := .closed, pinned := none, completions := 0 } },
    report := { s.report with statusWaiting := s.report.statusWaiting || decide (s.steady.pass.status ≠ .closed) } }

theorem changedSlots_self (l : List Slot) (k : Nat) : changedSlots l l k = [] := by
  induction l generalizing k with
  | nil => rfl
  | cons a l ih => simp [changedSlots, ih]

theorem addWaiting_nil (w : List Nat) : addWaiting w [] = w := by simp [addWaiting]

theorem closePass_eq {s : State} (hc : s.steady.pass.status ≠ .closed) : closePass s = { s with
    slots := { s.slots with pinMessages := s.slots.pinMessages ++ s.steady.pass.pinned.toList.map .unpin },
    steady := { s.steady with pass := { s.steady.pass with status := .closed, pinned := none, completions := 0 } } } := by
  cases hp : s.steady.pass.pinned with
  | none =>
    simp only [closePass, hp]
    simp [State.onSteady]
  | some old =>
    simp only [closePass, hp]
    simp [State.onSteady, sendPin]

/-- The unpin that a closed pass sent is taken before the open chain (R121). -/
theorem flushPins_closed {s : State} (hm : s.slots.pinMessages = []) (hc : s.steady.pass.status ≠ .closed) :
    flushPins (2 * (noteStatus s (closePass s)).slots.pinMessages.length) (noteStatus s (closePass s)) = passClosed s := by
  have noted : noteStatus s (closePass s) =
      { closePass s with report := { s.report with statusWaiting := true } } := by
    rw [noteStatus_of_pass (.inr ?_), closePass_eq hc]
    rw [closePass_eq hc]
    exact fun h => hc h.symm
  rw [noted, closePass_eq hc, hm]
  cases hp : s.steady.pass.pinned with
  | none => simp [flushPins, passClosed, closingSlot, hc, hp, changedSlots_self, addWaiting_nil, hm]
  | some old =>
    have unpin : ∀ u : State, unpinSlot old u = u.onSlot old unpinned := fun _ => rfl
    simp [flushPins, passClosed, closingSlot, hc, hp, hm, takePinMessage, popPin, unpin, State.onSlot, noteImages,
      updAt_eq_modify]

theorem passForRead_opens {addr off : Nat} {s : State} (hm : s.slots.pinMessages = [])
    (h : s.steady.pass.status = .closed ∨ (s.steady.pass.leftLineZero = true ∧ off < s.steady.pass.geometry.pitch)) :
    passForRead addr off s = openChain addr (passClosed s) := by
  by_cases hc : s.steady.pass.status = .closed
  · have closed : passClosed s = s := by
      simp [passClosed, closingSlot, hc, changedSlots_self, addWaiting_nil]
    simp only [passForRead, hc, closed, hm]
    rfl
  · obtain ⟨hleft, hoff⟩ := h.resolve_left hc
    rw [← flushPins_closed hm hc]
    unfold passForRead
    split
    · contradiction
    · rw [if_pos (by simp [hleft, hoff])]

/-! ## The pass that opens (R121, R122) -/

theorem passClosed_sameShown (s : State) : SameShown s (passClosed s) := by
  refine ⟨?_, rfl, rfl⟩
  simp only [passClosed]
  split
  · rename_i i _
    refine List.ext_getElem? fun j => ?_
    simp only [List.getElem?_map, List.getElem?_modify]
    by_cases hij : i = j
    · simp only [if_pos hij]
      cases s.slots.table[j]? <;> rfl
    · simp only [if_neg hij]
      cases s.slots.table[j]? <;> rfl
  · rfl

/-- A pass with the state, the pin and the geometry it opens with. -/
def passOpened (st : PassStatus) (pinned : Option Nat) (g : PassGeometry) (p : ViewPass) : ViewPass :=
  { status := st, pinned := pinned, geometry := g, completions := 0, leftLineZero := false, number := p.number + 1 }

theorem openChain_blank {addr : Nat} {s : State} (h : resolveSource s = none) : openChain addr s = { s with
    steady := { s.steady with pass := passOpened .blank none (presentGeometry s) s.steady.pass },
    report := { s.report with waiting := mergeFault .viewNoFrame addr s.report.waiting } } := by
  rw [openChain, h]; rfl

theorem latchedOffset_eq (mx my : Nat) (r : FrameRecord) : latchedOffset mx my r =
    ((r.steady.map (fun f => max (-(mx : Int)) (min mx f.ox))).getD 0,
     (r.steady.map (fun f => max (-(my : Int)) (min my f.oy))).getD 0) := by
  have clamp : ∀ (m : Nat) (x : Int), clampInt (-(m : Int)) m x = max (-(m : Int)) (min m x) := fun m x => by
    simp only [clampInt]; omega
  cases hr : r.steady <;> simp [latchedOffset, hr, clamp]

/-- The geometry of a pass that opens on slot `n`, whose record holds the offset (R122). -/
def shownGeometry (s : State) (n : Nat) (r : FrameRecord) : PassGeometry :=
  { presentGeometry s with slotBase := slotBase s n,
                           ox := (r.steady.map (fun f => max (-(s.steady.mx : Int)) (min s.steady.mx f.ox))).getD 0,
                           oy := (r.steady.map (fun f => max (-(s.steady.my : Int)) (min s.steady.my f.oy))).getD 0 }

theorem openChain_opened {addr n : Nat} {s : State} (h : resolveSource s = some n) : openChain addr s = { s with
    slots := { s.slots with table := s.slots.table.modify n (fun e => { e with pins := e.pins + 1 }) },
    steady := { s.steady with
      pass := passOpened .opened (some n) (shownGeometry s n (slotAt s n).record) s.steady.pass } } := by
  have pin : pinSlot n s = some (s.onSlot n (fun e => { e with pins := e.pins + 1 })) :=
    if_pos (resolveSource_showable h)
  rw [← updAt_eq_modify, openChain, h]
  simp only [pin, latchedOffset_eq]
  rfl

end Sys2Proof.Machine
end

section
/-!
View aperture reads in VIEW (O31).
-/
namespace Sys2Proof.Machine

/-- The state in which a read finds its pass: VIEW_BEYOND waits when the read ends beyond the view size (R124). -/
def beyondRaised (addr off n : Nat) (s : State) : State :=
  { s with report := if (viewGeometry s).size < off + n
      then { s.report with waiting := mergeFault .viewBeyond addr s.report.waiting } else s.report }

theorem viewRead_inside {tag off : Nat} {p : Piece} {s : State} (hg : s.steady.geometryValid = true)
    (h : off < (viewGeometry s).size) : viewRead tag off p s = readInPass tag p.place off (16 * p.words)
      (noteStatus (beyondRaised p.addr off (16 * p.words) s) (passForRead p.addr off (beyondRaised p.addr off (16 * p.words) s))) := by
  have raised : (if (viewGeometry s).size < off + 16 * p.words then raiseFault .viewBeyond p.addr s else s) =
      beyondRaised p.addr off (16 * p.words) s := by
    unfold beyondRaised
    split <;> rfl
  simp only [viewRead, hg, Nat.not_le.mpr h, raised]
  rfl

theorem viewRead_without_geometry {tag off : Nat} {p : Piece} {s : State} (hg : s.steady.geometryValid = false) :
    viewRead tag off p s = raiseFault .viewNoView p.addr s := by
  simp only [viewRead, hg]; rfl

theorem viewRead_beyond {tag off : Nat} {p : Piece} {s : State} (hg : s.steady.geometryValid = true)
    (h : (viewGeometry s).size ≤ off) : viewRead tag off p s = raiseFault .viewBeyond p.addr s := by
  simp only [viewRead, hg, h]; rfl

theorem readPiece_view {s : State} {tag : BitVec 6} {n : Nat} {p : Piece} (hp : p.region = .view)
    (hv : s.command.mode = .view) : readPiece tag.toNat (readTaken tag.toNat n s) p =
      viewRead tag.toNat (p.addr - s.command.config.viewBase) p (readTaken tag.toNat n s) := by
  have mode : (readTaken tag.toNat n s).command.mode = .view := hv
  rw [readPiece, hp]
  simp only [viewPieceRead, mode]
  rfl

theorem exec_viewApertureRead_of_head {s : State} {tag : BitVec 6} {a : BitVec 32} {n : Nat} {p : Piece}
    (hr : headRequest s = some (.read tag a n)) (h : requestPieces s (.read tag a n) = [p]) (hp : p.region = .view) :
    exec .viewApertureRead s = .next (settle s (takeRequest 0 (.read tag a n) s)) :=
  takeHeadIf_of_head (kind := fun s r => !isWrite r && reaches .view s r) hr (by simp [isWrite, reaches_of_piece h, hp])

theorem viewGeometry_of_pass {s : State} (h : s.steady.pass.status ≠ .closed) :
    viewGeometry s = s.steady.pass.geometry := by
  unfold viewGeometry
  split
  · contradiction
  · rfl

theorem passForRead_stays {addr off : Nat} {s : State} (h : s.steady.pass.status ≠ .closed)
    (hleft : s.steady.pass.leftLineZero = false ∨ s.steady.pass.geometry.pitch ≤ off) : passForRead addr off s = s := by
  unfold passForRead
  split
  · contradiction
  · refine if_neg ?_
    rcases hleft with hl | hl <;> simp [hl]

/-- A read that stays in the pass in force. -/
theorem viewRead_in_pass {tag off : Nat} {p : Piece} {s : State} (hg : s.steady.geometryValid = true)
    (hp : s.steady.pass.status ≠ .closed) (h : off < s.steady.pass.geometry.size)
    (hleft : s.steady.pass.leftLineZero = false ∨ s.steady.pass.geometry.pitch ≤ off) :
    viewRead tag off p s = readInPass tag p.place off (16 * p.words) (beyondRaised p.addr off (16 * p.words) s) := by
  rw [viewRead_inside hg (by rwa [viewGeometry_of_pass hp]),
    passForRead_stays (s := beyondRaised p.addr off (16 * p.words) s) hp hleft, noteStatus_self]

/-- A read that opens a pass: the old one closes, the open chain runs, and a Status Block write waits. -/
theorem viewRead_opens {tag off : Nat} {p : Piece} {s : State} (hg : s.steady.geometryValid = true)
    (h : off < (viewGeometry s).size) (hm : s.slots.pinMessages = [])
    (hopens : s.steady.pass.status = .closed ∨ (s.steady.pass.leftLineZero = true ∧ off < s.steady.pass.geometry.pitch))
    {t : State} (ht : openChain p.addr (passClosed (beyondRaised p.addr off (16 * p.words) s)) = t)
    (hopen : t.steady.pass.status ≠ .closed)
    (hwaits : t.report.statusWaiting = (passClosed (beyondRaised p.addr off (16 * p.words) s)).report.statusWaiting) :
    viewRead tag off p s = readInPass tag p.place off (16 * p.words)
      { t with report := { t.report with statusWaiting := true } } := by
  rw [viewRead_inside hg h, passForRead_opens (s := beyondRaised p.addr off (16 * p.words) s) hm hopens, ht,
    noteStatus_of_pass]
  by_cases hc : s.steady.pass.status = .closed
  · exact .inr fun heq => hopen (heq.trans hc)
  · refine .inl (hwaits.trans ?_)
    simp [passClosed, beyondRaised, hc]

theorem passOpened_passClosed (st : PassStatus) (pinned : Option Nat) (g : PassGeometry) (s : State) :
    passOpened st pinned g (passClosed s).steady.pass = passOpened st pinned g s.steady.pass := by
  simp only [passClosed]
  split <;> rfl

/-- Settles O31. -/
theorem viewReadsAreTranslatedInAPass : Obligations.ViewReadsAreTranslatedInAPass := by
  intro s tag a k p hr h hp hv
  have out := exec_viewApertureRead_of_head hr h hp
  refine ⟨fun hg => ?_, fun hg hoff => ?_, ?_, ?_, ?_⟩
  · rw [takeRequest_read_zeros hr h ((readPiece_view hp hv).trans
      (viewRead_without_geometry (s := readTaken tag.toNat k s) hg)) rfl] at out
    exact out
  · rw [takeRequest_read_zeros hr h ((readPiece_view hp hv).trans
      (viewRead_beyond (s := readTaken tag.toNat k s) hg hoff)) rfl] at out
    exact out
  all_goals rw [takeRequest_read_piece h, readPiece_view hp hv] at out
  · rintro g hg hopen rfl hoff hleft h1 h32
    rw [viewRead_in_pass (s := readTaken tag.toNat k s) hg hopen hoff hleft] at out
    have view : viewGeometry (readTaken tag.toNat k s) = s.steady.pass.geometry := viewGeometry_of_pass hopen
    have delivered := fun hst => deliver_opened (t := beyondRaised p.addr (p.addr - s.command.config.viewBase) (16 * p.words) (readTaken tag.toNat k s))
      p.place (p.addr - s.command.config.viewBase) (16 * p.words) hr rfl hst
    refine ⟨fun hst => ?_, fun hst hend => ?_⟩
    · rw [delivered hst, beyondRaised, view] at out
      exact out
    · rw [deliver_blank (t := beyondRaised p.addr (p.addr - s.command.config.viewBase) (16 * p.words) (readTaken tag.toNat k s))
        p.place (p.addr - s.command.config.viewBase) (16 * p.words) hr rfl hst hend, beyondRaised, view] at out
      exact out
  · rintro g hg hblank hpin rfl hoff hend hleft
    have hopen : s.steady.pass.status ≠ .closed := by simp [hblank]
    have view : viewGeometry (readTaken tag.toNat k s) = s.steady.pass.geometry := viewGeometry_of_pass hopen
    rw [viewRead_in_pass (s := readTaken tag.toNat k s) hg hopen hoff hleft] at out
    rw [deliver_blank_last (t := beyondRaised p.addr (p.addr - s.command.config.viewBase) (16 * p.words) (readTaken tag.toNat k s))
        p.place (p.addr - s.command.config.viewBase) (16 * p.words) hr rfl hblank hpin hend, beyondRaised, view] at out
    exact out
  · intro hg hoff hm hopens waits closing table noted present opened beyond
    have same := passClosed_sameShown (beyondRaised p.addr (p.addr - s.command.config.viewBase) (16 * p.words)
      (readTaken tag.toNat k s))
    have hnoted : addWaiting waits (changedSlots s.slots.table table 0) = noted := by
      cases hc : closing with
      | none => simp only [table, noted, hc, changedSlots_self, addWaiting_nil]
      | some old => simp only [table, noted, hc]; exact addWaiting_unpinned _ _ _
    refine ⟨fun hsrc => ?_, fun n e hsrc he => ?_⟩
    · rw [viewRead_opens (s := readTaken tag.toNat k s) hg hoff hm hopens (openChain_blank (same.resolveSource.trans hsrc))
        nofun rfl, passOpened_passClosed] at out
      rw [← hnoted]
      by_cases hend : present.size ≤ p.addr - s.command.config.viewBase + 16 * p.words
      · rw [deliver_blank_last _ _ _ hr ?link ?blank ?pin ?last] at out
        case link => rfl
        case blank => rfl
        case pin => rfl
        case last => exact hend
        rw [if_pos hend]
        exact out
      · rw [deliver_blank _ _ _ hr ?link ?blank ?last] at out
        case link => rfl
        case blank => rfl
        case last => exact Nat.lt_of_not_le hend
        rw [if_neg hend]
        exact out
    · have entry : slotAt (beyondRaised p.addr (p.addr - s.command.config.viewBase) (16 * p.words)
          (readTaken tag.toNat k s)) n = e := slotAt_of_getElem? he
      rw [viewRead_opens (s := readTaken tag.toNat k s) hg hoff hm hopens (openChain_opened (same.resolveSource.trans hsrc))
        nofun rfl, passOpened_passClosed, (same.slot_fields n).2.1, entry] at out
      rw [← hnoted]
      rw [deliver_opened _ _ _ hr ?link ?opened] at out
      case link => rfl
      case opened => rfl
      exact out

end Sys2Proof.Machine
end

section
/-!
CONFIGURE FRAME (R155, R156) with what the blocks do on a new layout and a new size (R18, R39, R114, R128) (O15).
-/
namespace Sys2Proof.Machine

/-! ## The buffer-high flag under a command in hand -/

/-- The buffer-high flag does not read what a command in hand changes. -/
theorem evalBufferHigh_executing (code tag : BitVec 16) (s : State) :
    evalBufferHigh (executing code tag s) = executing code tag (evalBufferHigh s) := by
  have flag : nextBufferHigh (executing code tag s).command.config.slotCount (fencedSlots (executing code tag s))
      (executing code tag s).capture.bufferHigh =
    nextBufferHigh s.command.config.slotCount (fencedSlots s) s.capture.bufferHigh := rfl
  unfold evalBufferHigh
  rw [flag]
  simp only [executing_frame]
  split <;> rfl

/-! ## The checks (R156) -/

theorem disjointRanges_iff {a n b m : Nat} : disjointRanges a n b m = true ↔ a + n ≤ b ∨ b + m ≤ a := by
  simp [disjointRanges]

/-- The values and relations of R156's table. -/
theorem configLegal_iff {region : Nat} {c : FrameConfig} : configLegal region c = true ↔
    512 ≤ c.width ∧ c.width ≤ 4608 ∧ c.width % 64 = 0 ∧ 384 ≤ c.height ∧ c.height ≤ 3456 ∧ c.height % 48 = 0 ∧
    4 ≤ c.slotCount ∧ c.slotCount ≤ 32 ∧ c.stride % 4096 = 0 ∧ c.width * c.height * 2 ≤ c.stride ∧
    c.poolBase % 4096 = 0 ∧ c.poolBase + c.slotCount * c.stride ≤ Config.addressSpace ∧
    c.captureBase % Config.apertureBytes = 0 ∧ c.viewBase % Config.apertureBytes = 0 ∧ 1 ≤ c.latency ∧ c.latency ≤ 3 ∧
    (c.captureBase + Config.apertureBytes ≤ c.viewBase ∨ c.viewBase + Config.apertureBytes ≤ c.captureBase) ∧
    (c.captureBase + Config.apertureBytes ≤ region ∨ region + Config.controlRegionBytes ≤ c.captureBase) ∧
    (c.captureBase + Config.apertureBytes ≤ c.poolBase ∨ c.poolBase + c.slotCount * c.stride ≤ c.captureBase) ∧
    (c.viewBase + Config.apertureBytes ≤ region ∨ region + Config.controlRegionBytes ≤ c.viewBase) ∧
    (c.viewBase + Config.apertureBytes ≤ c.poolBase ∨ c.poolBase + c.slotCount * c.stride ≤ c.viewBase) ∧
    (region + Config.controlRegionBytes ≤ c.poolBase ∨ c.poolBase + c.slotCount * c.stride ≤ region) := by
  simp only [configLegal, Bool.and_eq_true, decide_eq_true_eq, beq_iff_eq, disjointRanges_iff, and_assoc]

theorem countSlots_pos_iff {s : State} {st : SlotState} : 0 < countSlots s st ↔ ∃ e ∈ s.slots.table, e.state = st := by
  rw [countSlots, List.length_pos_iff_exists_mem]
  simp

theorem layoutChanges_eq_false_iff {u : CommandUnit} {c : FrameConfig} : layoutChanges u c = false ↔
    u.valid = true ∧ u.config.poolBase = c.poolBase ∧ u.config.stride = c.stride ∧ u.config.slotCount = c.slotCount ∧
      u.config.width = c.width ∧ u.config.height = c.height := by
  simp [layoutChanges, layoutOf]

theorem sizeChanges_iff {u : CommandUnit} {c : FrameConfig} : sizeChanges u c = true ↔
    u.config.width ≠ c.width ∨ u.config.height ≠ c.height := by
  simp [sizeChanges]

/-- A new size is a new layout. -/
theorem layoutChanges_of_sizeChanges {u : CommandUnit} {c : FrameConfig} (h : sizeChanges u c = true) :
    layoutChanges u c = true := by
  by_contra hl
  obtain ⟨-, -, -, -, hw, hh⟩ := layoutChanges_eq_false_iff.mp (Bool.not_eq_true _ ▸ hl)
  exact (sizeChanges_iff.mp h).elim (· hw) (· hh)

/-! ## The blocks act on what changed (R18, R39, R114, R128) -/

/-- The record is written. -/
def configured (c : FrameConfig) (s : State) : State := s.onCommand (fun u => { u with config := c, valid := true })

theorem configure_same {c : FrameConfig} {s : State} (hl : layoutChanges s.command c = false)
    (hs : sizeChanges s.command c = false) : configure c s = evalBufferHigh (configured c s) := by
  simp only [configure, hl, hs]; rfl

theorem configure_layout {c : FrameConfig} {s : State} (hl : layoutChanges s.command c = true)
    (hs : sizeChanges s.command c = false) : configure c s = evalBufferHigh (applyLayout c (configured c s)) := by
  simp only [configure, hl, hs]; rfl

theorem configure_size {c : FrameConfig} {s : State} (hs : sizeChanges s.command c = true) :
    configure c s = evalBufferHigh (applySize (applyLayout c (configured c s))) := by
  simp only [configure, layoutChanges_of_sizeChanges hs, hs]; rfl

theorem configure_executing (c : FrameConfig) (code tag : BitVec 16) (s : State) :
    configure c (executing code tag s) = executing code tag (configure c s) := by
  have layout : layoutChanges (executing code tag s).command c = layoutChanges s.command c := rfl
  have size : sizeChanges (executing code tag s).command c = sizeChanges s.command c := rfl
  simp only [configure, layout, size, ← evalBufferHigh_executing]
  cases layoutChanges s.command c <;> cases sizeChanges s.command c <;> rfl

/-! ## CONFIGURE FRAME's work -/

section
variable {c : FrameConfig} {code tag : BitVec 16} {s : State}

theorem configureFrameWork_inView (hmode : s.command.mode = .view) :
    configureFrameWork c (executing code tag s) = answered code tag .notReady 0 s := if_pos hmode

theorem configureFrameWork_illegal (hmode : s.command.mode = .standby) (hlegal : ¬ configLegal (controlBase s) c = true) :
    configureFrameWork c (executing code tag s) = answered code tag .badParameter 0 s := by
  have legal : configLegal (controlBase (executing code tag s)) c = false := Bool.eq_false_iff.mpr hlegal
  rw [configureFrameWork, if_neg (by simp [hmode]), legal]
  rfl

/-- What CONFIGURE FRAME does in STANDBY with a legal record. -/
theorem configureFrameWork_legal (hmode : s.command.mode = .standby) (hlegal : configLegal (controlBase s) c = true) :
    configureFrameWork c (executing code tag s) =
      if s.command.valid = true ∧ layoutChanges s.command c = true ∧ 0 < countSlots s .kept then
        answered code tag .conflict 0 s
      else answered code tag .done 0 (configure c s) := by
  have legal : configLegal (controlBase (executing code tag s)) c = true := hlegal
  have kept : ((executing code tag s).command.valid && layoutChanges (executing code tag s).command c &&
      decide (0 < countSlots (executing code tag s) .kept)) =
      decide (s.command.valid = true ∧ layoutChanges s.command c = true ∧ 0 < countSlots s .kept) := by
    have layout : layoutChanges (executing code tag s).command c = layoutChanges s.command c := rfl
    have count : countSlots (executing code tag s) .kept = countSlots s .kept := rfl
    simp [layout, count, Bool.and_assoc]
  rw [configureFrameWork, if_neg (by simp [hmode]), legal, kept, configure_executing]
  simp only [decide_eq_true_eq]
  rfl

theorem configureFrameWork_conflict (hmode : s.command.mode = .standby) (hlegal : configLegal (controlBase s) c = true)
    (hkept : s.command.valid = true ∧ layoutChanges s.command c = true ∧ 0 < countSlots s .kept) :
    configureFrameWork c (executing code tag s) = answered code tag .conflict 0 s := by
  rw [configureFrameWork_legal hmode hlegal, if_pos hkept]

theorem configureFrameWork_passes (hmode : s.command.mode = .standby) (hlegal : configLegal (controlBase s) c = true)
    (hkept : ¬ (s.command.valid = true ∧ layoutChanges s.command c = true ∧ 0 < countSlots s .kept)) :
    configureFrameWork c (executing code tag s) = answered code tag .done 0 (configure c s) := by
  rw [configureFrameWork_legal hmode hlegal, if_neg hkept]

end

/-- Settles O15. -/
theorem configureFrameChecksAndRebuilds : Obligations.ConfigureFrameChecksAndRebuilds := by
  intro tag w h cap view pool stride n k s ha out region apart poolSize legal c o sameLayout keptHeld
  have runs : out = .next (settle s (configureFrameWork c (executing codeConfigureFrame tag s))) :=
    runCommand_of_arrives codeConfigureFrame tag (configureFrameWork c) ha
  have hlegal : configLegal (controlBase s) c = true ↔ legal := by
    rw [configLegal_iff]
    exact Iff.rfl
  have hlayout : layoutChanges s.command c = false ↔ sameLayout := layoutChanges_eq_false_iff
  have changes : layoutChanges s.command c = true ↔ ¬ sameLayout := by rw [← hlayout, Bool.not_eq_false]
  have hkept : keptHeld ↔ s.command.valid = true ∧ layoutChanges s.command c = true ∧ 0 < countSlots s .kept := by
    rw [countSlots_pos_iff, changes]
  refine ⟨fun hmode => ?_, fun hmode hl => ?_, fun hmode hl hk => ?_, fun hmode hl hk => ?_⟩
  · rw [configureFrameWork_inView hmode] at runs; exact runs
  · rw [configureFrameWork_illegal hmode (mt hlegal.mp hl)] at runs; exact runs
  · rw [configureFrameWork_conflict hmode (hlegal.mpr hl) (hkept.mp hk)] at runs; exact runs
  · rw [configureFrameWork_passes hmode (hlegal.mpr hl) (mt hkept.mpr hk)] at runs
    have size : sizeChanges s.command c = false ↔ o.width = c.width ∧ o.height = c.height := by simp [sizeChanges, o]
    intro u rebuilt centre resized done
    refine ⟨fun hs => ?_, fun hs hw hh => ?_, fun hs => ?_⟩
    · rw [configure_same (hlayout.mpr hs) (size.mpr hs.2.2.2.2)] at runs; exact runs
    · rw [configure_layout (changes.mpr hs) (size.mpr ⟨hw, hh⟩)] at runs; exact runs
    · rw [configure_size (sizeChanges_iff.mpr hs)] at runs; exact runs

end Sys2Proof.Machine
end

section
/-!
SET MODE (R157, R158): entering VIEW and leaving it for STANDBY (O16).
-/
namespace Sys2Proof.Machine

/-! ## Entering VIEW (R157) -/

section
variable {code tag : BitVec 16} {s : State}

theorem setModeViewWork_inView (h : s.command.mode = .view) :
    setModeViewWork (executing code tag s) = answered code tag .done 0 s := if_pos h

theorem viewReady_iff {s : State} : viewReady s = true ↔ s.command.valid = true ∧ s.lens.mode = .ready ∧
    s.command.camMark = true ∧ s.command.programMark = true := by
  simp [viewReady, lensReady, and_assoc]

theorem setModeViewWork_notReady (h : s.command.mode = .standby) (hr : ¬ viewReady s = true) :
    setModeViewWork (executing code tag s) = answered code tag .notReady 0 s := by
  have ready : ¬ viewReady (executing code tag s) = true := hr
  rw [setModeViewWork, if_neg (by simp [h]), if_neg ready]
  rfl

theorem setModeViewWork_of_ready (h : s.command.mode = .standby) (hr : viewReady s = true) :
    setModeViewWork (executing code tag s) = completeDone (enterView (executing code tag s)) := by
  have ready : viewReady (executing code tag s) = true := hr
  rw [setModeViewWork, if_neg (by simp [h]), if_pos ready]

end

/-- Entering VIEW with the derived values of the zoom. -/
theorem enterView_eq {s : State} {d : Derived} (hm : s.lens.mode = .ready) (hd : s.zoom.derived = some d) :
    enterView s = { s with
      command := { s.command with mode := .view },
      stats := dropReferences s.stats,
      exposure := { s.exposure with
        held := d.lensValues, history := [], firstIssue := true, settled := false, settleRun := 0,
        scene := { s.exposure.scene with valid := false } },
      steady := enterViewSteady s.steady } := by
  have values : lensValues (s.onCommand (fun c => { c with mode := .view })) = d.lensValues := by
    simp [lensValues, lensReady, hm, hd]
  simp only [enterView, enterViewExposure, copyHeld, values]
  rfl

/-! ## Leaving VIEW (R158) -/

/-- The state in which the Capture Unit takes SET MODE STANDBY up: the other blocks have left VIEW. -/
def viewLeft (s : State) : State := closePass (leaveViewFocus (abandonFrame (s.onCommand (fun c => { c with mode := .standby }))))

theorem abandonFrame_executing (code tag : BitVec 16) (s : State) :
    abandonFrame (executing code tag s) = executing code tag (abandonFrame s) := by
  unfold abandonFrame
  simp only [executing_frame]
  split <;> rfl

theorem closePass_executing (code tag : BitVec 16) (s : State) :
    closePass (executing code tag s) = executing code tag (closePass s) := by
  unfold closePass
  simp only [executing_frame]
  split
  · rfl
  · split <;> rfl

theorem leaveViewFocus_executing (code tag : BitVec 16) (s : State) :
    leaveViewFocus (executing code tag s) = executing code tag (leaveViewFocus s) := by
  unfold leaveViewFocus
  simp only [executing_frame]
  split
  · rfl
  · split <;> rfl

theorem viewLeft_executing (code tag : BitVec 16) (s : State) :
    viewLeft (executing code tag s) = executing code tag (viewLeft s) := by
  have mode : (executing code tag s).onCommand (fun c => { c with mode := .standby }) =
      executing code tag (s.onCommand (fun c => { c with mode := .standby })) := rfl
  rw [viewLeft, mode, abandonFrame_executing, leaveViewFocus_executing, closePass_executing]
  rfl

/-- The table after the frame in progress, if any, is abandoned (R12). -/
def abandonedTable (s : State) : List Slot :=
  match s.slots.tracker.inProgress with
  | some (_, i) => s.slots.table.modify i abandonedEntry
  | none => s.slots.table

/-- The frame in progress has this number. -/
def inProgressIs (s : State) (n : BitVec 32) : Bool := s.slots.tracker.inProgress.any (fun x => x.1 == n)

theorem abandonFrame_all (s : State) : abandonFrame s = { s with
    slots := { s.slots with table := abandonedTable s, tracker := { s.slots.tracker with inProgress := none } },
    stats := { s.stats with measuring := if s.slots.tracker.inProgress = none then s.stats.measuring else none },
    exposure := { s.exposure with latches := s.exposure.latches.filter (fun l => !inProgressIs s l.frame) },
    steady := { s.steady with latches := s.steady.latches.filter (fun l => !inProgressIs s l.frame) } } := by
  cases h : s.slots.tracker.inProgress with
  | none =>
    have tracker : { s.slots.tracker with inProgress := none } = s.slots.tracker := by rw [← h]
    rw [abandonFrame_of_none h, tracker]
    simp [abandonedTable, inProgressIs, h]
  | some x =>
    have same : ∀ n : BitVec 32, (!inProgressIs s n) = (n != x.1) := fun n => by
      simp [inProgressIs, h, bne, BEq.comm]
    simp only [same, abandonedTable, h, abandonFrame, ← updAt_eq_modify]
    rfl

/-- Leaving VIEW, the search ends with its report, and a lock or a failure drops its reference (R106). -/
theorem leaveViewFocus_eq (s : State) : leaveViewFocus s = if s.focus.search = .idle then s else
    reportFocus s.focus.search { cause := .standby } { s with
      exposure := { s.exposure with messages := s.exposure.messages ++
        (if s.focus.search = .locked ∨ s.focus.search = .monitor ∨ s.focus.search = .failed then [.drop] else []) },
      focus := s.focus.settleIn .idle } := by
  unfold leaveViewFocus abandonSearch leaveLock focusAsksExposure State.onFocus
  cases h : s.focus.search <;> simp [SearchState.sweeping]

/-- The messages that a pass sends as it closes (R125). -/
def closingUnpins (p : ViewPass) : List PinMessage := if p.status = .closed then [] else p.pinned.toList.map .unpin

/-- The pass after it has closed, if it was open (R125). -/
def passEnded (p : ViewPass) : ViewPass :=
  if p.status = .closed then p else { p with status := .closed, pinned := none, completions := 0 }

theorem closePass_all (s : State) : closePass s = { s with
    slots := { s.slots with pinMessages := s.slots.pinMessages ++ closingUnpins s.steady.pass },
    steady := { s.steady with pass := passEnded s.steady.pass } } := by
  by_cases h : s.steady.pass.status = .closed
  · simp [closePass, closingUnpins, passEnded, h]
  · rw [closePass_eq h, closingUnpins, passEnded, if_neg h, if_neg h]

/-- The state in which the blocks but the focus search have left VIEW, and the search is IDLE. -/
def blocksLeft (s : State) : State :=
  { s with
    command := { s.command with mode := .standby },
    slots := { s.slots with table := abandonedTable s, tracker := { s.slots.tracker with inProgress := none },
                            pinMessages := s.slots.pinMessages ++ closingUnpins s.steady.pass },
    stats := { s.stats with measuring := if s.slots.tracker.inProgress = none then s.stats.measuring else none },
    exposure := { s.exposure with
      latches := s.exposure.latches.filter (fun l => !inProgressIs s l.frame),
      messages := s.exposure.messages ++
        (if s.focus.search = .locked ∨ s.focus.search = .monitor ∨ s.focus.search = .failed then [.drop] else []) },
    steady := { s.steady with
      latches := s.steady.latches.filter (fun l => !inProgressIs s l.frame), pass := passEnded s.steady.pass },
    focus := if s.focus.search = .idle then s.focus else s.focus.settleIn .idle }

theorem viewLeft_eq (s : State) : viewLeft s = if s.focus.search = .idle then blocksLeft s else
    reportFocus s.focus.search { cause := .standby } (blocksLeft s) := by
  rw [viewLeft, abandonFrame_all, leaveViewFocus_eq]
  by_cases h : s.focus.search = .idle
  · rw [if_pos h]
    refine (congrArg closePass (if_pos h)).trans ((closePass_all _).trans ?_)
    simp only [blocksLeft, h, reduceCtorEq, or_self, if_false, if_true, List.append_nil]
    rfl
  · rw [if_neg h]
    refine (congrArg closePass (if_neg h)).trans ((closePass_all _).trans ?_)
    simp only [blocksLeft, if_neg h]
    rfl

/-! ## The Capture Unit takes SET MODE STANDBY up (R129, R138) -/

section
variable {code tag : BitVec 16} {s : State}

theorem takeStandby_free (hw : s.capture.work = none) :
    takeCommand .standby (executing code tag s) = startStop .modeStandby (executing code tag s) := by
  simp only [takeCommand, executing_frame, hw, startCommand]

theorem startStop_armed {why : StopReason} (hm : s.capture.mode = .armed) :
    startStop why s = stopNext why s.capture.heldList s := by simp only [startStop, hm]

theorem startStop_running {why : StopReason} (hm : s.capture.mode = .running) :
    startStop why s = completeDone (endCapture why.cause s) := by simp only [startStop, hm]

theorem takeStandby_idle (hw : s.capture.work = none) (hm : s.capture.mode = .idle) :
    takeCommand .standby (executing code tag s) = answered code tag .done 0 s := by
  rw [takeStandby_free hw]
  simp only [startStop, executing_frame, hm]
  rfl

/-- The capture ends without an unhold: it runs, or it is armed and holds no frame. -/
theorem takeStandby_ends (hw : s.capture.work = none)
    (hm : s.capture.mode = .running ∨ (s.capture.mode = .armed ∧ s.capture.heldList = [])) :
    takeCommand .standby (executing code tag s) = answered code tag .done 0
      (captureEvent { event := .ended, detail := endCauseCode .standby, countA := s.capture.keptCount,
                      skipCount := s.capture.skipCount } { s with capture := { s.capture with mode := .idle } }) := by
  rw [takeStandby_free hw]
  rcases hm with hm | ⟨hm, hl⟩
  · rw [startStop_running (s := executing code tag s) hm]
    have ended : { s.capture with mode := .idle } = { s.capture with mode := .idle, work := none } := by rw [← hw]
    rw [ended]; rfl
  · have ended : { s.capture with mode := .idle } = { s.capture with mode := .idle, work := none, heldList := [] } := by
      rw [← hw, ← hl]
    have list : (executing code tag s).capture.heldList = [] := hl
    rw [startStop_armed (s := executing code tag s) hm, list, ended]; rfl

theorem takeStandby_asks {e : HeldEntry} {rest : List HeldEntry} (hw : s.capture.work = none) (hm : s.capture.mode = .armed)
    (hl : s.capture.heldList = e :: rest) : takeCommand .standby (executing code tag s) = executing code tag { s with
      slots := { s.slots with
        captureRequest := some { kind := .unhold, slot := e.slot, frame := e.frame, captureId := 0, index := 0 } },
      capture := { s.capture with work := some (.stopping rest .modeStandby) } } := by
  have list : (executing code tag s).capture.heldList = e :: rest := hl
  rw [takeStandby_free hw, startStop_armed (s := executing code tag s) hm, list]
  rfl

theorem takeStandby_waits (hw : s.capture.work ≠ none) : takeCommand .standby (executing code tag s) =
    executing code tag { s with capture := { s.capture with command := some .standby } } := by
  unfold takeCommand
  split
  · contradiction
  · rfl

end

/-- SET MODE STANDBY's work in VIEW. -/
theorem setModeStandbyWork_inView {code tag : BitVec 16} {s : State} (h : s.command.mode = .view) :
    setModeStandbyWork (executing code tag s) = takeCommand .standby (executing code tag (viewLeft s)) := by
  rw [setModeStandbyWork, if_neg (by simp [h]), ← viewLeft_executing]
  rfl

theorem setModeWork_standby : setModeWork 0 = setModeStandbyWork := by simp [setModeWork]

/-- Leaving VIEW ends the search, and with it the exposure hold. -/
theorem blocksLeft_focus {s : State} (h : HoldMatchesSearch s) :
    (blocksLeft s).focus.search = .idle ∧ (blocksLeft s).focus.aeHold = false := by
  by_cases hi : s.focus.search = .idle
  · have held : s.focus.aeHold = false := Bool.eq_false_iff.mpr fun ht => by simpa [hi] using h.mp ht
    simp [blocksLeft, hi, held]
  · simp [blocksLeft, hi, FocusController.settleIn]

/-- Settles O16. -/
theorem setModeEntersAndLeavesView : Obligations.SetModeEntersAndLeavesView := by
  refine ⟨fun tag mode s ha => ?_, fun tag s ha => ⟨fun hm => ?_, fun hm => ?_⟩⟩
  · have runs := runCommand_of_arrives codeSetMode tag (setModeWork mode) ha
    refine ⟨fun h0 h1 => ?_, ?_, ?_, ?_⟩
    · have refused : setModeWork mode = refuse .badParameter := (if_neg h1).trans (if_neg h0)
      exact runs.trans (congrArg (finish s) (congrFun refused (executing codeSetMode tag s)))
    · rintro rfl hv
      exact runs.trans (congrArg (finish s) (setModeViewWork_inView hv))
    · rintro rfl hs hr
      exact runs.trans (congrArg (finish s) (setModeViewWork_notReady hs (mt viewReady_iff.mp hr)))
    · rintro d rfl hs hr hd
      refine runs.trans (congrArg (finish s) ((setModeViewWork_of_ready hs (viewReady_iff.mpr hr)).trans ?_))
      rw [enterView_eq (s := executing codeSetMode tag s) (d := d) hr.2.1 hd]
      rfl
  all_goals
    have byMode := runCommand_of_arrives codeSetMode tag (setModeWork 0) ha
    have byRow := runCommand_of_arrives codeSetMode tag setModeStandbyWork ha
    rw [setModeWork_standby] at byMode
  · have stays : setModeStandbyWork (executing codeSetMode tag s) = answered codeSetMode tag .done 0 s := if_pos hm
    rw [stays] at byMode byRow
    exact ⟨byRow, byMode⟩
  · rw [setModeStandbyWork_inView hm] at byMode byRow
    intro f c answers abandoned table pass unpins left u ended
    have hu : viewLeft s = u := viewLeft_eq s
    have hc : u.capture = c := by rw [← hu, viewLeft_eq]; split <;> simp [blocksLeft, c]
    have both : ∀ v, takeCommand .standby (executing codeSetMode tag u) = v → answers v := fun v hv => by
      rw [hu, hv] at byMode byRow
      exact ⟨byRow, byMode⟩
    refine ⟨fun hw hi => ?_, fun hw hi => ?_, fun e rest hw hi hl => ?_, fun hw => ?_, fun hold => ?_⟩
    · exact both _ (takeStandby_idle (hc ▸ hw) (hc ▸ hi))
    · refine both _ ((takeStandby_ends (hc ▸ hw) (hc ▸ hi)).trans ?_)
      rw [hc]; rfl
    · refine both _ ((takeStandby_asks (e := e) (rest := rest) (hc ▸ hw) (hc ▸ hi) (hc ▸ hl)).trans ?_)
      rw [hc]; rfl
    · refine both _ ((takeStandby_waits (hc ▸ hw)).trans ?_)
      rw [hc]; rfl
    · rw [← hu, viewLeft_eq]
      split
      · exact blocksLeft_focus hold
      · simpa [reportFocus] using blocksLeft_focus hold

end Sys2Proof.Machine
end

section
/-!
SUPPORT. How SOFT RESET drains the Lens Drive (R82).
-/
namespace Sys2Proof.Machine

/-! ## Moves that are dropped without a notice (R82) -/

/-- The motor's move waits: it is PENDING or PREEMPTED. -/
abbrev moveWaits (r : MotorRecord) : Prop := r.state = .pending ∨ r.state = .preempted

/-- The motor without its move. -/
def idled (r : MotorRecord) : MotorRecord := { r with state := .idle }

/-- The motor without a move that waited. -/
def restWaiting (r : MotorRecord) : MotorRecord := if moveWaits r then idled r else r

/-- What the Zoom Controller learns of its motor when a move that waited is dropped. -/
def waitingStop (r : MotorRecord) : List ZoomNotice := if moveWaits r then [.finish] else []

/-- What the Zoom Controller learns of its motor when its move ends. -/
def motorStop (r : MotorRecord) : List ZoomNotice := if r.state = .idle then [] else [.finish]

/-- What the Zoom Controller learns of a lens state that settles. -/
def modeSettles (m : LensMode) : List ZoomNotice := if drainedMode m = m then [] else [.lensState (drainedMode m)]

theorem idled_of_idle {r : MotorRecord} (h : r.state = .idle) : idled r = r := by cases r; simp_all [idled]

theorem dropMove_draining {s : State} (m : Motor) (hd : s.lens.draining = true) :
    dropMove m s = if (s.lens.motor m).state = .idle then s else setMotorState m .idle s := by
  simp only [dropMove, hd, if_true]

theorem dropWaiting_draining {s : State} (m : Motor) (hd : s.lens.draining = true) :
    dropWaiting m s = if moveWaits (s.lens.motor m) then setMotorState m .idle s else s := by
  by_cases hw : moveWaits (s.lens.motor m)
  · rw [if_pos hw]
    rcases hw with h | h <;> simp [dropWaiting, dropMove_draining m hd, h]
  · rw [if_neg hw]
    unfold dropWaiting
    split
    · exact absurd (.inl ‹_›) hw
    · exact absurd (.inr ‹_›) hw
    · rfl

theorem setMotorState_focus_idle (s : State) :
    setMotorState .focus .idle s = { s with lens := { s.lens with focus := idled s.lens.focus } } := rfl

theorem setMotorState_iris_idle (s : State) :
    setMotorState .iris .idle s = { s with lens := { s.lens with iris := idled s.lens.iris } } := rfl

theorem setMotorState_zoom_idle {s : State} (h : s.lens.zoom.state ≠ .idle) : setMotorState .zoom .idle s = { s with
    lens := { s.lens with zoom := idled s.lens.zoom },
    zoom := { s.zoom with fromLens := s.zoom.fromLens ++ [.finish] } } := by
  simp [setMotorState, LensDrive.motor, h, tellZoom, LensDrive.setMotor, State.onLens, idled]

section
variable {s : State} (hd : s.lens.draining = true)
include hd

theorem dropWaiting_focus : dropWaiting .focus s =
    { s with lens := { s.lens with focus := restWaiting s.lens.focus } } := by
  rw [dropWaiting_draining _ hd, setMotorState_focus_idle]
  by_cases hw : moveWaits s.lens.focus
  · exact (if_pos hw).trans (by rw [restWaiting, if_pos hw])
  · exact (if_neg hw).trans (by rw [restWaiting, if_neg hw])

theorem dropWaiting_iris : dropWaiting .iris s = { s with lens := { s.lens with iris := restWaiting s.lens.iris } } := by
  rw [dropWaiting_draining _ hd, setMotorState_iris_idle]
  by_cases hw : moveWaits s.lens.iris
  · exact (if_pos hw).trans (by rw [restWaiting, if_pos hw])
  · exact (if_neg hw).trans (by rw [restWaiting, if_neg hw])

theorem dropWaiting_zoom : dropWaiting .zoom s = { s with
    lens := { s.lens with zoom := restWaiting s.lens.zoom },
    zoom := { s.zoom with
      fromLens := s.zoom.fromLens ++ waitingStop s.lens.zoom } } := by
  rw [dropWaiting_draining _ hd]
  by_cases hw : moveWaits s.lens.zoom
  · rw [setMotorState_zoom_idle (by rcases hw with h | h <;> simp [h])]
    exact (if_pos hw).trans (by rw [restWaiting, if_pos hw, waitingStop, if_pos hw])
  · exact (if_neg hw).trans (by rw [restWaiting, if_neg hw, waitingStop, if_neg hw, List.append_nil])

theorem dropMove_focus : dropMove .focus s = { s with lens := { s.lens with focus := idled s.lens.focus } } := by
  rw [dropMove_draining _ hd, setMotorState_focus_idle]
  by_cases hi : s.lens.focus.state = .idle
  · exact (if_pos hi).trans (by rw [idled_of_idle hi])
  · exact if_neg hi

theorem dropMove_iris : dropMove .iris s = { s with lens := { s.lens with iris := idled s.lens.iris } } := by
  rw [dropMove_draining _ hd, setMotorState_iris_idle]
  by_cases hi : s.lens.iris.state = .idle
  · exact (if_pos hi).trans (by rw [idled_of_idle hi])
  · exact if_neg hi

theorem dropMove_zoom : dropMove .zoom s = { s with
    lens := { s.lens with zoom := idled s.lens.zoom },
    zoom := { s.zoom with
      fromLens := s.zoom.fromLens ++ motorStop s.lens.zoom } } := by
  rw [dropMove_draining _ hd]
  by_cases hi : s.lens.zoom.state = .idle
  · exact (if_pos hi).trans (by rw [idled_of_idle hi, motorStop, if_pos hi, List.append_nil])
  · exact (if_neg hi).trans (by rw [setMotorState_zoom_idle hi, motorStop, if_neg hi])

/-- Every move that waits is dropped; the Zoom Controller learns that its motor stops. -/
theorem dropWaitingMoves_eq : dropWaitingMoves s = { s with
    lens := { s.lens with zoom := restWaiting s.lens.zoom, focus := restWaiting s.lens.focus,
                          iris := restWaiting s.lens.iris, stack := [] },
    zoom := { s.zoom with
      fromLens := s.zoom.fromLens ++ waitingStop s.lens.zoom } } := by
  rw [dropWaitingMoves, dropWaiting_focus hd, dropWaiting_zoom, dropWaiting_iris]
  · rfl
  · exact hd
  · exact hd

theorem dropAllMoves_eq : dropAllMoves s = { s with
    lens := { s.lens with zoom := idled s.lens.zoom, focus := idled s.lens.focus, iris := idled s.lens.iris,
                          current := none, stack := [] },
    zoom := { s.zoom with
      fromLens := s.zoom.fromLens ++ motorStop s.lens.zoom } } := by
  rw [dropAllMoves, dropMove_focus hd, dropMove_zoom, dropMove_iris]
  · rfl
  · exact hd
  · exact hd

end

/-! ## The drained lens (R82) -/

/-- The lens state settles, and the controllers are told when it changes (R67). -/
theorem changeLens_drained (s : State) :
    (if drainedMode s.lens.mode = s.lens.mode then s else changeLens (drainedMode s.lens.mode) s) = { s with
      lens := { s.lens with mode := drainedMode s.lens.mode },
      zoom := { s.zoom with fromLens := s.zoom.fromLens ++ modeSettles s.lens.mode },
      focus := { s.focus with
        lensTold := if drainedMode s.lens.mode = s.lens.mode then s.focus.lensTold else drainedMode s.lens.mode } } := by
  by_cases h : drainedMode s.lens.mode = s.lens.mode
  · simp only [modeSettles, if_pos h, List.append_nil]
    rw [h]
  · have notFault : drainedMode s.lens.mode ≠ .fault := fun hf => h (by
      cases hm : s.lens.mode <;> simp_all [drainedMode])
    simp only [modeSettles, if_neg h, changeLens, tellFocusMode, if_neg notFault]
    rfl

/-- The drain ends: every motor is IDLE, the lens state settles, and READY forms the derived values (R82, R85). -/
theorem endDrain_eq {s : State} (hd : s.lens.draining = true) : endDrain s = { s with
    lens := { s.lens with mode := drainedMode s.lens.mode, zoom := idled s.lens.zoom, focus := idled s.lens.focus,
                          iris := idled s.lens.iris, current := none, stack := [], draining := false, homing := none },
    zoom := { s.zoom with
      derived := if drainedMode s.lens.mode = .ready then derive s.lens.zoom.position s.zoom.cam else s.zoom.derived,
      fromLens := s.zoom.fromLens ++ motorStop s.lens.zoom ++ modeSettles s.lens.mode },
    focus := { s.focus with
      lensTold := if drainedMode s.lens.mode = s.lens.mode then s.focus.lensTold else drainedMode s.lens.mode } } := by
  simp only [endDrain]
  rw [changeLens_drained, dropAllMoves_eq hd]
  by_cases hm : drainedMode s.lens.mode = .ready
  · simp only [if_pos hm]
    rfl
  · simp only [if_neg hm]
    rfl

theorem idled_restWaiting (r : MotorRecord) : idled (restWaiting r) = idled r := by
  unfold restWaiting
  split <;> rfl

/-- The zoom motor's stop is told once, whether its move waited or ran. -/
theorem waitingStop_motorStop (l : List ZoomNotice) (r : MotorRecord) :
    l ++ waitingStop r ++ motorStop (restWaiting r) = l ++ motorStop r := by
  unfold waitingStop motorStop restWaiting
  by_cases hw : moveWaits r
  · have notIdle : r.state ≠ .idle := by rcases hw with h | h <;> simp [h]
    simp only [if_pos hw, idled, if_neg notIdle, if_true, List.append_nil]
  · simp only [if_neg hw, List.append_nil]

@[simp] theorem restWaiting_position (r : MotorRecord) : (restWaiting r).position = r.position := by
  unfold restWaiting
  split <;> rfl

/-- The Lens Drive as SOFT RESET leaves it with a segment in flight (R82). -/
def lensFlies (l : LensDrive) : LensDrive :=
  { l with zoom := restWaiting l.zoom, focus := restWaiting l.focus, iris := restWaiting l.iris, stack := [],
           draining := true, fromZoom := l.fromZoom.filter (· == .trackingAnswer), fromFocus := [], fromExposure := [] }

/-- The Lens Drive as SOFT RESET leaves it with no segment in flight (R82). -/
def lensRests (l : LensDrive) : LensDrive :=
  { l with mode := drainedMode l.mode, zoom := idled l.zoom, focus := idled l.focus, iris := idled l.iris, stack := [],
           current := none, homing := none, draining := false, fromZoom := l.fromZoom.filter (· == .trackingAnswer),
           fromFocus := [], fromExposure := [] }

theorem softResetLens_flies {s : State} (h : s.lens.segment ≠ none) : softResetLens s = { s with
    lens := lensFlies s.lens,
    zoom := { s.zoom with
      fromLens := s.zoom.fromLens ++ waitingStop s.lens.zoom } } := by
  simp only [softResetLens]
  rw [dropWaitingMoves_eq ?draining]
  case draining => rfl
  split
  · rfl
  · contradiction

theorem softResetLens_rests {s : State} (h : s.lens.segment = none) : softResetLens s = { s with
    lens := lensRests s.lens,
    zoom := { s.zoom with
      derived := if drainedMode s.lens.mode = .ready then derive s.lens.zoom.position s.zoom.cam else s.zoom.derived,
      fromLens := s.zoom.fromLens ++ motorStop s.lens.zoom ++ modeSettles s.lens.mode },
    focus := { s.focus with
      lensTold := if drainedMode s.lens.mode = s.lens.mode then s.focus.lensTold else drainedMode s.lens.mode } } := by
  simp only [softResetLens]
  rw [dropWaitingMoves_eq ?draining]
  case draining => rfl
  split
  · rename_i hseg
    exact absurd (h.symm.trans hseg) nofun
  · rw [endDrain_eq ?draining]
    case draining => rfl
    simp only [State.onLens, waitingStop_motorStop, idled_restWaiting, restWaiting_position]
    rfl

end Sys2Proof.Machine
end

section
/-!
SOFT RESET and the resynchronisation that completes it (R161, R170) (O18).
-/
namespace Sys2Proof.Machine

/-! ## SOFT RESET (R161) -/

/-- The blocks after SOFT RESET, but for what the Lens Drive's reset does. -/
def blocksReset (s : State) : State :=
  { s with
    command := { s.command with mode := .standby, staging := none },
    slots := { s.slots with
      table := (abandonedTable s).map softResetSlot, tracker := .reset, captureRequest := none, captureAnswer := none,
      pinMessages := s.slots.pinMessages ++ closingUnpins s.steady.pass ++ s.steady.source.toList.map .unpin },
    stats := softResetStatistics s.stats, exposure := softResetExposure s.exposure, focus := softResetFocus s.focus,
    zoom := softResetZoom s.zoom, capture := softResetCapture s.capture,
    steady := { s.steady with axisX := .reset, axisY := .reset, latches := [], work := [], note := none, source := none,
                              pass := passEnded s.steady.pass } }

theorem softResetWork_eq (s : State) : softResetWork s = softResetLens (blocksReset s) := by
  simp only [softResetWork, softResetBlocks, softResetSlots, softResetSteady]
  rw [abandonFrame_all, closePass_all, unpinSource_messages]
  rfl

theorem softResetLens_executing (code tag : BitVec 16) (s : State) :
    softResetLens (executing code tag s) = executing code tag (softResetLens s) := by
  by_cases h : s.lens.segment = none
  · rw [softResetLens_rests h, softResetLens_rests (s := executing code tag s) h]
    rfl
  · rw [softResetLens_flies h, softResetLens_flies (s := executing code tag s) h]
    rfl

theorem softResetWork_executing (code tag : BitVec 16) (s : State) :
    softResetWork (executing code tag s) = executing code tag (softResetWork s) := by
  rw [softResetWork_eq, softResetWork_eq, ← softResetLens_executing]
  rfl

theorem mem_inProgress_softReset {s : State} {n : BitVec 32} {i : Nat} {e : Slot}
    (hp : s.slots.tracker.inProgress = some (n, i)) (he : s.slots.table[i]? = some e) :
    ((abandonedTable s).map softResetSlot)[i]? = some (softResetSlot (abandonedEntry e)) := by
  simp [abandonedTable, hp, he]

theorem others_softReset {s : State} {i : Nat} {e : Slot} (hp : ∀ n, s.slots.tracker.inProgress ≠ some (n, i))
    (he : s.slots.table[i]? = some e) : ((abandonedTable s).map softResetSlot)[i]? = some (softResetSlot e) := by
  cases h : s.slots.tracker.inProgress with
  | none => simp [abandonedTable, h, he]
  | some x =>
    have other : x.2 ≠ i := fun hx => hp x.1 (by rw [h, ← hx])
    simp [abandonedTable, h, he, other]

theorem waitingStop_eq (r : MotorRecord) : (if ¬ r.state = .idle ∧
    (if r.state = .pending ∨ r.state = .preempted then { r with state := .idle } else r).state = .idle
    then [.finish] else []) = waitingStop r := by
  by_cases hw : r.state = .pending ∨ r.state = .preempted
  · have notIdle : ¬ r.state = .idle := by rcases hw with h | h <;> simp [h]
    simp only [waitingStop, moveWaits, if_pos hw, notIdle, not_false_eq_true, true_and, if_true]
  · simp only [waitingStop, moveWaits, if_neg hw, not_and_self, if_false]

theorem softResetWork_table (s : State) : (softResetWork s).slots.table = (abandonedTable s).map softResetSlot := by
  rw [softResetWork_eq, (softResetLens_frame _).2.1]
  rfl

theorem length_abandonedTable (s : State) : (abandonedTable s).length = s.slots.table.length := by
  unfold abandonedTable
  split
  · exact List.length_modify ..
  · rfl

theorem softResetSlot_eq (e : Slot) : softResetSlot e = if e.state = .filled ∨ e.state = .held
    then { e with state := .free, lastFrame := e.recordFrame, recordFrame := 0, pins := 0 } else { e with pins := 0 } := by
  cases h : e.state <;> simp [softResetSlot, freedEntry, h]

/-! ## Reports given behind those that wait (R165, R167) -/

/-- `b` is `a` after general reports were given: the ring stays, and what waits in addition is no completion. -/
structure Given (a b : ReportUnit) : Prop where
  ring : b.entries = a.entries ∧ b.writeCount = a.writeCount ∧ b.headCopy = a.headCopy ∧ b.mask = a.mask ∧
    b.highWater = a.highWater ∧ b.attention = a.attention
  statusWaiting : b.statusWaiting = a.statusWaiting
  waiting : ∃ rest, b.waiting = a.waiting ++ rest ∧ ∀ r ∈ rest, r.isCompletion = false

theorem Given.refl (a : ReportUnit) : Given a a := ⟨by simp, rfl, [], by simp⟩

theorem Given.trans {a b c : ReportUnit} (h : Given a b) (k : Given b c) : Given a c := by
  obtain ⟨rest, hr, nh⟩ := h.waiting
  obtain ⟨rest', kr, nk⟩ := k.waiting
  refine ⟨by simp [h.ring, k.ring], k.statusWaiting.trans h.statusWaiting, rest ++ rest', by simp [kr, hr], ?_⟩
  simpa [or_imp, forall_and] using ⟨nh, nk⟩

theorem Given.giveGeneral {rep : Report} (h : rep.isCompletion = false) (r : ReportUnit) :
    Given r (giveGeneral rep r) := by
  refine ⟨giveGeneral_frame rep r, ?_, ?_⟩ <;> obtain ⟨-, he⟩ | ⟨-, he⟩ := giveGeneral_cases rep r <;> rw [he]
  · exact loseReport_frame .. |>.2.2.2.2.2.2.2.1
  · exact ⟨[rep], rfl, by simpa using h⟩
  · by_cases hl : r.lostMark = true
    · exact ⟨[], by simp [hl]⟩
    · exact ⟨[.eventsLost], by simp [hl, Report.isCompletion]⟩

theorem given_events (l : List LensEvent) (r : ReportUnit) :
    Given r (l.foldl (fun r e => giveGeneral (.lensEvent e) r) r) := by
  induction l generalizing r with
  | nil => exact .refl r
  | cons e l ih => exact (Given.giveGeneral rfl r).trans (ih _)

/-- Reports that find general places are appended, and nothing else happens (R165). -/
theorem events_appended {l : List LensEvent} {r : ReportUnit}
    (h : (r.waiting.filter Report.general).length + l.length ≤ 12) :
    l.foldl (fun r e => giveGeneral (.lensEvent e) r) r = { r with waiting := r.waiting ++ l.map .lensEvent } := by
  induction l generalizing r with
  | nil => simp
  | cons e l ih =>
    obtain ⟨-, he⟩ | ⟨full, -⟩ := giveGeneral_cases (.lensEvent e) r
    · have one : ((r.waiting ++ [Report.lensEvent e]).filter Report.general).length =
          (r.waiting.filter Report.general).length + 1 := by simp [List.filter_cons, Report.general]
      have room := h
      rw [List.length_cons] at room
      rw [List.foldl_cons, he, ih (by rw [one]; omega)]
      simp
    · simp at h; omega

theorem foldl_giveReport (l : List LensEvent) (s : State) : l.foldl (fun s e => giveReport (.lensEvent e) s) s =
    { s with report := l.foldl (fun r e => giveGeneral (.lensEvent e) r) s.report } := by
  induction l generalizing s with
  | nil => rfl
  | cons e l ih => exact ih _

/-! ## The buffer-high flag and its event (R135) -/

/-- The flag after an evaluation. -/
def bufferFlag (s : State) : Bool := nextBufferHigh s.command.config.slotCount (fencedSlots s) s.capture.bufferHigh

/-- The event that a change of the flag gives. -/
def bufferEvent (s : State) : CaptureReport :=
  { event := if bufferFlag s then .bufferHigh else .bufferLow, mode := s.capture.mode, id := s.capture.id,
    acknowledge := s.capture.acknowledge, slot := none, index := 0, frame := 0, detail := 0, torn := false, countA := 0,
    skipCount := 0, keptSlots := countSlots s .kept, heldSlots := countSlots s .held }

theorem evalBufferHigh_stays {s : State} (h : bufferFlag s = s.capture.bufferHigh) : evalBufferHigh s = s := if_pos h

theorem evalBufferHigh_changes {s : State} (h : bufferFlag s ≠ s.capture.bufferHigh) : evalBufferHigh s = { s with
    capture := { s.capture with bufferHigh := bufferFlag s },
    report := giveGeneral (.captureEvent (bufferEvent s)) s.report } := if_neg h

theorem given_evalBufferHigh (s : State) : Given s.report (evalBufferHigh s).report := by
  by_cases h : bufferFlag s = s.capture.bufferHigh
  · rw [evalBufferHigh_stays h]
    exact .refl _
  · rw [evalBufferHigh_changes h]
    exact .giveGeneral rfl _

/-! ## SOFT_RESET_COMPLETE (R161, R170) -/

theorem resetDue_iff {s : State} : resetDue s = true ↔ s.command.cycle = .executing ∧
    (∃ tag, s.command.inHand = some { code := 0x0A04, tag := tag }) ∧ s.lens.draining = false := by
  have hand : s.command.inHand.any (fun h => h.code == codeSoftReset) = true ↔
      ∃ tag, s.command.inHand = some { code := 0x0A04, tag := tag } := by
    cases hi : s.command.inHand with
    | none => simp
    | some h => cases h; simp [codeSoftReset]
  simp only [resetDue, Bool.and_eq_true, beq_iff_eq, hand, Bool.not_eq_true', and_assoc]

/-- The Report Unit after the resynchronisation with the completion of command `h` (R170). -/
def resynced (s : State) (h : InHand) : ReportUnit :=
  { s.report with
    writeCount := s.report.headCopy, entries := [], highWater := false, attention := false, lostMark := false,
    lost := { frame := 0, focus := 0, lens := 0, capture := 0 }, statusWaiting := true,
    waiting := s.report.waiting.filter Report.isCompletion ++ [.commandDone h.code h.tag s.command.head .done 0] }

/-- The state in which the buffer-high flag is evaluated. -/
def resumed (s : State) (h : InHand) : State :=
  { s with
    report := s.lens.heldEvents.foldl (fun r e => giveGeneral (.lensEvent e) r) (resynced s h),
    link := { s.link with ownQueue := s.link.ownQueue.map orphanReport },
    command := { s.command with head := s.command.tail, cycle := .idle, inHand := none },
    lens := { s.lens with heldEvents := [] } }

theorem resumed_eq {s : State} {h : InHand} (hh : s.command.inHand = some h) :
    giveHeldEvents (resynchronise s) = resumed s h := by
  have done := complete_of_inHand (s := { s with
    report := resyncReports s.report, link := { s.link with ownQueue := s.link.ownQueue.map orphanReport } }) hh .done 0
  simp only [giveHeldEvents, resynchronise, completeDone]
  rw [done, foldl_giveReport]
  rfl

theorem resynced_general (s : State) (h : InHand) : (resynced s h).waiting.filter Report.general = [] := by
  rw [List.filter_eq_nil_iff]
  intro r hr
  simp only [resynced, List.mem_append, List.mem_filter, List.mem_singleton] at hr
  rcases hr with ⟨-, hc⟩ | rfl
  · cases r <;> simp_all [Report.isCompletion, Report.general]
  · simp [Report.general]

theorem resumed_report {s : State} (h : InHand) (few : s.lens.heldEvents.length ≤ 11) :
    (resumed s h).report = { resynced s h with waiting := (resynced s h).waiting ++ s.lens.heldEvents.map .lensEvent } :=
  events_appended (by rw [resynced_general]; simp; omega)

/-- With few held events, the change of buffer high finds its place too. -/
theorem resumed_roomy {s : State} (h : InHand) (few : s.lens.heldEvents.length ≤ 11) (rep : Report) :
    giveGeneral rep (resumed s h).report = { resynced s h with
      waiting := (resynced s h).waiting ++ s.lens.heldEvents.map .lensEvent ++ [rep] } := by
  obtain ⟨-, he⟩ | ⟨full, -⟩ := giveGeneral_cases rep (resumed s h).report
  · rw [he, resumed_report h few]
  · rw [resumed_report h few, List.filter_append, resynced_general] at full
    have := List.length_filter_le Report.general (s.lens.heldEvents.map .lensEvent)
    simp at full this
    omega

theorem given_resumed (s : State) (h : InHand) : Given (resynced s h) (evalBufferHigh (resumed s h)).report :=
  (given_events s.lens.heldEvents (resynced s h)).trans (given_evalBufferHigh (resumed s h))

/-- Settles O18. -/
theorem softResetResetsAndResynchronises : Obligations.SoftResetResetsAndResynchronises := by
  refine ⟨fun tag s h => ?_, fun s => ?_⟩
  · dsimp only
    refine ⟨softResetWork s, (runCommand_of_arrives codeSoftReset tag softResetWork h).trans
      (congrArg (finish s) (softResetWork_executing codeSoftReset tag s)), ?_, ?_, ?_, ?_⟩
    · have sent : closingUnpins s.steady.pass ++ s.steady.source.toList.map .unpin =
          ((if s.steady.pass.status = .closed then [] else s.steady.pass.pinned.toList) ++ s.steady.source.toList).map .unpin := by
        rw [List.map_append, closingUnpins]
        split <;> rfl
      have silent := List.countP_eq_length_filter (p := ZoomNotice.isHandover) (l := s.zoom.fromLens)
      rw [softResetWork_eq]
      by_cases hf : s.lens.segment = none
      · rw [softResetLens_rests (s := blocksReset s) hf]
        have hm : (if s.lens.mode = .homing then .unhomed else if s.lens.mode = .parking then .ready
            else s.lens.mode) = drainedMode s.lens.mode := by
          cases s.lens.mode <;> rfl
        simp only [ne_eq, hf, not_true_eq_false, not_false_eq_true, true_or, true_and, and_true, if_true, if_false,
          decide_false, hm, ite_not, blocksReset, lensRests, softResetZoom, silent, List.append_assoc, sent]
        rfl
      · rw [softResetLens_flies (s := blocksReset s) hf]
        simp only [ne_eq, hf, not_true_eq_false, not_false_eq_true, false_or, false_and, if_true, if_false,
          decide_true, blocksReset, softResetZoom, silent, List.append_assoc, sent, List.append_nil,
          waitingStop_eq]
        rfl
    · rw [softResetWork_table, List.length_map, length_abandonedTable]
    · intro n i e hp he
      rw [softResetWork_table]
      exact mem_inProgress_softReset hp he
    · intro i e he hp
      rw [softResetWork_table, others_softReset hp he, softResetSlot_eq]
  · dsimp only
    refine ⟨fun hd => if_neg (fun hr => hd (resetDue_iff.1 hr)), fun hd => ?_⟩
    obtain ⟨-, ⟨tag, hh⟩, -⟩ := id hd
    have runs : exec .softResetComplete s = finish s (evalBufferHigh (giveHeldEvents (resynchronise s))) :=
      if_pos (resetDue_iff.2 hd)
    rw [resumed_eq hh] at runs
    obtain ⟨⟨entries, writeCount, headCopy, mask, highWater, attention⟩, statusWaiting, rest, waiting, none_done⟩ :=
      given_resumed s { code := 0x0A04, tag := tag }
    obtain ⟨settledCount, settledCopy, settledMask, settledEntries, settledWater, settledWaiting, settledLost, settledMark, -,
      -, settledAttention⟩ := settle_report s (evalBufferHigh (resumed s { code := 0x0A04, tag := tag }))
    refine ⟨_, runs, fun h hi => ?_, fun few => ⟨{ code := 0x0A04, tag := tag }, ?_⟩, settledCount.trans writeCount,
      settledCopy.trans headCopy, settledEntries.trans entries, settledWater.trans highWater,
      settledAttention.trans attention, settledMask.trans mask, ?_, fun few => ?_,
      ⟨tag, rest, hh, settledWaiting.trans waiting, none_done⟩, by simp [resumed], by simp [resumed], by simp [resumed],
      by simp [resumed], by simp [resumed]⟩
    · obtain rfl : _ = h := Option.some.inj (hh.symm.trans hi)
      rfl
    · simp only [settle_report, settle_frame]
      by_cases flag : bufferFlag (resumed s { code := 0x0A04, tag := tag }) = s.capture.bufferHigh
      · rw [evalBufferHigh_stays flag, resumed_report _ few]
        exact ⟨[], hh, by simp [resynced], fun _ => rfl, fun hn => absurd rfl hn⟩
      · rw [evalBufferHigh_changes flag, resumed_roomy _ few]
        exact ⟨_, hh, rfl, fun he => absurd he flag, fun _ => ⟨_, rfl, rfl⟩⟩
    · rw [settle_statusWaiting, statusWaiting]
      rfl
    · rw [settledLost, settledMark]
      by_cases flag : bufferFlag (resumed s { code := 0x0A04, tag := tag }) = s.capture.bufferHigh
      · rw [evalBufferHigh_stays flag, resumed_report _ few]
        exact ⟨rfl, rfl⟩
      · rw [evalBufferHigh_changes flag, resumed_roomy _ few]
        exact ⟨rfl, rfl⟩

end Sys2Proof.Machine
end

section
/-!
The motion estimate of R116: the SAD of a shift as a sum over the indices, the order of the shifts, and the least SAD.
-/
namespace Sys2Proof.Machine

/-! ## Sums -/

theorem total_eq_sum (l : List Nat) : total l = l.sum := List.sum_eq_foldl.symm

theorem total_range_add (f : Nat → Nat) (m k : Nat) : total ((List.range (m + k)).map f) =
    total ((List.range m).map f) + total ((List.range k).map (fun j => f (m + j))) := by
  simp only [total_eq_sum, List.range_add, List.map_append, List.sum_append, List.map_map, Function.comp_def]

theorem total_range_eq_zero {f : Nat → Nat} {n : Nat} (h : ∀ i < n, f i = 0) : total ((List.range n).map f) = 0 := by
  simpa [total_eq_sum, List.sum_eq_zero_iff] using h

theorem total_range_congr {f g : Nat → Nat} {n : Nat} (h : ∀ i < n, f i = g i) :
    total ((List.range n).map f) = total ((List.range n).map g) :=
  congrArg total (List.map_congr_left fun i hi => h i (List.mem_range.1 hi))

/-! ## The SAD of a shift (steps 1 and 2 of R116) -/

/-- The entry of a profile at an index, with the profile's mean removed. -/
def centredAt (p : List Nat) (i : Int) : Int := ((p[i.toNat]?.getD 0 : Nat) : Int) - (total p / p.length : Nat)

/-- The term of index `i` in the SAD of shift `s`: nothing when `i + s` lies outside. -/
def sadTerm (p q : List Nat) (s : Int) (i : Nat) : Nat :=
  if 0 ≤ (i : Int) + s ∧ (i : Int) + s < p.length then (centredAt p i - centredAt q (i + s)).natAbs else 0

/-- The SAD of shift `s` of the current profile `p` against the reference `q`. -/
def sadAt (p q : List Nat) (s : Int) : Nat :=
  1024 * total ((List.range p.length).map (sadTerm p q s)) / (p.length - s.natAbs)

@[simp] theorem length_centred (p : List Nat) : (centred p).length = p.length := List.length_map ..

theorem getElem_centred {p : List Nat} {i : Nat} (h : i < (centred p).length) : (centred p)[i] = centredAt p i := by
  have hi : i < p.length := by simpa using h
  simp [centred, centredAt, hi]

section
variable {p q : List Nat} {a : Nat} (hlen : p.length = q.length) (ha : a ≤ p.length)
include hlen ha

/-- A shift to the left pairs the current profile from `a` on with the reference. -/
theorem total_shiftLeft : total (((centred p).drop a).zip (centred q) |>.map (fun x => (x.1 - x.2).natAbs)) =
    total ((List.range p.length).map (sadTerm p q (-(a : Int)))) := by
  have pairs : (((centred p).drop a).zip (centred q)).map (fun x => (x.1 - x.2).natAbs) =
      (List.range (p.length - a)).map (fun j => (centredAt p (a + j : Nat) - centredAt q j).natAbs) :=
    List.ext_getElem (by simp; omega) fun i _ _ => by simp [getElem_centred]
  obtain ⟨k, hk⟩ := Nat.exists_eq_add_of_le ha
  have outside : total ((List.range a).map (sadTerm p q (-(a : Int)))) = 0 :=
    total_range_eq_zero fun i hi => if_neg (by omega)
  rw [pairs, hk, total_range_add, outside, Nat.zero_add]
  simp only [Nat.add_sub_cancel_left]
  refine total_range_congr fun j hj => ?_
  have target : ((a + j : Nat) : Int) + -(a : Int) = j := by omega
  rw [sadTerm, target, if_pos (by omega)]

/-- A shift to the right pairs the current profile with the reference from `a` on. -/
theorem total_shiftRight : total ((centred p).zip ((centred q).drop a) |>.map (fun x => (x.1 - x.2).natAbs)) =
    total ((List.range p.length).map (sadTerm p q a)) := by
  have pairs : ((centred p).zip ((centred q).drop a)).map (fun x => (x.1 - x.2).natAbs) =
      (List.range (p.length - a)).map (fun (j : Nat) => (centredAt p j - centredAt q (a + j : Nat)).natAbs) :=
    List.ext_getElem (by simp; omega) fun i _ _ => by simp [getElem_centred]
  obtain ⟨k, hk⟩ := Nat.exists_eq_add_of_le ha
  have outside : total ((List.range a).map (fun j => sadTerm p q a (k + j))) = 0 :=
    total_range_eq_zero fun i hi => if_neg (by omega)
  rw [pairs, hk, Nat.add_comm a k, total_range_add, outside, Nat.add_zero, Nat.add_sub_cancel]
  refine total_range_congr fun j hj => ?_
  have target : (j : Int) + (a : Int) = (a + j : Nat) := by omega
  rw [sadTerm, target, if_pos (by omega)]

end

theorem sadOf_eq_sadAt {p q : List Nat} {s : Int} (hlen : p.length = q.length) (hs : s.natAbs ≤ p.length) :
    sadOf (centred p) (centred q) s = sadAt p q s := by
  by_cases neg : s < 0
  · have hl := total_shiftLeft hlen hs
    rw [show -(s.natAbs : Int) = s by omega] at hl
    simp only [sadOf, if_pos neg, length_centred, sadAt, hl]
  · have hr := total_shiftRight hlen hs
    rw [show (s.natAbs : Int) = s by omega] at hr
    simp only [sadOf, if_neg neg, length_centred, sadAt, hr]

/-! ## The order of the shifts (step 3 of R116) -/

/-- A shift is preferred to another with the same SAD: the smaller one, and the negative one of two opposite ones. -/
def earlier (a b : Int) : Prop := a.natAbs < b.natAbs ∨ a.natAbs = b.natAbs ∧ a < b

theorem earlier_trans {a b c : Int} (h : earlier a b) (k : earlier b c) : earlier a c := by
  unfold earlier at *
  omega

theorem mem_shifts {n : Nat} {s : Int} : s ∈ shifts n ↔ s.natAbs ≤ n := by
  simp only [shifts, List.mem_cons, List.mem_flatMap, List.mem_range, List.not_mem_nil, or_false]
  constructor
  · rintro (rfl | ⟨k, hk, rfl | rfl⟩) <;> omega
  · intro h
    by_cases h0 : s = 0
    · exact .inl h0
    · exact .inr ⟨s.natAbs - 1, by omega, by omega⟩

theorem shifts_ordered (n : Nat) : (shifts n).Pairwise earlier := by
  refine List.pairwise_cons.2 ⟨fun s hs => ?_, List.pairwise_flatMap.2 ⟨fun k _ => ?_, ?_⟩⟩
  · simp only [List.mem_flatMap, List.mem_cons, List.not_mem_nil, or_false] at hs
    obtain ⟨k, -, rfl | rfl⟩ := hs <;> exact .inl (by omega)
  · simp only [List.pairwise_cons, List.mem_singleton, forall_eq, List.not_mem_nil, false_implies, implies_true,
      List.Pairwise.nil, and_true]
    exact .inr (by omega)
  · refine List.pairwise_lt_range.imp fun hlt x hx y hy => .inl ?_
    simp only [List.mem_cons, List.not_mem_nil, or_false] at hx hy
    omega

theorem shifts_perm (n : Nat) : (shifts n).Perm ((List.range (2 * n + 1)).map (fun (i : Nat) => (i : Int) - n)) := by
  refine (List.perm_ext_iff_of_nodup ((shifts_ordered n).imp ?_) ?_).2 fun s => ?_
  · intro a b h hab
    unfold earlier at h
    omega
  · exact List.Nodup.map (fun i j h => by simpa using h) List.nodup_range
  · simp only [mem_shifts, List.mem_map, List.mem_range]
    exact ⟨fun h => ⟨(s + n).toNat, by omega, by omega⟩, fun ⟨i, hi, hs⟩ => by omega⟩

/-! ## The least SAD (step 3 of R116) -/

/-- The choice has the least SAD, and is the preferred one of those that have it. -/
theorem leastSad_spec {l : List (Int × Nat)} {best : Int × Nat}
    (ordered : (best :: l).Pairwise (fun a b => earlier a.1 b.1)) :
    leastSad best l ∈ best :: l ∧ ∀ y ∈ best :: l, (leastSad best l).2 ≤ y.2 ∧
      ((leastSad best l).2 = y.2 → leastSad best l = y ∨ earlier (leastSad best l).1 y.1) := by
  induction l generalizing best with
  | nil => simp [leastSad]
  | cons x l ih =>
    obtain ⟨first, later⟩ := List.pairwise_cons.1 ordered
    obtain ⟨afterX, rest⟩ := List.pairwise_cons.1 later
    by_cases hx : x.2 < best.2
    · obtain ⟨mem, least⟩ := ih later
      rw [leastSad, if_pos hx]
      refine ⟨List.mem_cons_of_mem _ mem, fun y hy => ?_⟩
      rcases List.mem_cons.1 hy with rfl | hy
      · have := (least x List.mem_cons_self).1
        exact ⟨by omega, fun he => by omega⟩
      · exact least y hy
    · obtain ⟨mem, least⟩ := ih (best := best)
        (List.pairwise_cons.2 ⟨fun y hy => first y (List.mem_cons_of_mem _ hy), rest⟩)
      rw [leastSad, if_neg hx]
      refine ⟨by rcases List.mem_cons.1 mem with h | h <;> simp [h], fun y hy => ?_⟩
      obtain ⟨below, same⟩ := least best List.mem_cons_self
      rcases List.mem_cons.1 hy with rfl | hy
      · exact ⟨below, same⟩
      rcases List.mem_cons.1 hy with rfl | hy
      · refine ⟨by omega, fun he => .inr ?_⟩
        have before := first y List.mem_cons_self
        rcases same (by omega) with hb | hb
        · rwa [hb]
        · exact earlier_trans hb before
      · exact least y (List.mem_cons_of_mem _ hy)

/-- The shifts within the range, each with its SAD. -/
def sadTable (range : Nat) (p q : List Nat) : List (Int × Nat) :=
  (shifts range).map (fun s => (s, sadOf (centred p) (centred q) s))

/-- The shift of the least SAD. -/
def bestShift (range : Nat) (p q : List Nat) : Int × Nat := leastSad (getAt (0, 0) (sadTable range p q) 0) (sadTable range p q)

theorem bestShift_spec (range : Nat) (p q : List Nat) : bestShift range p q ∈ sadTable range p q ∧
    ∀ y ∈ sadTable range p q, (bestShift range p q).2 ≤ y.2 ∧
      ((bestShift range p q).2 = y.2 → bestShift range p q = y ∨ earlier (bestShift range p q).1 y.1) := by
  have ordered : (sadTable range p q).Pairwise (fun a b => earlier a.1 b.1) := List.pairwise_map.2 (shifts_ordered range)
  have cons : sadTable range p q = (0, sadOf (centred p) (centred q) 0) :: (sadTable range p q).tail := rfl
  have best : bestShift range p q = leastSad (0, sadOf (centred p) (centred q) 0) (sadTable range p q).tail := by
    rw [bestShift, cons]
    simp only [getAt, leastSad, lt_irrefl, if_false, List.tail_cons]
  rw [cons] at ordered
  have := leastSad_spec ordered
  rwa [← best, ← cons] at this

theorem axisMotion_eq (range : Nat) (p q : List Nat) : axisMotion range p q =
    (-(bestShift range p q).1,
      256 * (total ((sadTable range p q).map (·.2)) / (2 * range + 1) - (bestShift range p q).2) /
        (total ((sadTable range p q).map (·.2)) / (2 * range + 1) + 1),
      (bestShift range p q).1.natAbs == range) := rfl

section
variable {range : Nat} {p q : List Nat} (hlen : p.length = q.length) (hr : range < p.length)
include hlen hr

theorem mem_sadTable {y : Int × Nat} : y ∈ sadTable range p q ↔ y.1.natAbs ≤ range ∧ y.2 = sadAt p q y.1 := by
  simp only [sadTable, List.mem_map, mem_shifts]
  constructor
  · rintro ⟨s, hs, rfl⟩
    exact ⟨hs, sadOf_eq_sadAt hlen (by omega)⟩
  · rintro ⟨hs, hy⟩
    exact ⟨y.1, hs, Prod.ext rfl ((sadOf_eq_sadAt hlen (by omega)).trans hy.symm)⟩

theorem total_sadTable : total ((sadTable range p q).map (·.2)) =
    total (((List.range (2 * range + 1)).map (fun (i : Nat) => (i : Int) - range)).map (sadAt p q)) := by
  have table : (sadTable range p q).map (·.2) = (shifts range).map (sadAt p q) := by
    rw [sadTable, List.map_map]
    exact List.map_congr_left fun s hs => sadOf_eq_sadAt hlen (by have := mem_shifts.1 hs; omega)
  rw [table, total_eq_sum, total_eq_sum]
  exact ((shifts_perm range).map _).sum_nat

/-- The estimate of one axis (R116): the least SAD, the smaller shift and then the negative one among equals. -/
theorem axisMotion_spec : ∃ best : Int, (axisMotion range p q).1 = -best ∧ best.natAbs ≤ range ∧
    ((axisMotion range p q).2.2 = true ↔ best.natAbs = range) ∧
    (axisMotion range p q).2.1 = 256 * (total (((List.range (2 * range + 1)).map (fun (i : Nat) => (i : Int) - range)).map
      (sadAt p q)) / (2 * range + 1) - sadAt p q best) / (total (((List.range (2 * range + 1)).map
      (fun (i : Nat) => (i : Int) - range)).map (sadAt p q)) / (2 * range + 1) + 1) ∧
    ∀ s : Int, s.natAbs ≤ range → sadAt p q best ≤ sadAt p q s ∧
      (sadAt p q best = sadAt p q s → best.natAbs ≤ s.natAbs ∧ (best.natAbs = s.natAbs → best ≤ s)) := by
  obtain ⟨mem, least⟩ := bestShift_spec range p q
  obtain ⟨inRange, sad⟩ := (mem_sadTable hlen hr).1 mem
  rw [axisMotion_eq, total_sadTable hlen hr]
  refine ⟨(bestShift range p q).1, rfl, inRange, beq_iff_eq, by rw [sad], fun s hs => ?_⟩
  obtain ⟨below, same⟩ := least (s, sadAt p q s) ((mem_sadTable hlen hr).2 ⟨hs, rfl⟩)
  rw [sad] at below same
  refine ⟨below, fun he => ?_⟩
  rcases same he with hb | hb
  · rw [hb]
    exact ⟨le_rfl, fun _ => le_rfl⟩
  · unfold earlier at hb
    omega

end

end Sys2Proof.Machine
end

section
/-!
The steady work (R115 to R119): the hold chain, the offset and the fields of the frame record (O42).
-/
namespace Sys2Proof.Machine

/-! ## The offset (R118, R119) -/

theorem roundOffset_of_nonneg {o : Int} (h : 0 ≤ o) : roundOffset o = (o + 8) / 16 := by
  rw [roundOffset, if_neg (by omega)]
  omega

theorem roundOffset_neg (o : Int) : roundOffset (-o) = -roundOffset o := by
  unfold roundOffset
  split <;> split <;> omega

theorem natAbs_roundOffset_le {o : Int} {margin : Nat} (h : o.natAbs ≤ 16 * margin) :
    (roundOffset o).natAbs ≤ margin := by
  unfold roundOffset
  split <;> omega

theorem clampInt_eq_max_min {lo hi : Int} (h : lo ≤ hi) (x : Int) : clampInt lo hi x = max lo (min hi x) := by
  unfold clampInt
  split <;> (try split) <;> omega

/-- The offset of an axis stays within 16 times the margin. -/
theorem natAbs_advanceAxis_le (d : Int) (leak margin : Nat) (x : AxisState) :
    (advanceAxis d leak margin x).o16.natAbs ≤ 16 * margin := by
  have := clampInt_bounds (lo := -(16 * margin : Nat)) (hi := (16 * margin : Nat)) (by omega) (leaked d leak x)
  simp only [advanceAxis]
  omega

/-- The axis after a frame with motion `d`: the offset leaked and clamped, the clamp run and the panning mark. -/
theorem advanceAxis_eq (d : Int) (leak margin : Nat) (x : AxisState) : advanceAxis d leak margin x =
    let raw := x.o16 + 16 * d
    let free := raw - Int.tdiv (raw * (if x.panning then min 128 (2 * leak) else leak : Nat)) 256
    let held := max (-(16 * margin : Int)) (min (16 * margin) free)
    let run := if held = free then 0 else min 4 (x.run + 1)
    { o16 := held, run := run, panning := decide ((x.panning = true ∨ run = 4) ∧ ¬ held.natAbs < 8 * margin) } := by
  have clamp := clampInt_eq_max_min (lo := -(16 * margin : Nat)) (hi := (16 * margin : Nat)) (by omega)
  simp only [advanceAxis]
  rw [clamp]
  simp only [leaked, leakOf, satAdd, Nat.cast_mul, Nat.cast_ofNat, Bool.decide_and, Bool.decide_or, Bool.decide_eq_true,
    decide_not]
  rfl

/-! ## The hold chain (R117) -/

theorem estimate_torn {l : SteadyLatch} {a : Announcement} {r : StatRecord} {note : Option ReferenceNote}
    (h : a.torn = true) : estimate l a r note = heldEstimate .torn 0 := if_pos h

theorem estimate_noReference {l : SteadyLatch} {a : Announcement} {r : StatRecord} {note : Option ReferenceNote}
    (h : a.torn = false) (hn : r.reference = none ∨ note = none) :
    estimate l a r note = heldEstimate .noReference 0 := by
  rcases hn with hn | hn
  · simp [estimate, h, hn]
  · cases hr : r.reference <;> simp [estimate, h, hn, hr]

/-- A frame that has a reference passes the zoom test and the exposure test before it is matched. -/
theorem estimate_referenced {l : SteadyLatch} {a : Announcement} {r : StatRecord} {q : Profiles} {n : ReferenceNote}
    (h : a.torn = false) (hq : r.reference = some q) : estimate l a r (some n) =
      if a.moving.zoom = true ∨ n.zoomMoving = true then heldEstimate .zoomMoving 0
      else if 16 < (l.xl - n.xl).natAbs then heldEstimate .exposureStep 0 else matchFrame l r.current q := by
  simp [estimate, h, hq]

/-! ## The fields of the frame record (R16) -/

theorem supplyFields_table (n : BitVec 32) (f : FrameRecord → FrameRecord) (s : State) : supplyFields n f s =
    { s with slots := { s.slots with table := (supplyFields n f s).slots.table } } := by
  obtain ⟨i, -, h⟩ | ⟨-, h⟩ := supplyFields_cases n f s <;> rw [h]
  rfl

/-- What the Steady Controller holds does not decide where the fields go. -/
theorem supplyFields_onSteady (n : BitVec 32) (f : FrameRecord → FrameRecord) (s : State)
    (g : SteadyController → SteadyController) : supplyFields n f (s.onSteady g) = (supplyFields n f s).onSteady g := by
  have slot : recordSlot (s.onSteady g) n = recordSlot s n := rfl
  unfold supplyFields
  rw [slot]
  split <;> rfl

theorem supplyFields_steady (n : BitVec 32) (f : FrameRecord → FrameRecord) (s : State)
    (g : SteadyController → SteadyController) : supplyFields n f (s.onSteady g) = { s with
      steady := g s.steady, slots := { s.slots with table := (supplyFields n f s).slots.table } } :=
  (supplyFields_onSteady n f s g).trans (congrArg (·.onSteady g) (supplyFields_table n f s))

theorem supplyFields_of_none {s : State} {n : BitVec 32} (f : FrameRecord → FrameRecord)
    (h : ∀ x ∈ s.slots.table, ¬ TakesFields n x) : supplyFields n f s = s := by
  rw [supplyFields, recordSlot_eq_none.2 h]

/-- The first entry that takes the frame's fields gets them, and no other. -/
theorem supplyFields_of_first {s : State} {n : BitVec 32} (f : FrameRecord → FrameRecord) {i : Nat} {x : Slot}
    (hx : s.slots.table[i]? = some x) (takes : TakesFields n x) (first : ∀ y ∈ s.slots.table.take i, ¬ TakesFields n y) :
    (supplyFields n f s).slots.table[i]? = some { x with record := f x.record } ∧
    ∀ j, j ≠ i → (supplyFields n f s).slots.table[j]? = s.slots.table[j]? := by
  have table : (supplyFields n f s).slots.table = s.slots.table.modify i (fun e => { e with record := f e.record }) := by
    rw [supplyFields, recordSlot_eq_some.2 ⟨⟨x, hx, takes⟩, first⟩]
    exact updAt_eq_modify ..
  rw [table]
  exact ⟨by simp [hx], fun j hj => by simp [Ne.symm hj]⟩

/-! ## The work of a frame (R115) -/

theorem updateNote_eq (l : SteadyLatch) (a : Announcement) (c : SteadyController) : updateNote l a c =
    { c with note := if a.torn then c.note else some { xl := l.xl, zoomMoving := a.moving.zoom } } := by
  unfold updateNote
  split <;> rfl

/-- The controller once a frame's work is taken, but for the offset: its work and latch are gone, and its note stays. -/
def workTaken (l : SteadyLatch) (a : Announcement) (rest : List WorkItem) (c : SteadyController) : SteadyController :=
  { c with work := rest, latches := c.latches.filter (fun k => k.frame != a.frame),
           note := if a.torn then c.note else some { xl := l.xl, zoomMoving := a.moving.zoom } }

/-- The steady fields of the frame record, from the estimate and the axes. -/
def steadyFields (e : Estimate) (x y : AxisState) : SteadyFields :=
  { dx := e.dx, dy := e.dy, quality := e.quality, hold := e.hold, ox := roundOffset x.o16, oy := roundOffset y.o16 }

theorem steadyWork_of_enabled {s : State} {a : Announcement} {r : StatRecord} {l : SteadyLatch}
    (hm : s.command.mode = .view) (he : l.enable = true) : steadyWork l a r s =
      (steadyFrame l a r s).onSteady (fun c => dropSteadyLatch a.frame (updateNote l a c)) := by
  simp only [steadyWork, hm, he]

theorem steadyWork_notDue {s : State} (h : ∀ a r rest, s.steady.work ≠ { notice := a, stats := some r } :: rest) :
    exec .steadyCompletionWork s = .next s := by
  have none : takeSteadyWork s = none := by
    unfold takeSteadyWork
    split
    · exact absurd ‹_› (h _ _ _)
    · rfl
  exact congrArg (finishIf s) none

section
variable {s : State} {a : Announcement} {r : StatRecord} {rest : List WorkItem} {l : SteadyLatch}
  (hw : s.steady.work = { notice := a, stats := some r } :: rest)
  (hl : s.steady.latches.find? (fun l => l.frame == a.frame) = some l)
include hw hl

theorem steadyWork_runs : exec .steadyCompletionWork s =
    .next (settle s (steadyWork l a r (s.onSteady (fun c => { c with work := rest })))) := by
  have taken : takeSteadyWork s = some (steadyWork l a r (s.onSteady (fun c => { c with work := rest }))) := by
    unfold takeSteadyWork
    rw [hw]
    simp only [State.onSteady, hl]
  exact congrArg (finishIf s) taken

theorem steadyWork_standby (hm : s.command.mode = .standby) :
    exec .steadyCompletionWork s = .next (settle s { s with steady := workTaken l a rest s.steady }) := by
  rw [steadyWork_runs hw hl]
  simp only [steadyWork, State.onSteady, hm, updateNote_eq]
  rfl

theorem steadyWork_disabled (hm : s.command.mode = .view) (he : l.enable = false) : exec .steadyCompletionWork s =
    .next (settle s { s with steady := { workTaken l a rest s.steady with axisX := .reset, axisY := .reset } }) := by
  rw [steadyWork_runs hw hl]
  simp only [steadyWork, State.onSteady, hm, he, updateNote_eq]
  rfl

theorem steadyWork_enabled (hm : s.command.mode = .view) (he : l.enable = true) :
    let e := estimate l a r s.steady.note
    let x := advanceAxis e.dx l.leak r.current.mx s.steady.axisX
    let y := advanceAxis e.dy l.leak r.current.my s.steady.axisY
    exec .steadyCompletionWork s = .next (settle s { s with
      steady := { workTaken l a rest s.steady with axisX := x, axisY := y },
      slots := { s.slots with table := (supplyFields a.frame
        (fun f => { f with steady := some (steadyFields e x y) }) s).slots.table } }) := by
  intro e x y
  have supplied := supplyFields_steady a.frame (fun f => { f with steady := some (steadyFields e x y) }) s
    (fun c => { c with work := rest, axisX := x, axisY := y })
  rw [steadyWork_runs hw hl, steadyWork_of_enabled (by exact hm) he]
  refine congrArg (finish s) ((congrArg
    (fun u : State => u.onSteady (fun c => dropSteadyLatch a.frame (updateNote l a c))) supplied).trans ?_)
  simp only [updateNote_eq]
  rfl

end

theorem motion_estimated (l : SteadyLatch) (a : Announcement) (r : StatRecord) (q : Profiles) (n : ReferenceNote)
    (torn : a.torn = false) (hq : r.reference = some q) :
    let e := estimate l a r (some n)
    let zooms := a.moving.zoom = true ∨ n.zoomMoving = true
    let steps := 16 < (l.xl - n.xl).natAbs
    let x := axisMotion l.range r.current.cols q.cols
    let y := axisMotion l.range r.current.rows q.rows
    let quality := min x.2.1 y.2.1
    (zooms → e = heldEstimate .zoomMoving 0) ∧ (¬ zooms → steps → e = heldEstimate .exposureStep 0) ∧
    (¬ zooms → ¬ steps → quality < l.qualityMin → e = heldEstimate .lowQuality quality) ∧
    (¬ zooms → ¬ steps → ¬ quality < l.qualityMin → e =
      { dx := x.1, dy := y.1, quality := quality, hold := if x.2.2 = true ∨ y.2.2 = true then .atRange else .noHold }) := by
  intro e zooms steps x y quality
  have chain : e = _ := estimate_referenced torn hq
  refine ⟨fun hz => chain.trans (if_pos hz), fun hz hs => ?_, fun hz hs low => ?_, fun hz hs low => ?_⟩ <;>
    rw [if_neg hz] at chain
  · exact chain.trans (if_pos hs)
  · exact (chain.trans (if_neg hs)).trans (if_pos low)
  · refine (chain.trans (if_neg hs)).trans ((if_neg low).trans ?_)
    simp only [Bool.or_eq_true]
    rfl

/-- Settles O42. -/
theorem steadyWorkMovesTheOffset : Obligations.SteadyWorkMovesTheOffset := by
  refine ⟨fun s => ⟨steadyWork_notDue, fun a r rest l hw hl => ⟨steadyWork_standby hw hl, steadyWork_disabled hw hl,
    fun hm he => ⟨_, steadyWork_enabled hw hl hm he, ?_, fun h => ?_, fun i x hx takes first => ?_⟩⟩⟩,
    fun o => ⟨roundOffset_of_nonneg, roundOffset_neg o⟩,
    fun l a r note => ⟨fun torn => estimate_torn torn, fun torn hn => estimate_noReference torn hn,
      fun q n torn hq hn => ?_⟩,
    fun range p q hlen hr => axisMotion_spec hlen hr⟩
  · simp only [advanceAxis_eq]
    rfl
  · exact congrArg (·.slots.table) (supplyFields_of_none _ h)
  · obtain ⟨here, others⟩ := supplyFields_of_first
      (fun f => { f with steady := some (steadyFields (estimate l a r s.steady.note)
        (advanceAxis (estimate l a r s.steady.note).dx l.leak r.current.mx s.steady.axisX)
        (advanceAxis (estimate l a r s.steady.note).dy l.leak r.current.my s.steady.axisY)) }) hx takes first
    exact ⟨others, _, here, rfl, rfl, natAbs_roundOffset_le (natAbs_advanceAxis_le ..),
      natAbs_roundOffset_le (natAbs_advanceAxis_le ..)⟩
  · subst hn
    exact motion_estimated l a r q n torn hq

end Sys2Proof.Machine
end

section
/-!
The commands that set parameters (R38, R61, R63, R64, R80): all values, or none (O5).
-/
namespace Sys2Proof.Machine

/-- A command that sets its values when they are legal, and is refused with BAD_PARAMETER when they are not. -/
theorem runCommand_checked {code tag : BitVec 16} {work set : State → State} {s : State} {legal : Bool} {P : Prop}
    (arrives : CommandArrives s) (hP : legal = true ↔ P)
    (hwork : ∀ u, work u = if legal then completeDone (set u) else refuse .badParameter u)
    (hset : set (executing code tag s) = executing code tag (set s)) :
    (P → runCommand code tag work s = .next (settle s (answered code tag .done 0 (set s)))) ∧
    (¬ P → runCommand code tag work s = .next (settle s (answered code tag .badParameter 0 s))) := by
  rw [runCommand_of_arrives code tag work arrives, hwork, hset, completeDone_executing, refuse_executing]
  exact ⟨fun h => by rw [if_pos (hP.2 h)], fun h => by rw [if_neg (hP.not.2 h)]⟩

theorem statParamsLegal_iff {p : StatParams} (on : p.onThreshold < 256) : statParamsLegal p = true ↔
    1 ≤ p.saturation ∧ p.saturation ≤ 4095 ∧ p.coring ≤ 1023 ∧ 1 ≤ p.onThreshold ∧ p.offThreshold ≤ 254 ∧
    p.darkFloor ≤ 16380 ∧ (p.lineTime = 0 ∨ 1000 ≤ p.lineTime ∧ p.lineTime ≤ 1000000) ∧
    p.offThreshold < p.onThreshold := by
  have byte : p.onThreshold ≤ 255 := by omega
  simp only [statParamsLegal, Bool.and_eq_true, Bool.or_eq_true, decide_eq_true_eq, beq_iff_eq, and_assoc, byte, true_and]

theorem exposureModeOf_eq_none : ∀ {n : Nat}, 2 < n → exposureModeOf n = none
  | _ + 3, _ => rfl

theorem setExposureMode_named {tag : BitVec 16} {mode : BitVec 8} {s : State} {m : ExposureMode} (arrives : CommandArrives s)
    (h : exposureModeOf mode.toNat = some m) : exec (.setExposureMode tag mode) s =
      .next (settle s (answered 0x0302 tag .done 0 (onParams (fun p => { p with mode := m }) s))) := by
  refine (runCommand_of_arrives _ _ _ arrives).trans ?_
  simp only [setExposureModeWork, h]
  rfl

theorem setExposureMode_unnamed {tag : BitVec 16} {mode : BitVec 8} {s : State} (arrives : CommandArrives s)
    (h : exposureModeOf mode.toNat = none) :
    exec (.setExposureMode tag mode) s = .next (settle s (answered 0x0302 tag .badParameter 0 s)) := by
  refine (runCommand_of_arrives _ _ _ arrives).trans ?_
  simp only [setExposureModeWork, h]
  rfl

theorem clampNat_eq_self_iff {lo hi x : Nat} : clampNat lo hi x = x ↔ lo ≤ x ∧ x ≤ hi := by
  unfold clampNat
  split <;> (try split) <;> omega

theorem clampInt_eq_self_iff {lo hi x : Int} : clampInt lo hi x = x ↔ lo ≤ x ∧ x ≤ hi := by
  unfold clampInt
  split <;> (try split) <;> omega

/-- No manual value would be clamped (R64; log entry 37). -/
theorem manualClamps_eq_false_iff {shutter gain iris stops : Nat} {s : State}
    (hstops : (s.zoom.derived.map (·.stops)).getD 1 = stops) :
    manualClamps shutter gain iris s = false ↔ s.exposure.program.tlMin ≤ logL shutter ∧
      logL shutter ≤ s.exposure.program.tlMax ∧ 0 ≤ gainLevelOf gain ∧ gainLevelOf gain ≤ s.exposure.program.glMax ∧
      iris ≤ stops - 1 := by
  simp only [manualClamps, hstops, Bool.or_eq_false_iff, bne_eq_false_iff_eq, decide_eq_false_iff_not, not_lt,
    clampNat_eq_self_iff, clampInt_eq_self_iff, and_assoc]

/-- The manual values are written whether one of them would be clamped or not. -/
theorem setManualExposure_writes {tag gain : BitVec 16} {shutter : BitVec 32} {iris : BitVec 8} {s : State}
    (arrives : CommandArrives s) :
    let written := onParams (fun p => { p with
      manualShutter := shutter.toNat, manualGain := gain.toNat, manualIris := iris.toNat }) s
    exec (.setManualExposure tag shutter gain iris) s = .next (settle s
      (if manualClamps shutter.toNat gain.toNat iris.toNat s
       then answered 0x0304 tag .clamped (Config.manualValueWritten shutter gain iris).toInt written
       else answered 0x0304 tag .done 0 written)) := runCommand_of_arrives _ _ _ arrives

/-- Settles O5. -/
theorem parameterCommandsReplaceAllOrNothing : Obligations.ParameterCommandsReplaceAllOrNothing := by
  refine ⟨fun tag sat cor on off dark line s h => ?_,
    ⟨fun tag target hLim dead gain step pattern s h => ?_, fun strap => rfl⟩,
    ⟨fun tag mode s h => ?_, fun tag shutter gain iris s h => ?_⟩, fun tag arb pz pf pi tz tf ti settleUs s h => ?_⟩
  · intro legal
    refine runCommand_checked h ?_ (fun _ => rfl) rfl
    exact statParamsLegal_iff on.isLt
  · intro legal
    refine runCommand_checked h ?_ (fun _ => rfl) rfl
    simp only [legal, Bool.and_eq_true, decide_eq_true_eq, and_assoc]
  · exact ⟨fun hm => setExposureMode_named h (by rw [hm]; rfl), fun hm => setExposureMode_named h (by rw [hm]; rfl),
      fun hm => setExposureMode_named h (by rw [hm]; rfl),
      fun hm => setExposureMode_unnamed h (exposureModeOf_eq_none hm)⟩
  · intro p stops written fits table
    have hstops : (s.zoom.derived.map (·.stops)).getD 1 = stops := by
      simp only [stops]
      cases s.zoom.derived <;> rfl
    have free : manualClamps shutter.toNat gain.toNat iris.toNat s = false ↔ fits := manualClamps_eq_false_iff hstops
    rw [setManualExposure_writes h]
    refine ⟨fun fit => ?_, fun clamped => ⟨(Config.manualValueWritten shutter gain iris).toInt, ?_⟩⟩
    · rw [if_neg (ne_true_of_eq_false (free.2 fit))]
      rfl
    · rw [if_pos (eq_true_of_ne_false (free.not.2 clamped))]
      rfl
  · intro period legal
    have arbitration : (if arb = 0 then Arbitration.preempt else .sequential) =
        if arb.toNat = 0 then .preempt else .sequential := if_congr BitVec.toNat_eq rfl rfl
    rw [arbitration]
    refine runCommand_checked h ?_ (fun _ => rfl) rfl
    simp only [legal, period, periodLegal, Bool.and_eq_true, decide_eq_true_eq, and_assoc]

end Sys2Proof.Machine
end

section
/-!
The Statistics Engine (R23 to R36): measuring the stored data, the values of the record, the detectors, and the completion
work that hands the record on (O38).
-/
namespace Sys2Proof.Machine

/-! ## Measuring (R23 to R28) -/

theorem getElem?_updAt_add {l : List Nat} {n i v : Nat} (at' : Nat) (h : l[i]? = some v) :
    (updAt (· + n) l at')[i]? = some (if i = at' then v + n else v) := by
  rw [getElem?_updAt, h]
  split <;> rfl

theorem addWord_eq (l : StatLatch) (off : Nat) (w : LinkWord) (a : Accumulators) :
    let sample := fun (j : Nat) => (w.extractLsb' (16 * j) 16).toNat
    let pair := fun (j : Nat) (a : Accumulators) => addPair l (off / 2 + 2 * j) (sample (2 * j)) (sample (2 * j + 1)) a
    addWord l off w a = pair 3 (pair 2 (pair 1 (pair 0 a))) := rfl

theorem measure_stopped {off : Nat} {ws : List LinkWord} {e : StatEngine}
    (h : e.measuring = none ∨ ∃ m, e.measuring = some m ∧ m.torn = true) : measure off ws e = e := by
  obtain h | ⟨m, h, torn⟩ := h
  · simp only [measure, h]
  · simp only [measure, h, if_pos torn]

theorem measure_running {off : Nat} {ws : List LinkWord} {e : StatEngine} {m : Measurement} (h : e.measuring = some m)
    (torn : m.torn = false) :
    measure off ws e = { e with measuring := some { m with acc := addWords m.latch off ws m.acc } } := by
  simp only [measure, h, torn, Bool.false_eq_true, if_false]

/-- No data, nothing measured. -/
theorem measure_nil {off : Nat} {e : StatEngine} {m : Measurement} (h : e.measuring = some m) (torn : m.torn = false) :
    measure off [] e = e := by
  rw [measure_running h torn, addWords, ← h]

theorem measure_cons {off : Nat} {w : LinkWord} {ws : List LinkWord} {e : StatEngine} {m : Measurement}
    (h : e.measuring = some m) (torn : m.torn = false) : measure off (w :: ws) e =
      measure (off + 16) ws { e with measuring := some { m with acc := addWord m.latch off w m.acc } } := by
  rw [measure_running h torn, measure_running (m := { m with acc := addWord m.latch off w m.acc }) rfl torn, addWords]

section
variable {l : StatLatch} {pixel s0 s1 : Nat} {a : Accumulators}

theorem addPair_even (even : pixel / l.width % 2 = 0) : addPair l pixel s0 s1 a =
    let c0 := min s0 4095
    let c1 := min s1 4095
    let clip := l.params.saturation ≤ c0 ∨ l.params.saturation ≤ c1
    { a with line := a.line.set (pixel % l.width / 2) { sum := c0 + c1, mark := decide clip } } := by
  simp only [addPair, if_pos even, setAt, updAt_eq_modify, ← List.set_eq_modify, Nat.min_comm 4095, Bool.decide_or]

theorem addPair_odd {b : LineEntry} (odd : pixel / l.width % 2 = 1) (hb : a.line[pixel % l.width / 2]? = some b) :
    addPair l pixel s0 s1 a = addQuad l (pixel % l.width / 2) (pixel / l.width / 2)
      (b.sum + min s0 4095 + min s1 4095)
      (decide (b.mark = true ∨ l.params.saturation ≤ min s0 4095 ∨ l.params.saturation ≤ min s1 4095)) a := by
  simp only [addPair, odd, Nat.one_ne_zero, if_false, getAt_eq, hb, Option.getD_some, Nat.min_comm 4095,
    Bool.decide_or, Bool.decide_eq_true]

end

section
variable {l : StatLatch} {x y q i : Nat} {a : Accumulators}

theorem Rect.holds_iff {r : Rect} : r.holds x y = true ↔ r.x ≤ x ∧ x < r.x + r.width ∧ r.y ≤ y ∧ y < r.y + r.height := by
  simp only [Rect.holds, Bool.and_eq_true, decide_eq_true_eq, and_assoc]

theorem addQuad_winLuma {w : LatchedWindow} {s : Nat} {c : Bool} (hw : l.windows[i]? = some w)
    (hs : a.winLuma[i]? = some s) : (addQuad l x y q c a).winLuma[i]? = some (if w.enabled = true ∧
      w.rect.x ≤ x ∧ x < w.rect.x + w.rect.width ∧ w.rect.y ≤ y ∧ y < w.rect.y + w.rect.height then s + q else s) := by
  simp only [addQuad, List.getElem?_zipWith, hw, hs, addLuma, Bool.and_eq_true, Rect.holds_iff]

theorem addQuad_winContrast {w : LatchedWindow} {s : Nat} {c : Bool} (hw : l.windows[i]? = some w)
    (hs : a.winContrast[i]? = some s) : (addQuad l x y q c a).winContrast[i]? = some (if w.enabled = true ∧
      (w.rect.x ≤ x ∧ x < w.rect.x + w.rect.width ∧ w.rect.y ≤ y ∧ y < w.rect.y + w.rect.height) ∧ w.rect.x < x
      then min (2 ^ 40 - 1) (s + (((q : Int) - a.previous).natAbs - l.params.coring)) else s) := by
  have dist : natDist q a.previous = ((q : Int) - a.previous).natAbs := by unfold natDist; omega
  simp only [addQuad, List.getElem?_zipWith, hw, hs, addContrast, Bool.and_eq_true, Rect.holds_iff, dist, satAdd,
    decide_eq_true_eq, and_assoc]

theorem addQuad_clipped {c : Bool} (h : c = true) : (addQuad l x y q c a).zoneClip =
    updAt (· + 1) a.zoneClip (y / (l.height / 2 / 12) * 16 + x / (l.width / 2 / 16)) := if_pos h

theorem addQuad_unclipped {c : Bool} (h : c = false) : (addQuad l x y q c a).zoneClip = a.zoneClip :=
  if_neg (ne_true_of_eq_false h)

theorem addQuad_inRegion {c : Bool} (h : l.mx ≤ x ∧ x < l.width / 2 - l.mx ∧ l.my ≤ y ∧ y < l.height / 2 - l.my) :
    (addQuad l x y q c a).colProfile = updAt (· + q) a.colProfile (x - l.mx) ∧
    (addQuad l x y q c a).rowProfile = updAt (· + q) a.rowProfile (y - l.my) := by
  simp only [addQuad, Bool.and_eq_true, decide_eq_true_eq, and_assoc]
  exact ⟨if_pos h, if_pos h⟩

theorem addQuad_outsideRegion {c : Bool}
    (h : ¬ (l.mx ≤ x ∧ x < l.width / 2 - l.mx ∧ l.my ≤ y ∧ y < l.height / 2 - l.my)) :
    (addQuad l x y q c a).colProfile = a.colProfile ∧ (addQuad l x y q c a).rowProfile = a.rowProfile := by
  simp only [addQuad, Bool.and_eq_true, decide_eq_true_eq, and_assoc]
  exact ⟨if_neg h, if_neg h⟩

end

/-! ## The values of the record (R25 to R28, R31) -/

/-- A sum that stops at a bound at every step is the whole sum stopped at the bound once. -/
theorem foldl_satAdd_figure (bound : Nat) (ws : List WindowValue) (n : Nat) :
    ws.foldl (fun f w => satAdd bound f w.figure) (min bound n) = min bound (n + (ws.map (·.figure)).sum) := by
  induction ws generalizing n with
  | nil => rfl
  | cons w ws ih =>
    have first : satAdd bound (min bound n) w.figure = min bound (n + w.figure) := by
      unfold satAdd
      omega
    rw [List.foldl_cons, first, ih, List.map_cons, List.sum_cons, Nat.add_assoc]

theorem focusFigure_eq (ws : List WindowValue) : focusFigure ws = min (2 ^ 32 - 1) (total (ws.map (·.figure))) := by
  have sum := foldl_satAdd_figure (2 ^ 32 - 1) ws 0
  rwa [Nat.min_zero, Nat.zero_add, ← total_eq_sum] at sum

theorem windowValues_getElem? {l : StatLatch} {a : Accumulators} {i c luma : Nat} {w : LatchedWindow}
    (hw : l.windows[i]? = some w) (hc : a.winContrast[i]? = some c) (hl : a.winLuma[i]? = some luma) :
    (windowValues l a)[i]? = some (windowValue w c luma) := by
  simp [windowValues, List.getElem?_zipWith, List.zip, hw, hc, hl]

theorem referenceFor_some (l : StatLatch) (q : Profiles) : referenceFor l (some q) =
    if (q.mx, q.my, q.width, q.height) = (l.mx, l.my, l.width, l.height) then some q else none := by
  simp only [referenceFor, Prod.mk.injEq]

/-! ## The detectors (R32 to R36) -/

/-- The newest set of the history, or the set applied to frame `n`, is quantised to the period (R35). -/
def QuantisedTo (s : State) (n : BitVec 32) (p : Period) : Prop :=
  (∃ e, s.exposure.history.getLast? = some e ∧ e.quantised = p) ∨
  (∃ x, s.exposure.latches.find? (fun x => x.frame == n) = some x ∧ x.applied.quantised = p)

theorem suppressed_iff {s : State} {n : BitVec 32} {p : Period} : suppressed s n p = true ↔ QuantisedTo s n p := by
  simp only [suppressed, QuantisedTo, Bool.or_eq_true, beq_iff_eq, Option.map_eq_some_iff]

theorem advanceDetector_eq (ps : StatParams) (lv : Nat) (d : Detector) : advanceDetector ps lv d =
    let met := if d.on then lv ≤ ps.offThreshold else ps.onThreshold ≤ lv
    let turns := met ∧ d.run + 1 = (if d.on then 6 else 3)
    { on := if turns then !d.on else d.on, run := if met ∧ ¬ turns then d.run + 1 else 0, level := lv } := by
  obtain ⟨_ | _, run, level⟩ := d
  · by_cases met : ps.onThreshold ≤ lv <;> by_cases last : run = 2 <;> simp [advanceDetector, met, last]
  · by_cases met : lv ≤ ps.offThreshold <;> by_cases last : run = 5 <;> simp [advanceDetector, met, last]

/-- The differences at a lag, over the rows that have a row so far behind them (R33). -/
theorem total_lagged {d : List Int} {n k : Nat} (h : n + k ≤ d.length) :
    total (List.zipWith (fun x y => (x - y).natAbs) (d.take n) (d.drop k)) =
      total ((List.range n).map (fun r => (d[r]?.getD 0 - d[r + k]?.getD 0).natAbs)) := by
  refine congrArg total (List.ext_getElem ?_ fun i hi _ => ?_)
  · simp only [List.length_zipWith, List.length_take, List.length_drop, List.length_map, List.length_range]
    omega
  · simp only [List.length_zipWith, List.length_take, List.length_drop] at hi
    have near : i < d.length := by omega
    have far : i + k < d.length := by omega
    simp [near, far, Nat.add_comm k i]

/-- The frame of `m` has what its detector of period `p` needs (R32, R35), but for a row reference. -/
def DetectorRuns (s : State) (m : Measurement) (p : Period) : Prop :=
  let rows := periodNs p / m.latch.params.lineTime
  m.latch.params.lineTime ≠ 0 ∧ 8 ≤ rows ∧ 2 * rows ≤ m.latch.height / 2 ∧ m.torn = false ∧
    ¬ QuantisedTo s m.frame p

theorem runDetector_of_not {s : State} {m : Measurement} {p : Period} (d : Detector)
    (h : ¬ DetectorRuns s m p ∨ s.stats.rowReference = none ∨
      ∃ ref, s.stats.rowReference = some ref ∧ ref.length ≠ m.latch.height / 2) : runDetector s m p d = (d, false) := by
  unfold runDetector
  split
  next ref href =>
    refine if_neg fun ⟨time, many, few, torn, len, free⟩ => ?_
    obtain h | h | ⟨ref', h, len'⟩ := h
    · exact h ⟨time, many, few, torn, suppressed_iff.not.1 (ne_true_of_eq_false free)⟩
    · simp [href] at h
    · exact len' (Option.some.inj (href.symm.trans h) ▸ len)
  next => rfl

theorem runDetector_of_runs {s : State} {m : Measurement} {p : Period} {ref : List Nat} (d : Detector)
    (runs : DetectorRuns s m p) (href : s.stats.rowReference = some ref) (len : ref.length = m.latch.height / 2) :
    runDetector s m p d = (advanceDetector m.latch.params (flickerLevel
      (List.zipWith (fun (a b : Nat) => (a : Int) - b) (rowMeans m.latch m.acc) ref)
      (periodNs p / m.latch.params.lineTime)) d, true) := by
  obtain ⟨time, many, few, torn, free⟩ := runs
  simp only [runDetector, href]
  exact if_pos ⟨time, many, few, torn, len, eq_false_of_ne_true (suppressed_iff.not.2 free)⟩

theorem flickerLevel_eq {means ref : List Nat} {n rows : Nat} (hmeans : means.length = n) (href : ref.length = n)
    (few : rows ≤ n) :
    let diff := fun (r : Nat) => ((means[r]?.getD 0 : Nat) : Int) - ((ref[r]?.getD 0 : Nat) : Int)
    let sum := fun (lag : Nat) => total ((List.range (n - rows)).map (fun r => (diff r - diff (r + lag)).natAbs))
    flickerLevel (List.zipWith (fun (a b : Nat) => (a : Int) - b) means ref) rows =
      if sum rows < sum (rows / 2) then 256 * (sum (rows / 2) - sum rows) / (sum (rows / 2) + 1) else 0 := by
  intro diff sum
  let series := List.zipWith (fun (a b : Nat) => (a : Int) - b) means ref
  have len : series.length = n := by simp [series, hmeans, href]
  have entry : ∀ r, series[r]?.getD 0 = diff r := by
    intro r
    by_cases hr : r < n <;> simp [series, diff, hmeans, href, hr]
  have lagged : ∀ lag ≤ rows, total (List.zipWith (fun x y => (x - y).natAbs) (series.take (n - rows)) (series.drop lag)) =
      sum lag := by
    intro lag hlag
    rw [total_lagged (by omega)]
    simp only [entry, sum]
  unfold flickerLevel
  rw [← lagged rows (by omega), ← lagged (rows / 2) (by omega), ← len]

theorem detector_skipped (s : State) (m : Measurement) (p : Period) (old : Detector)
    (h : ¬ DetectorRuns s m p ∨ s.stats.rowReference = none ∨
      ∃ ref, s.stats.rowReference = some ref ∧ ref.length ≠ m.latch.height / 2) :
    (runDetector s m p old).1 = old ∧ (detectorResult (runDetector s m p old)).evaluated = false := by
  have skipped := runDetector_of_not old h
  exact ⟨congrArg Prod.fst skipped, congrArg Prod.snd skipped⟩

/-- An evaluation compares the row differences a period apart with those half a period apart (R33), and its level moves the
detector (R34). -/
theorem detector_evaluated (s : State) (m : Measurement) (p : Period) (old : Detector) (ref : List Nat)
    (runs : DetectorRuns s m p) (href : s.stats.rowReference = some ref) (len : ref.length = m.latch.height / 2)
    (hmeans : (rowMeans m.latch m.acc).length = m.latch.height / 2) :
    let l := m.latch
    let rows := periodNs p / l.params.lineTime
    let diff := fun (r : Nat) => (((rowMeans l m.acc)[r]?.getD 0 : Nat) : Int) - ((ref[r]?.getD 0 : Nat) : Int)
    let sum := fun (lag : Nat) => total ((List.range (l.height / 2 - rows)).map
      (fun r => (diff r - diff (r + lag)).natAbs))
    let level := if sum rows < sum (rows / 2) then 256 * (sum (rows / 2) - sum rows) / (sum (rows / 2) + 1) else 0
    let met := if old.on then level ≤ l.params.offThreshold else l.params.onThreshold ≤ level
    let turns := met ∧ old.run + 1 = (if old.on then 6 else 3)
    (detectorResult (runDetector s m p old)).evaluated = true ∧ (runDetector s m p old).1 =
      { on := if turns then !old.on else old.on, run := if met ∧ ¬ turns then old.run + 1 else 0, level := level } := by
  intro l rows diff sum level met turns
  have evaluated := runDetector_of_runs old runs href len
  obtain ⟨-, -, few, -, -⟩ := runs
  have short : rows ≤ l.height / 2 := by
    change 2 * rows ≤ l.height / 2 at few
    omega
  have hlevel : flickerLevel _ rows = level := flickerLevel_eq hmeans len short
  refine ⟨congrArg Prod.snd evaluated, ?_⟩
  calc (runDetector s m p old).1
    _ = advanceDetector l.params _ old := congrArg Prod.fst evaluated
    _ = advanceDetector l.params level old := congrArg (advanceDetector l.params · old) hlevel
    _ = _ := advanceDetector_eq l.params level old

theorem activePeriod_off {a b : Detector} (ha : a.on = false) (hb : b.on = false) : activePeriod a b = .off := by
  simp [activePeriod, ha, hb]

theorem activePeriod_us10000 {a b : Detector} (ha : a.on = true) (h : b.on = false ∨ b.level ≤ a.level) :
    activePeriod a b = .us10000 := by
  cases hb : b.on
  · simp [activePeriod, ha, hb]
  · obtain h | h := h
    · simp [hb] at h
    · simp [activePeriod, ha, hb, h]

theorem activePeriod_us8333 {a b : Detector} (hb : b.on = true) (h : a.on = false ∨ a.level < b.level) :
    activePeriod a b = .us8333 := by
  cases ha : a.on
  · simp [activePeriod, ha, hb]
  · obtain h | h := h
    · simp [ha] at h
    · simp [activePeriod, ha, hb, h]

/-! ## The completion work (R29) -/

/-- The statistics record that the completion work forms. -/
def workRecord (s : State) (m : Measurement) : StatRecord :=
  statRecordOf s m (runDetector s m .us10000 s.stats.det100) (runDetector s m .us8333 s.stats.det120)

theorem workRecord_untorn {s : State} {m : Measurement} (torn : m.torn = false) : workRecord s m =
    { workRecord s m with
      y := weightedMean m.latch m.acc, h := weightedClip m.latch m.acc, uniformFallback := total m.latch.weights == 0,
      windows := windowValues m.latch m.acc, focusFigure := focusFigure (windowValues m.latch m.acc),
      current := profilesOf m.latch m.acc } := by
  simp [workRecord, statRecordOf, torn]

theorem workRecord_torn {s : State} {m : Measurement} (torn : m.torn = true) :
    (workRecord s m).y = 0 ∧ (workRecord s m).h = 0 ∧ (workRecord s m).focusFigure = 0 := by
  simp [workRecord, statRecordOf, torn]

theorem handRecord_eq (r : StatRecord) (s : State) : handRecord r s = { s with
    slots := { s.slots with
      table := (supplyFields r.frame (fun f => { f with statistics := recordStatisticsOf r }) s).slots.table },
    exposure := { s.exposure with work := attachRecord r s.exposure.work },
    focus := { s.focus with work := attachRecord r s.focus.work },
    steady := { s.steady with work := attachRecord r s.steady.work } } := by
  unfold handRecord
  rw [supplyFields_table]

theorem updateReferences_eq (m : Measurement) (e : StatEngine) : updateReferences m e = { e with
    rowReference := if m.torn then none else some (rowMeans m.latch m.acc),
    profileReference := if m.torn then e.profileReference else some (profilesOf m.latch m.acc) } := by
  unfold updateReferences
  split <;> rfl

/-- All that the completion work changes (R29). -/
theorem statisticsWork_eq (m : Measurement) (s : State) : statisticsWork m s = { s with
    stats := { s.stats with
      buffer := none,
      det100 := (runDetector s m .us10000 s.stats.det100).1,
      det120 := (runDetector s m .us8333 s.stats.det120).1,
      rowReference := if m.torn then none else some (rowMeans m.latch m.acc),
      profileReference := if m.torn then s.stats.profileReference else some (profilesOf m.latch m.acc) },
    slots := { s.slots with table := (supplyFields m.frame
      (fun f => { f with statistics := recordStatisticsOf (workRecord s m) }) s).slots.table },
    exposure := { s.exposure with work := attachRecord (workRecord s m) s.exposure.work },
    focus := { s.focus with work := attachRecord (workRecord s m) s.focus.work },
    steady := { s.steady with work := attachRecord (workRecord s m) s.steady.work } } := by
  simp only [statisticsWork, updateReferences_eq]
  rw [handRecord_eq]
  rfl

theorem statisticsWork_notDue {s : State} (h : s.stats.buffer = none) : exec .statisticsCompletionWork s = .next s :=
  congrArg (fun b : Option Measurement => finishIf s (b.map (fun m => statisticsWork m s))) h

theorem statisticsWork_runs {s : State} {m : Measurement} (h : s.stats.buffer = some m) :
    exec .statisticsCompletionWork s = .next (settle s (statisticsWork m s)) :=
  congrArg (fun b : Option Measurement => finishIf s (b.map (fun m => statisticsWork m s))) h


/-- Settles O38. -/
theorem statisticsWorkHandsTheRecordOn : Obligations.StatisticsWorkHandsTheRecordOn := by
  refine ⟨fun off w ws e m => ⟨measure_stopped, measure_nil,
      fun h torn => (measure_cons h torn).trans (by rw [addWord_eq])⟩,
    fun l pixel s0 s1 a => ⟨addPair_even, fun b odd hb => ?_⟩,
    fun s => ⟨statisticsWork_notDue, fun m hm => ?_⟩⟩
  · rw [addPair_odd odd hb]
    refine ⟨rfl, rfl, ⟨updAt_length .., fun i v => getElem?_updAt_add _⟩, fun clip => ?_,
      fun clip => addQuad_unclipped (decide_eq_false clip),
      ⟨updAt_length .., fun i v => getElem?_updAt_add _⟩, fun inside => ?_, addQuad_outsideRegion,
      fun i w c s hw hc hs => ⟨addQuad_winLuma hw hs, addQuad_winContrast hw hc⟩⟩
    · rw [addQuad_clipped (decide_eq_true clip)]
      exact ⟨updAt_length .., fun i v => getElem?_updAt_add _⟩
    · obtain ⟨cols, rows⟩ := addQuad_inRegion inside
      rw [cols, rows]
      exact ⟨⟨updAt_length .., fun i v => getElem?_updAt_add _⟩, updAt_length .., fun i v => getElem?_updAt_add _⟩
  · refine ⟨_, workRecord s m, (statisticsWork_runs hm).trans (congrArg (finish s) (statisticsWork_eq m s)),
      rfl, rfl, rfl, rfl, rfl, rfl, fun torn => ?_, fun q hq => ?_, fun hq => ?_, fun torn => ?_,
      ⟨⟨rfl, rfl⟩, detector_skipped s m .us10000 _, detector_evaluated s m .us10000 _⟩,
      ⟨⟨rfl, rfl⟩, detector_skipped s m .us8333 _, detector_evaluated s m .us8333 _⟩,
      activePeriod_off, activePeriod_us10000, activePeriod_us8333, rfl, rfl, rfl, rfl,
      fun h => congrArg (·.slots.table) (supplyFields_of_none _ h),
      fun i e he takes first => supplyFields_of_first _ he takes first⟩
    · rw [workRecord_untorn torn, torn]
      exact ⟨rfl, rfl, beq_iff_eq, fun i w c luma => windowValues_getElem?, focusFigure_eq _, rfl, rfl, rfl⟩
    · exact (congrArg (referenceFor m.latch) hq).trans (referenceFor_some m.latch q)
    · exact congrArg (referenceFor m.latch) hq
    · obtain ⟨y, h, figure⟩ := workRecord_torn torn
      exact ⟨y, h, figure, if_pos torn, if_pos torn⟩

end Sys2Proof.Machine
end

section
/-!
SUPPORT. What leaves the AE hold, the search state, the focus sample list and the exposure history alone (R44, R95, R107): the
operations of the lens, the zoom, the exposure and the frames.
-/
namespace Sys2Proof.Machine
variable (s : State)

/-! ## Lens -/

@[simp] theorem tellFocus_sweep (n : FocusLensNotice) :
    (tellFocus n s).focus.search = s.focus.search ∧ (tellFocus n s).focus.aeHold = s.focus.aeHold ∧
    (tellFocus n s).focus.samples = s.focus.samples := ⟨rfl, rfl, rfl⟩
@[simp] theorem tellFocusMode_sweep (m : LensMode) :
    (tellFocusMode m s).focus.search = s.focus.search ∧ (tellFocusMode m s).focus.aeHold = s.focus.aeHold ∧
    (tellFocusMode m s).focus.samples = s.focus.samples := by
  simp only [tellFocusMode]; split <;> simp
@[simp] theorem changeLens_sweep (m : LensMode) :
    (changeLens m s).focus.search = s.focus.search ∧ (changeLens m s).focus.aeHold = s.focus.aeHold ∧
    (changeLens m s).focus.samples = s.focus.samples := by
  simp [changeLens]
@[simp] theorem noticeEnd_sweep (m : Motor) (r : Bool) :
    (noticeEnd m r s).focus.search = s.focus.search ∧ (noticeEnd m r s).focus.aeHold = s.focus.aeHold ∧
    (noticeEnd m r s).focus.samples = s.focus.samples ∧ (noticeEnd m r s).exposure.history = s.exposure.history := by
  simp only [noticeEnd]; (repeat' split) <;> simp [tellIrisReached]
@[simp] theorem endMove_sweep (m : Motor) (r : Bool) :
    (endMove m r s).focus.search = s.focus.search ∧ (endMove m r s).focus.aeHold = s.focus.aeHold ∧
    (endMove m r s).focus.samples = s.focus.samples ∧ (endMove m r s).exposure.history = s.exposure.history := by
  simp [endMove]
@[simp] theorem startMove_sweep (m : Motor) :
    (startMove m s).1.focus.search = s.focus.search ∧ (startMove m s).1.focus.aeHold = s.focus.aeHold ∧
    (startMove m s).1.focus.samples = s.focus.samples ∧ (startMove m s).1.exposure.history = s.exposure.history := by
  simp only [startMove]; split <;> simp
@[simp] theorem chooseNext_sweep (fuel : Nat) :
    (chooseNext fuel s).focus.search = s.focus.search ∧ (chooseNext fuel s).focus.aeHold = s.focus.aeHold ∧
    (chooseNext fuel s).focus.samples = s.focus.samples ∧
    (chooseNext fuel s).exposure.history = s.exposure.history := by
  induction fuel generalizing s with
  | zero => simp [chooseNext]
  | succ n ih => simp only [chooseNext]; (repeat' split) <;> simp [ih]
@[simp] theorem grant_sweep :
    (grant s).focus.search = s.focus.search ∧ (grant s).focus.aeHold = s.focus.aeHold ∧
    (grant s).focus.samples = s.focus.samples ∧ (grant s).exposure.history = s.exposure.history := by
  simp only [grant]; (repeat' split) <;> simp
@[simp] theorem dropMove_sweep (m : Motor) :
    (dropMove m s).focus.search = s.focus.search ∧ (dropMove m s).focus.aeHold = s.focus.aeHold ∧
    (dropMove m s).focus.samples = s.focus.samples := by
  simp only [dropMove]; (repeat' split) <;> simp
@[simp] theorem dropAllMoves_sweep :
    (dropAllMoves s).focus.search = s.focus.search ∧ (dropAllMoves s).focus.aeHold = s.focus.aeHold ∧
    (dropAllMoves s).focus.samples = s.focus.samples := by
  simp [dropAllMoves]
@[simp] theorem failLens_sweep (m : Motor) (c : LensFaultCause) :
    (failLens m c s).focus.search = s.focus.search ∧ (failLens m c s).focus.aeHold = s.focus.aeHold ∧
    (failLens m c s).focus.samples = s.focus.samples := by
  simp [failLens]
@[simp] theorem endHoming_sweep :
    (endHoming s).focus.search = s.focus.search ∧ (endHoming s).focus.aeHold = s.focus.aeHold ∧
    (endHoming s).focus.samples = s.focus.samples := by
  simp [endHoming]
@[simp] theorem homingDone_sweep (g : Segment) (t : Nat) :
    (homingDone g t s).focus.search = s.focus.search ∧ (homingDone g t s).focus.aeHold = s.focus.aeHold ∧
    (homingDone g t s).focus.samples = s.focus.samples := by
  simp only [homingDone]; (repeat' split) <;> simp
@[simp] theorem parkNext_sweep :
    (parkNext s).focus.search = s.focus.search ∧ (parkNext s).focus.aeHold = s.focus.aeHold ∧
    (parkNext s).focus.samples = s.focus.samples := by
  simp only [parkNext]; (repeat' split) <;> simp
@[simp] theorem segmentMoved_sweep (g : Segment) (t : Nat) :
    (segmentMoved g t s).focus.search = s.focus.search ∧ (segmentMoved g t s).focus.aeHold = s.focus.aeHold ∧
    (segmentMoved g t s).focus.samples = s.focus.samples := by
  simp only [segmentMoved]; split <;> simp
@[simp] theorem endDrain_sweep :
    (endDrain s).focus.search = s.focus.search ∧ (endDrain s).focus.aeHold = s.focus.aeHold ∧
    (endDrain s).focus.samples = s.focus.samples := by
  simp only [endDrain]; (repeat' split) <;> simp
@[simp] theorem dropWaiting_sweep (m : Motor) :
    (dropWaiting m s).focus.search = s.focus.search ∧ (dropWaiting m s).focus.aeHold = s.focus.aeHold ∧
    (dropWaiting m s).focus.samples = s.focus.samples := by
  simp only [dropWaiting]; split <;> simp
@[simp] theorem dropWaitingMoves_sweep :
    (dropWaitingMoves s).focus.search = s.focus.search ∧ (dropWaitingMoves s).focus.aeHold = s.focus.aeHold ∧
    (dropWaitingMoves s).focus.samples = s.focus.samples := by
  simp [dropWaitingMoves]
@[simp] theorem startParking_sweep :
    (startParking s).focus.search = s.focus.search ∧ (startParking s).focus.aeHold = s.focus.aeHold ∧
    (startParking s).focus.samples = s.focus.samples := by
  simp only [startParking]; split <;> simp
@[simp] theorem handOver_focus : (handOver s).focus = s.focus := rfl
@[simp] theorem drainDone_sweep (g : Segment) :
    (drainDone g s).focus.search = s.focus.search ∧ (drainDone g s).focus.aeHold = s.focus.aeHold ∧
    (drainDone g s).focus.samples = s.focus.samples := by
  simp only [drainDone]; split <;> simp
@[simp] theorem segmentDone_sweep (g : Segment) (z f : Bool) (t now : Nat) :
    (segmentDone g z f t now s).focus.search = s.focus.search ∧
    (segmentDone g z f t now s).focus.aeHold = s.focus.aeHold ∧
    (segmentDone g z f t now s).focus.samples = s.focus.samples ∧
    (segmentDone g z f t now s).exposure.history = s.exposure.history := by
  simp only [segmentDone]; (repeat' split) <;> simp
@[simp] theorem softResetLens_sweep :
    (softResetLens s).focus.search = s.focus.search ∧ (softResetLens s).focus.aeHold = s.focus.aeHold ∧
    (softResetLens s).focus.samples = s.focus.samples := by
  simp only [softResetLens]; split <;> simp
@[simp] theorem homeLensWork_sweep :
    (homeLensWork s).focus.search = s.focus.search ∧ (homeLensWork s).focus.aeHold = s.focus.aeHold ∧
    (homeLensWork s).focus.samples = s.focus.samples := by
  simp only [homeLensWork]; split <;> simp
@[simp] theorem parkLensWork_sweep :
    (parkLensWork s).focus.search = s.focus.search ∧ (parkLensWork s).focus.aeHold = s.focus.aeHold ∧
    (parkLensWork s).focus.samples = s.focus.samples := by
  simp only [parkLensWork]; (repeat' split) <;> simp
@[simp] theorem takeTarget_sweep (m : Motor) (p : Nat) (r : Requester) :
    (takeTarget m p r s).focus.search = s.focus.search ∧ (takeTarget m p r s).focus.aeHold = s.focus.aeHold ∧
    (takeTarget m p r s).focus.samples = s.focus.samples ∧
    (takeTarget m p r s).exposure.history = s.exposure.history := by
  simp only [takeTarget]; (repeat' split) <;> simp
@[simp] theorem takeStop_sweep (m : Motor) :
    (takeStop m s).focus.search = s.focus.search ∧ (takeStop m s).focus.aeHold = s.focus.aeHold ∧
    (takeStop m s).focus.samples = s.focus.samples ∧ (takeStop m s).exposure.history = s.exposure.history := by
  simp only [takeStop]; split <;> simp

/-! ## Zoom -/

@[simp] theorem zoomTellsFocus_sweep (n : FocusZoomNotice) :
    (zoomTellsFocus n s).focus.search = s.focus.search ∧ (zoomTellsFocus n s).focus.aeHold = s.focus.aeHold ∧
    (zoomTellsFocus n s).focus.samples = s.focus.samples := ⟨rfl, rfl, rfl⟩
@[simp] theorem endZoom_sweep :
    (endZoom s).focus.search = s.focus.search ∧ (endZoom s).focus.aeHold = s.focus.aeHold ∧
    (endZoom s).focus.samples = s.focus.samples := by
  simp only [endZoom]; split <;> simp
@[simp] theorem zoomStartWork_sweep :
    (zoomStartWork s).focus.search = s.focus.search ∧ (zoomStartWork s).focus.aeHold = s.focus.aeHold ∧
    (zoomStartWork s).focus.samples = s.focus.samples := by
  simp [zoomStartWork]
@[simp] theorem zoomMoveEndWork_sweep (m : Motor) (r : Bool) :
    (zoomMoveEndWork m r s).focus.search = s.focus.search ∧ (zoomMoveEndWork m r s).focus.aeHold = s.focus.aeHold ∧
    (zoomMoveEndWork m r s).focus.samples = s.focus.samples := by
  simp only [zoomMoveEndWork]; split <;> simp
@[simp] theorem zoomLensState_sweep (m : LensMode) :
    (zoomLensState m s).focus.search = s.focus.search ∧ (zoomLensState m s).focus.aeHold = s.focus.aeHold ∧
    (zoomLensState m s).focus.samples = s.focus.samples := by
  simp only [zoomLensState]; split <;> simp

/-! ## Exposure -/

@[simp] theorem copyHeld_history : (copyHeld s).exposure.history = s.exposure.history := rfl
@[simp] theorem readStanding_history : (readStanding s).exposure.history = s.exposure.history := by
  simp only [readStanding]; split <;> simp
@[simp] theorem latchExposure_history (n : BitVec 32) : (latchExposure n s).exposure.history = s.exposure.history := by
  simp only [latchExposure]; split <;> simp
@[simp] theorem dropExposureLatch_history (n : BitVec 32) (e : ExposureController) :
    (dropExposureLatch n e).history = e.history := rfl
@[simp] theorem tellFocusExposure_sweep (n : FocusExposureNotice) :
    (tellFocusExposure n s).focus.search = s.focus.search ∧ (tellFocusExposure n s).focus.aeHold = s.focus.aeHold ∧
    (tellFocusExposure n s).focus.samples = s.focus.samples := ⟨rfl, rfl, rfl⟩
@[simp] theorem updateScene_sweep (n : BitVec 32) (y : Nat) :
    (updateScene n y s).focus.search = s.focus.search ∧ (updateScene n y s).focus.aeHold = s.focus.aeHold ∧
    (updateScene n y s).focus.samples = s.focus.samples := by
  simp only [updateScene]; (repeat' split) <;> simp
@[simp] theorem measuredUpdates_sweep (n : BitVec 32) (y : Nat) (rd : Reading) :
    (measuredUpdates n y rd s).focus.search = s.focus.search ∧
    (measuredUpdates n y rd s).focus.aeHold = s.focus.aeHold ∧
    (measuredUpdates n y rd s).focus.samples = s.focus.samples := by
  simp only [measuredUpdates]; split <;> simp
@[simp] theorem exposureWork_sweep (l : ExposureLatch) (a : Announcement) (r : StatRecord) :
    (exposureWork l a r s).focus.search = s.focus.search ∧ (exposureWork l a r s).focus.aeHold = s.focus.aeHold ∧
    (exposureWork l a r s).focus.samples = s.focus.samples := by
  simp only [exposureWork]; split <;> simp [exposureViewWork]

/-- The issue of a set pushes it into the history (R58). -/
@[simp] theorem issue_history (e standing : ExposureSet) :
    (issue e standing s).exposure.history = pushHistory s.exposure.history e := by
  simp only [issue]; (repeat' split) <;> simp

/-! ## Frames (R8 to R13, R29) -/

@[simp] theorem handRecord_sweep (r : StatRecord) :
    (handRecord r s).focus.search = s.focus.search ∧ (handRecord r s).focus.aeHold = s.focus.aeHold ∧
    (handRecord r s).focus.samples = s.focus.samples ∧ (handRecord r s).exposure.history = s.exposure.history := by
  simp [handRecord]
@[simp] theorem statisticsWork_sweep (m : Measurement) :
    (statisticsWork m s).focus.search = s.focus.search ∧ (statisticsWork m s).focus.aeHold = s.focus.aeHold ∧
    (statisticsWork m s).focus.samples = s.focus.samples ∧
    (statisticsWork m s).exposure.history = s.exposure.history := by
  simp [statisticsWork]
@[simp] theorem startFrame_history (now : Nat) : (startFrame now s).exposure.history = s.exposure.history := by
  simp [startFrame]
@[simp] theorem abandonFrame_history : (abandonFrame s).exposure.history = s.exposure.history := by
  simp only [abandonFrame]; split <;> simp
@[simp] theorem completeFrame_sweep (n : BitVec 32) (i : Nat) :
    (completeFrame n i s).focus.search = s.focus.search ∧ (completeFrame n i s).focus.aeHold = s.focus.aeHold ∧
    (completeFrame n i s).focus.samples = s.focus.samples ∧
    (completeFrame n i s).exposure.history = s.exposure.history := by
  simp [completeFrame, announce]
@[simp] theorem writeInFrame_sweep (n : BitVec 32) (i a o : Nat) (d : List LinkWord) :
    (writeInFrame n i a o d s).focus.search = s.focus.search ∧ (writeInFrame n i a o d s).focus.aeHold = s.focus.aeHold ∧
    (writeInFrame n i a o d s).focus.samples = s.focus.samples ∧
    (writeInFrame n i a o d s).exposure.history = s.exposure.history := by
  simp only [writeInFrame]; (repeat' split) <;> simp
@[simp] theorem captureWrite_sweep (now a o : Nat) (d : List LinkWord) :
    (captureWrite now a o d s).focus.search = s.focus.search ∧ (captureWrite now a o d s).focus.aeHold = s.focus.aeHold ∧
    (captureWrite now a o d s).focus.samples = s.focus.samples ∧
    (captureWrite now a o d s).exposure.history = s.exposure.history := by
  simp only [captureWrite]; (repeat' split) <;> simp
theorem writePiece_sweep (now : Nat) (p : Piece) :
    (writePiece now s p).focus.search = s.focus.search ∧ (writePiece now s p).focus.aeHold = s.focus.aeHold ∧
    (writePiece now s p).focus.samples = s.focus.samples ∧
    (writePiece now s p).exposure.history = s.exposure.history := by
  simp only [writePiece, capturePieceWrite]; (repeat' split) <;> simp
theorem foldl_writePiece_sweep (now : Nat) (l : List Piece) :
    let u := l.foldl (writePiece now) s
    u.focus.search = s.focus.search ∧ u.focus.aeHold = s.focus.aeHold ∧ u.focus.samples = s.focus.samples ∧
    u.exposure.history = s.exposure.history := by
  induction l generalizing s with
  | nil => simp
  | cons p l ih => simpa [writePiece_sweep s now p] using ih (writePiece now s p)
@[simp] theorem takeRequest_sweep (now : Nat) (r : HostRequest) :
    (takeRequest now r s).focus.search = s.focus.search ∧ (takeRequest now r s).focus.aeHold = s.focus.aeHold ∧
    (takeRequest now r s).focus.samples = s.focus.samples ∧
    (takeRequest now r s).exposure.history = s.exposure.history := by
  cases r with
  | write a d =>
    have pieces := foldl_writePiece_sweep (popArrival s) now (requestPieces s (.write a d))
    simp only [popArrival_frame] at pieces
    exact pieces
  | read tag a n =>
    have pieces := foldl_readPiece_frame
      ((popArrival s).onLink (fun l => { l with readMap := l.readMap ++ [readEntry tag.toNat n] })) tag.toNat
      (requestPieces s (.read tag a n))
    simp [takeRequest, pieces]

end Sys2Proof.Machine
end

section
/-!
The AE hold and the bounded lists are kept by every step (O51; R44, R95, R107).
-/
namespace Sys2Proof.Machine

/-- What a command may do to the AE hold, the search state, the sample list and the exposure history (R44, R95, R107). -/
structure HoldKept (s t : State) : Prop where
  hold : HoldMatchesSearch s → HoldMatchesSearch t
  samples : s.focus.samples.length ≤ 64 → t.focus.samples.length ≤ 64
  history : s.exposure.history.length ≤ 4 → t.exposure.history.length ≤ 4

section
variable {s t u : State}

theorem holdMatchesSearch_iff : HoldMatchesSearch s ↔ s.focus.aeHold = s.focus.search.sweeping := by
  unfold HoldMatchesSearch
  cases s.focus.search <;> simp [SearchState.sweeping]

theorem HoldKept.trans (h : HoldKept s t) (k : HoldKept t u) : HoldKept s u :=
  ⟨k.hold ∘ h.hold, k.samples ∘ h.samples, k.history ∘ h.history⟩

theorem HoldKept.lists (h : HoldKept s t) (hs : ListsBounded s) : ListsBounded t :=
  ⟨h.history hs.history, h.samples hs.samples⟩

/-- Nothing that the rules speak of changes. -/
theorem HoldKept.of_same (h : t.focus.search = s.focus.search ∧ t.focus.aeHold = s.focus.aeHold ∧
    t.focus.samples = s.focus.samples ∧ t.exposure.history = s.exposure.history) : HoldKept s t := by
  obtain ⟨search, hold, samples, history⟩ := h
  exact ⟨by simp [HoldMatchesSearch, search, hold], by simp [samples], by simp [history]⟩

theorem HoldKept.refl (s : State) : HoldKept s s := .of_same ⟨rfl, rfl, rfl, rfl⟩

theorem HoldKept.settle (b s : State) : HoldKept s (settle b s) := .of_same (by simp)

theorem HoldKept.executing (code tag : BitVec 16) (s : State) : HoldKept s (executing code tag s) := .of_same (by simp)

/-- The search state becomes one whose AE hold is set with it, and the samples stay or are cleared. -/
theorem HoldKept.of_search (hold : t.focus.aeHold = t.focus.search.sweeping)
    (samples : t.focus.samples = s.focus.samples ∨ t.focus.samples = [])
    (history : t.exposure.history = s.exposure.history) : HoldKept s t := by
  refine ⟨fun _ => holdMatchesSearch_iff.mpr hold, fun h => ?_, fun h => history ▸ h⟩
  rcases samples with hsame | hnil
  · exact hsame ▸ h
  · simp [hnil]

/-- The search goes on to another state of its kind, sweeping or not, and its AE hold stays (R102, R103, R107, R110). -/
theorem HoldKept.of_kind (kind : t.focus.search.sweeping = s.focus.search.sweeping)
    (same : t.focus.aeHold = s.focus.aeHold ∧ t.focus.samples = s.focus.samples ∧
      t.exposure.history = s.exposure.history) : HoldKept s t := by
  obtain ⟨hold, samples, history⟩ := same
  exact ⟨by simp [holdMatchesSearch_iff, kind, hold], by simp [samples], by simp [history]⟩

end

variable (s : State)

/-! ## The search (R99 to R105) -/

@[simp] theorem sendFocus_sweep (p : Nat) (r : RequestPurpose) :
    (sendFocus p r s).focus.search = s.focus.search ∧ (sendFocus p r s).focus.aeHold = s.focus.aeHold ∧
    (sendFocus p r s).focus.samples = s.focus.samples := by simp [sendFocus]
@[simp] theorem stopOwnMove_sweep :
    (stopOwnMove s).focus.search = s.focus.search ∧ (stopOwnMove s).focus.aeHold = s.focus.aeHold ∧
    (stopOwnMove s).focus.samples = s.focus.samples := by
  simp only [stopOwnMove]; split <;> simp
@[simp] theorem focusAsksExposure_history (m : ReferenceMessage) :
    (focusAsksExposure m s).exposure.history = s.exposure.history := rfl

theorem startSearch_holdKept (n : FocusNote) : HoldKept s (startSearch n s) :=
  .of_search (by simp [startSearch, SearchState.sweeping]) (by simp [startSearch]) (by simp)

theorem failSearch_holdKept (n : FocusNote) : HoldKept s (failSearch n s) :=
  .of_search (by simp [failSearch, FocusController.settleIn, SearchState.sweeping])
    (by simp [failSearch, FocusController.settleIn]) (by simp)

theorem abandonSearch_holdKept (b : Bool) (n : FocusNote) : HoldKept s (abandonSearch b n s) :=
  .of_search (by simp [abandonSearch, FocusController.settleIn, SearchState.sweeping])
    (by simp [abandonSearch, FocusController.settleIn]) (by simp)

theorem enterFine_holdKept {s : State} (h : s.focus.search.sweeping = true) (n : FocusNote) : HoldKept s (enterFine n s) := by
  simp only [enterFine]
  split <;> exact .of_kind (by rw [h]; simp [SearchState.sweeping]) (by simp)

theorem enterPeak_holdKept {s : State} (h : s.focus.search.sweeping = true) (n : BitVec 32) : HoldKept s (enterPeak n s) :=
  .of_kind (by rw [h]; simp [enterPeak, SearchState.sweeping]) (by simp [enterPeak])

theorem sweepEnded_holdKept {s : State} (h : s.focus.search.sweeping = true) (n : BitVec 32) : HoldKept s (sweepEnded n s) := by
  simp only [sweepEnded]
  split
  · split
    · exact enterFine_holdKept h _
    · exact failSearch_holdKept s _
  · exact failSearch_holdKept s _

/-- A sample taken keeps the list to 64 (R95). -/
theorem appendSample_holdKept (p : FocusSample) : HoldKept s (s.onFocus (appendSample p)) := by
  refine ⟨fun h => ?_, fun _ => ?_, fun h => ?_⟩
  · simpa [HoldMatchesSearch, appendSample] using h
  · simpa using appendSample_length p s.focus
  · simpa using h

theorem coarseSample_holdKept {s : State} (h : s.focus.search.sweeping = true) (p : FocusSample) :
    HoldKept s (coarseSample p s) := by
  refine (appendSample_holdKept s p).trans ?_
  have sweeps : (s.onFocus (appendSample p)).focus.search.sweeping = true := h
  simp only [coarseSample]
  split
  · exact enterFine_holdKept sweeps _
  · split
    · exact .of_same (by simp)
    · split
      · split
        · exact .trans (.of_same (by simp)) (sweepEnded_holdKept (by simpa using sweeps) _)
        · exact .of_same (by simp)
      · exact sweepEnded_holdKept sweeps _

theorem fineSample_holdKept {s : State} (h : s.focus.search.sweeping = true) (p : FocusSample) :
    HoldKept s (fineSample p s) := by
  have sampled : HoldKept s (s.onFocus (appendSample p)) := appendSample_holdKept s p
  have sweeps : (s.onFocus (appendSample p)).focus.search.sweeping = true := h
  simp only [fineSample]
  generalize filled : (if visiting _ = some p.position then _ else _) = u
  have entered : HoldKept s u ∧ u.focus.search.sweeping = true := by
    subst filled
    split
    · exact ⟨sampled.trans (.of_same (by simp)), by simpa [appendSample] using h⟩
    · exact ⟨sampled, sweeps⟩
  obtain ⟨safe, sweeping⟩ := entered
  split
  · exact safe.trans (.of_same (by simp))
  · exact safe.trans (enterPeak_holdKept sweeping _)

theorem lockFocus_holdKept : HoldKept s (lockFocus s) := by
  refine .of_search ?_ (by simp [lockFocus]) (by simp)
  by_cases h : s.focus.mode = .continuous <;> simp [lockFocus, h, SearchState.sweeping]

/-! ## Frames (R97, R98, R104, R108) -/

theorem restartSearch_holdKept (n : FocusNote) : HoldKept s (restartSearch n s) := by
  simp only [restartSearch]; split
  · exact startSearch_holdKept s n
  · exact .refl s

theorem monitorSample_holdKept (p : FocusSample) : HoldKept s (monitorSample p s) := by
  simp only [monitorSample]
  (repeat' split)
  · exact .trans (.of_same (by simp)) (restartSearch_holdKept _ _)
  · exact .of_same (by simp)
  · exact .of_same (by simp)

theorem holdingSample_holdKept (p : FocusSample) (r : StatRecord) : HoldKept s (holdingSample p r s) := by
  simp only [holdingSample]
  (repeat' split)
  · exact .refl s
  · exact .of_same (by simp [takeBaseline])
  · exact .refl s
  · exact monitorSample_holdKept s p
  · exact .refl s

theorem sweepFrame_holdKept {s : State} (h : s.focus.search.sweeping = true) (a : Announcement) (r : StatRecord) :
    HoldKept s (sweepFrame a r s) := by
  simp only [sweepFrame]
  (repeat' split)
  · exact .refl s
  · exact coarseSample_holdKept h _
  · exact fineSample_holdKept h _
  · exact .refl s
  · exact .of_same (by simp)

theorem countFrame_holdKept {s : State} (h : s.focus.search.sweeping = true) (a : Announcement) (r : StatRecord) :
    HoldKept s (countFrame a r s) := by
  have counted : HoldKept s (s.onFocus (fun f => { f with framesUsed := f.framesUsed + 1 })) := .of_same (by simp)
  refine counted.trans ?_
  simp only [countFrame]
  split
  · exact failSearch_holdKept _ _
  · exact sweepFrame_holdKept (by simpa using h) a r

theorem focusWork_holdKept (a : Announcement) (r : StatRecord) : HoldKept s (focusWork a r s) := by
  simp only [focusWork]
  (repeat' split)
  · exact .refl s
  · exact countFrame_holdKept ‹_› a r
  · exact holdingSample_holdKept s _ r
  · exact .refl s
  · exact .refl s

/-! ## Notices (R99, R103, R106, R108) -/

theorem alarmWork_holdKept (v : Alarm) (n : BitVec 32) : HoldKept s (alarmWork v n s) := by
  simp only [alarmWork]
  (repeat' split)
  · exact .trans (.of_same (by simp)) (abandonSearch_holdKept _ _ _)
  · exact .of_same (by simp)
  · exact .of_same (by simp)
  · exact .refl s
  · exact .refl s

theorem sceneWork_holdKept (n : BitVec 32) : HoldKept s (sceneWork n s) := by
  simp only [sceneWork]
  (repeat' split)
  · exact .refl s
  · exact restartSearch_holdKept s _
  · exact .of_same (by simp)
  · exact .refl s

theorem focusMoveEndWork_holdKept (b : Bool) : HoldKept s (focusMoveEndWork b s) := by
  simp only [focusMoveEndWork]
  (repeat' split)
  · exact .trans (.of_same (by simp)) (lockFocus_holdKept _)
  · exact .of_same (by simp)
  · exact .refl s

theorem lensFaultWork_holdKept : HoldKept s (lensFaultWork s) := by
  simp only [lensFaultWork]; split
  · exact .refl s
  · exact .of_search (by simp [FocusController.settleIn, SearchState.sweeping]) (by simp [FocusController.settleIn])
      (by simp)

theorem zoomStartedWork_holdKept : HoldKept s (zoomStartedWork s) := by
  simp only [zoomStartedWork]
  (repeat' split)
  · exact abandonSearch_holdKept s _ _
  · exact .of_same (by simp)
  · exact .of_same (by simp)

theorem zoomStoppedWork_holdKept : HoldKept s (zoomStoppedWork s) := by
  simp only [zoomStoppedWork]; split
  · exact .of_same (by simp)
  · exact .refl s

/-! ## Commands of the focus (R96, R100, R106, R109, R110) -/

@[simp] theorem clearLock_sweep (f : FocusController) :
    f.clearLock.search = f.search ∧ f.clearLock.aeHold = f.aeHold ∧ f.clearLock.samples = f.samples := ⟨rfl, rfl, rfl⟩

theorem leaveLock_holdKept (n : FocusNote) : HoldKept s (leaveLock n s) :=
  .of_search (by simp [leaveLock, FocusController.settleIn, SearchState.sweeping])
    (by simp [leaveLock, FocusController.settleIn]) (by simp [leaveLock])

theorem complete_holdKept (st : Status) (v : Int) : HoldKept s (complete st v s) := .of_same (by simp)

theorem startFocusWork_holdKept : HoldKept s (startFocusWork s) := by
  simp only [startFocusWork]
  (repeat' split)
  · exact complete_holdKept s _ _
  · exact (startSearch_holdKept s _).trans (complete_holdKept _ _ _)
  · exact complete_holdKept s _ _

theorem cancelFocusWork_holdKept : HoldKept s (cancelFocusWork s) := by
  simp only [cancelFocusWork]
  refine .trans ?_ (complete_holdKept _ _ _)
  (repeat' split)
  · exact abandonSearch_holdKept s _ _
  · exact .refl s
  · exact .trans (.of_same (by simp)) (leaveLock_holdKept _ _)

theorem moveFocusWork_holdKept (p : Nat) : HoldKept s (moveFocusWork p s) := by
  simp only [moveFocusWork]; (repeat' split) <;> exact .of_same (by simp)

theorem moveFocusTaken_holdKept (c : Nat) (b : Bool) : HoldKept s (moveFocusTaken c b s) := by
  have told : HoldKept s (focusAsksZoom (.position c) s) := .of_same (by simp)
  have left : HoldKept s (leaveLock { cause := .moved } ((focusAsksZoom (.position c) s).onFocus FocusController.clearLock)) :=
    .trans (.of_same (by simp)) (leaveLock_holdKept _ _)
  have completes (u : State) : HoldKept u (if b then complete .clamped c u else completeDone u) := by
    split <;> exact complete_holdKept ..
  refine .trans ?_ (completes _)
  split
  · exact left
  · exact left
  · exact left
  · exact told

theorem applyFocusMode_holdKept (m : FocusMode) : HoldKept s (applyFocusMode m s) := by
  simp only [applyFocusMode]
  split
  · exact .of_kind (by simp_all [SearchState.sweeping]) (by simp)
  · exact .of_kind (by simp_all [SearchState.sweeping]) (by simp)
  · exact leaveLock_holdKept s _
  · exact leaveLock_holdKept s _
  · exact .of_search (by simp [FocusController.settleIn, SearchState.sweeping]) (by simp [FocusController.settleIn])
      (by simp)
  · exact .refl s

theorem setFocusModeWork_holdKept (a b c d e : Nat) : HoldKept s (setFocusModeWork a b c d e s) := by
  simp only [setFocusModeWork]
  (repeat' split)
  · exact complete_holdKept s _ _
  · exact .trans (.trans (.of_same (by simp)) (applyFocusMode_holdKept _ _)) (complete_holdKept _ _ _)
  · exact complete_holdKept s _ _

theorem setFocusWindowsWork_holdKept (w : List FocusWindow) : HoldKept s (setFocusWindowsWork w s) := by
  simp only [setFocusWindowsWork]; (repeat' split) <;> exact .of_same (by simp)

theorem leaveViewFocus_holdKept : HoldKept s (leaveViewFocus s) := by
  simp only [leaveViewFocus]
  (repeat' split)
  · exact abandonSearch_holdKept s _ _
  · exact .refl s
  · exact leaveLock_holdKept s _

/-! ## Requests to the Lens Drive (R70) -/

theorem targetAnswered_holdKept (r : Requester) (p : Nat) (w : RequestPurpose) (b : Bool) :
    HoldKept s (targetAnswered r p w b s) := by
  simp only [targetAnswered]
  (repeat' split)
  case h_4 => exact moveFocusTaken_holdKept s _ _
  all_goals exact .of_same (by simp)

theorem targetRequest_holdKept (r : Requester) (m : Motor) (p : Nat) (w : RequestPurpose) :
    HoldKept s (targetRequest r m p w s) := by
  simp only [targetRequest]; split
  · exact .trans (.of_same (by simp)) (targetAnswered_holdKept ..)
  · exact targetAnswered_holdKept ..

theorem stopRequest_holdKept (m : Motor) (w : RequestPurpose) : HoldKept s (stopRequest m w s) := by
  simp only [stopRequest]; split <;> exact .of_same (by simp)

/-! ## The exposure history (R44, R65) -/

theorem exposureWork_holdKept (l : ExposureLatch) (a : Announcement) (r : StatRecord) :
    HoldKept s (exposureWork l a r s) := by
  refine ⟨by simp [HoldMatchesSearch], by simp, fun h => ?_⟩
  cases hm : s.command.mode with
  | view => simp [exposureWork, hm, exposureViewWork, reportIssue, pushHistory_length]
  | standby => simpa [exposureWork, hm] using h

theorem takeExposureWork_holdKept {s u : State} (h : takeExposureWork s = some u) : HoldKept s u := by
  simp only [takeExposureWork] at h
  split at h
  · split at h <;> cases h
    · exact .trans (.of_same (by simp)) (exposureWork_holdKept ..)
    · exact .of_same (by simp)
  · cases h

theorem setModeViewWork_holdKept : HoldKept s (setModeViewWork s) := by
  have entered : HoldKept s (enterView s) :=
    ⟨by simp [HoldMatchesSearch], by simp, by simp [enterView, enterViewExposure]⟩
  simp only [setModeViewWork]
  (repeat' split)
  · exact complete_holdKept s _ _
  · exact entered.trans (complete_holdKept _ _ _)
  · exact complete_holdKept s _ _

theorem setModeStandbyWork_holdKept : HoldKept s (setModeStandbyWork s) := by
  simp only [setModeStandbyWork]; split
  · exact complete_holdKept s _ _
  · have left := leaveViewFocus_holdKept (abandonFrame (s.onCommand (fun c => { c with mode := .standby })))
    exact .trans (.trans (.of_same (by simp)) left) (.of_same (by simp))

theorem setModeWork_holdKept (m : BitVec 8) : HoldKept s (setModeWork m s) := by
  simp only [setModeWork]
  (repeat' split)
  · exact setModeViewWork_holdKept s
  · exact setModeStandbyWork_holdKept s
  · exact complete_holdKept s _ _

theorem softResetWork_holdKept : HoldKept s (softResetWork s) := by
  refine ⟨fun _ => ?_, fun _ => ?_, fun _ => ?_⟩ <;>
    simp [HoldMatchesSearch, softResetWork, softResetBlocks, softResetFocus, FocusController.reset, softResetExposure]

theorem commitImage_holdKept {k : TableKind} {b : List Byte} {t : State} (h : commitImage k b s = some t) : HoldKept s t := by
  cases k <;> simp only [commitImage] at h <;> split at h <;> simp at h <;> subst h <;> exact .of_same (by simp)

theorem finishImage_holdKept (t : Staging) : HoldKept s (finishImage t s) := by
  simp only [finishImage]; split
  · exact .trans (commitImage_holdKept s ‹_›) (.of_same (by simp))
  · exact .of_same (by simp)

theorem tableReturned_holdKept (o : Nat) (e : Bool) (d : List LinkWord) (t : Staging) :
    HoldKept s (tableReturned o e d t s) := by
  simp only [tableReturned]; split
  · exact .of_same (by simp)
  · split
    · simp only [headerReturned]; split
      · split
        · exact finishImage_holdKept s _
        · exact .of_same (by simp)
      · exact .of_same (by simp)
    · simp only [restReturned]; split
      · exact finishImage_holdKept s _
      · exact .of_same (by simp)

/-! ## Parameter commands -/

theorem setMeteringWork_holdKept (a b c d e f : Nat) : HoldKept s (setMeteringWork a b c d e f s) := by
  simp only [setMeteringWork]; split <;> exact .of_same (by simp)
theorem setExposureModeWork_holdKept (m : Nat) : HoldKept s (setExposureModeWork m s) := by
  simp only [setExposureModeWork]; split <;> exact .of_same (by simp)
theorem setCompensationWork_holdKept (v : Int) : HoldKept s (setCompensationWork v s) := by
  simp only [setCompensationWork]; split <;> exact .of_same (by simp)
theorem setManualExposureWork_holdKept (a : BitVec 32) (b : BitVec 16) (c : BitVec 8) :
    HoldKept s (setManualExposureWork a b c s) := by
  simp only [setManualExposureWork]; split <;> exact .of_same (by simp)

/-! ## Every command -/

section
variable {s} {t : State}

theorem finish_holdKept {u : State} (h : HoldKept s u) (ht : finish s u = .next t) : HoldKept s t := by
  cases ht; exact h.trans (.settle s u)

theorem notDue_holdKept (ht : notDue s = .next t) : HoldKept s t := by cases ht; exact .refl s

theorem finishIf_holdKept {o : Option State} (h : ∀ u, o = some u → HoldKept s u) (ht : finishIf s o = .next t) :
    HoldKept s t := by
  cases o with
  | none => exact notDue_holdKept ht
  | some u => exact finish_holdKept (h u rfl) ht

theorem finishIf_map_holdKept {α : Type} {o : Option α} {f : α → State} (h : ∀ x, HoldKept s (f x))
    (ht : finishIf s (o.map f) = .next t) : HoldKept s t := by
  cases o with
  | none => exact notDue_holdKept ht
  | some x => exact finish_holdKept (h x) ht

theorem runCommand_holdKept {code tag : BitVec 16} {work : State → State} (h : ∀ u, HoldKept u (work u))
    (ht : runCommand code tag work s = .next t) : HoldKept s t := by
  obtain ⟨-, rfl⟩ | ⟨-, rfl⟩ := runCommand_cases ht
  · exact ((HoldKept.executing code tag s).trans (h _)).trans (.settle s _)
  · exact .refl t

theorem takeHeadIf_holdKept {kind : State → HostRequest → Bool} {now : Nat} (ht : takeHeadIf kind now s = .next t) :
    HoldKept s t := by
  obtain ⟨r, -, -, rfl⟩ | rfl := takeHeadIf_cases ht
  · exact .trans (.of_same (by simp)) (.settle s _)
  · exact .refl t

/-- Every command keeps the AE hold on the sweeping states, and the two lists bounded. -/
theorem exec_holdKept {c : Instr} (ht : exec c s = .next t) : HoldKept s t := by
  cases c with
  | powerOnReset =>
    cases ht
    refine ⟨fun _ => ?_, fun _ => ?_, fun _ => ?_⟩ <;>
      simp [HoldMatchesSearch, State.resetWith, FocusController.reset, ExposureController.reset]
  -- the link and the writes that leave the part
  | captureApertureWrite | captureApertureRead | viewApertureRead | viewWrite | plainRequest | commandTail | triggerToggle
  | reportHead | attentionMask =>
    simp only [exec, execCaptureApertureWrite, execCaptureApertureRead, execViewApertureRead, execViewWrite,
      execPlainRequest, execCommandTail, execTriggerToggle, execReportHead, execAttentionMask] at ht
    exact takeHeadIf_holdKept ht
  | hostRequest | downstreamGrant | downstreamReadResponse | viewStale | slotImageWrite | statusBlockWrite | reportWrite
  | commandFetch =>
    simp only [exec, execHostRequest, execDownstreamGrant, execDownstreamReadResponse, execViewStale, execSlotImageWrite,
      execStatusBlockWrite, execReportWrite, execCommandFetch, finish, notDue] at ht
    (repeat' split at ht) <;> cases ht <;> exact .of_same (by simp)
  -- the slots, the captures and the steadying
  | holdRequest | unholdRequest | keepRequest | releaseRequest =>
    exact finishIf_map_holdKept (fun r => .of_same (by simp)) ht
  | pinRequest | unpinRequest =>
    simp only [exec, execPinRequest, execUnpinRequest, finish, notDue] at ht
    (repeat' split at ht) <;> cases ht <;> exact .of_same (by simp)
  | captureCompletion | captureTrigger =>
    simp only [exec, execCaptureCompletion, execCaptureTrigger, finish, notDue] at ht
    (repeat' split at ht) <;> cases ht <;> exact .of_same (by simp)
  | captureSlotAnswer =>
    refine finishIf_holdKept (fun u hu => ?_) ht
    simp only [takeAnswer] at hu
    split at hu <;> cases hu
    exact .of_same (by simp)
  | steadyCompletionWork =>
    refine finishIf_holdKept (fun u hu => ?_) ht
    simp only [takeSteadyWork] at hu
    (repeat' split at hu) <;> cases hu <;> exact .of_same (by simp)
  | statisticsCompletionWork => exact finishIf_map_holdKept (fun m => .of_same (by simp)) ht
  | exposureCompletionWork => exact finishIf_holdKept (fun _ => takeExposureWork_holdKept) ht
  -- the notices the blocks take
  | takeReference | dropReference | trackingAnswer | zoomPositionHandover | zoomStart | zoomEnd | zoomMoveEnd
  | zoomStepLoss | lensStateChange | setFromPosition | setFraction =>
    simp only [exec, execTakeReference, execDropReference, execTrackingAnswer, execZoomPositionHandover, execZoomStart,
      execZoomEnd, execZoomMoveEnd, execZoomStepLoss, execLensStateChange, execSetFromPosition, execSetFraction, finish,
      notDue] at ht
    (repeat' split at ht) <;> cases ht <;> exact .of_same (by simp)
  | lensSegmentDone | faultAnswer | segmentTimeout => exact finishIf_map_holdKept (fun g => .of_same (by simp)) ht
  | noHome =>
    simp only [exec, execNoHome] at ht; split at ht
    · exact finishIf_map_holdKept (fun g => .of_same (by simp)) ht
    · exact notDue_holdKept ht
  | focusCompletionWork =>
    simp only [exec, execFocusCompletionWork] at ht; split at ht
    · exact finish_holdKept (.trans (.of_same (by simp)) (focusWork_holdKept ..)) ht
    · exact notDue_holdKept ht
  | focusFrameLimit =>
    simp only [exec, execFocusFrameLimit] at ht; split at ht
    · split at ht
      · rename_i limit
        exact finish_holdKept (.trans (.of_same (by simp)) (countFrame_holdKept (by simpa using limit.2.1) ..)) ht
      · exact notDue_holdKept ht
    · exact notDue_holdKept ht
  | exposureAlarm =>
    simp only [exec, execExposureAlarm] at ht; split at ht
    · exact finish_holdKept (.trans (.of_same (by simp [popFocusExposure])) (alarmWork_holdKept ..)) ht
    · exact notDue_holdKept ht
  | sceneChanged =>
    simp only [exec, execSceneChanged] at ht; split at ht
    · exact finish_holdKept (.trans (.of_same (by simp [popFocusExposure])) (sceneWork_holdKept ..)) ht
    · exact notDue_holdKept ht
  | focusMoveEnd =>
    simp only [exec, execFocusMoveEnd] at ht; split at ht
    · exact finish_holdKept (.trans (.of_same (by simp [popFocusLens])) (focusMoveEndWork_holdKept ..)) ht
    · exact notDue_holdKept ht
  | focusStepLoss =>
    simp only [exec, execFocusStepLoss] at ht; split at ht
    · refine finish_holdKept (.trans (t := popFocusLens s) (.of_same (by simp [popFocusLens])) ?_) ht
      split
      · exact abandonSearch_holdKept ..
      · exact .refl _
    · exact notDue_holdKept ht
  | lensFault =>
    simp only [exec, execLensFault] at ht; split at ht
    · exact finish_holdKept (.trans (.of_same (by simp [popFocusLens])) (lensFaultWork_holdKept _)) ht
    · exact notDue_holdKept ht
  | zoomStarted =>
    simp only [exec, execZoomStarted] at ht; split at ht
    · exact finish_holdKept (.trans (.of_same (by simp [popFocusZoom])) (zoomStartedWork_holdKept _)) ht
    · exact notDue_holdKept ht
  | zoomStopped =>
    simp only [exec, execZoomStopped] at ht; split at ht
    · exact finish_holdKept (.trans (.of_same (by simp [popFocusZoom])) (zoomStoppedWork_holdKept _)) ht
    · exact notDue_holdKept ht
  | targetRequest =>
    simp only [exec, execTargetRequest] at ht; split at ht
    · exact finish_holdKept (.trans (.of_same (by simp)) (targetRequest_holdKept ..)) ht
    · exact notDue_holdKept ht
  | stopRequest =>
    simp only [exec, execStopRequest] at ht; split at ht
    · exact finish_holdKept (.trans (.of_same (by simp)) (stopRequest_holdKept ..)) ht
    · exact notDue_holdKept ht
  | tableFetchReturn =>
    simp only [exec, execTableFetchReturn] at ht; split at ht
    · exact finish_holdKept (.trans (.of_same (by simp)) (tableReturned_holdKept ..)) ht
    · exact notDue_holdKept ht
  | softResetComplete =>
    simp only [exec, execSoftResetComplete] at ht; split at ht
    · exact finish_holdKept (.of_same (by simp)) ht
    · exact notDue_holdKept ht
  -- the host commands
  | unknownCommand =>
    simp only [exec, execUnknownCommand] at ht; split at ht
    · exact notDue_holdKept ht
    · exact runCommand_holdKept (fun u => complete_holdKept u _ _) ht
  | memoryError => exact runCommand_holdKept (work := complete .memoryError 0) (fun u => complete_holdKept u _ _) ht
  | setMetering => exact runCommand_holdKept (fun u => setMeteringWork_holdKept u _ _ _ _ _ _) ht
  | setExposureMode => exact runCommand_holdKept (fun u => setExposureModeWork_holdKept u _) ht
  | setCompensation => exact runCommand_holdKept (fun u => setCompensationWork_holdKept u _) ht
  | setManualExposure => exact runCommand_holdKept (fun u => setManualExposureWork_holdKept u _ _ _) ht
  | setStatistics | homeLens | parkLens | setLensDrive | zoomTo | zoomStop | setSteady | recenterSteady | setViewSource
  | armCapture | stopCapture | releaseSlot | configureFrame | loadTable =>
    exact runCommand_holdKept (fun u => .of_same (by simp)) ht
  | setFocusMode => exact runCommand_holdKept (fun u => setFocusModeWork_holdKept u _ _ _ _ _) ht
  | setFocusWindows => exact runCommand_holdKept (fun u => setFocusWindowsWork_holdKept u _) ht
  | startFocus => exact runCommand_holdKept (fun u => startFocusWork_holdKept u) ht
  | cancelFocus => exact runCommand_holdKept (fun u => cancelFocusWork_holdKept u) ht
  | moveFocus => exact runCommand_holdKept (fun u => moveFocusWork_holdKept u _) ht
  | setModeView => exact runCommand_holdKept (fun u => setModeWork_holdKept u _) ht
  | setModeStandby => exact runCommand_holdKept (fun u => setModeStandbyWork_holdKept u) ht
  | softReset => exact runCommand_holdKept (fun u => softResetWork_holdKept u) ht

end

/-- Settles O51: an idle step keeps everything, and every command keeps the hold and the lists. -/
theorem stepKeepsTheHoldAndTheBoundedLists : Obligations.StepKeepsTheHoldAndTheBoundedLists := by
  intro s t ht
  have kept : HoldKept s t := by
    unfold step at ht
    split at ht
    · rename_i c rest _
      have popped : HoldKept s { s with pending := rest } := .of_same ⟨rfl, rfl, rfl, rfl⟩
      exact popped.trans (exec_holdKept ht)
    · cases ht; exact .refl _
  exact ⟨kept.hold, kept.lists⟩

end Sys2Proof.Machine
end

section
/-!
SET COMPENSATION (O6).
-/
namespace Sys2Proof.Machine

/-- A change of the exposure parameters and the completion of the command that makes it (R61 to R64). -/
theorem complete_onParams (code tag : BitVec 16) (st : Status) (v : Int) (f : ExposureParams → ExposureParams)
    (s : State) : complete st v (onParams f (executing code tag s)) = answered code tag st v (onParams f s) := rfl

theorem setCompensation_runs {s : State} (tag v : BitVec 16) (arrives : CommandArrives s) :
    exec (.setCompensation tag v) s =
      .next (settle s (setCompensationWork v.toInt (executing 0x0303 tag s))) :=
  runCommand_of_arrives codeSetCompensation tag _ arrives

/-- A value in the range is written as it is (R62). -/
theorem setCompensationWork_of_mem {s : State} (tag : BitVec 16) {v : Int} (low : -96 ≤ v) (high : v ≤ 96) :
    setCompensationWork v (executing 0x0303 tag s) =
      answered 0x0303 tag .done 0 (onParams (fun p => { p with compensation := v }) s) := by
  simp only [setCompensationWork, clampInt_of_mem low high, if_true, completeDone, complete_onParams]

/-- A value that the clamp changes is written clamped, and CLAMPED carries what was written (R62). -/
theorem setCompensationWork_of_clamped {s : State} (tag : BitVec 16) {v c : Int} (clamped : clampInt (-96) 96 v = c)
    (ne : c ≠ v) : setCompensationWork v (executing 0x0303 tag s) =
      answered 0x0303 tag .clamped c (onParams (fun p => { p with compensation := c }) s) := by
  simp only [setCompensationWork, clamped, if_neg ne, complete_onParams]

/-- Settles O6. -/
theorem setCompensationClampsTo96 : Obligations.SetCompensationClampsTo96 := by
  refine ⟨fun tag v s arrives => ?_, fun p r c => ?_, fun strap => rfl⟩
  · rw [setCompensation_runs tag v arrives]
    refine ⟨fun ⟨low, high⟩ => ?_, fun above => ?_, fun below => ?_⟩
    · rw [setCompensationWork_of_mem tag low high]; rfl
    · rw [setCompensationWork_of_clamped tag (c := 96) (by unfold clampInt; split <;> omega) (by omega)]; rfl
    · rw [setCompensationWork_of_clamped tag (c := -96) (by unfold clampInt; split <;> omega) (by omega)]; rfl
  · simp only [meterReading]; omega

end Sys2Proof.Machine
end

section
/-!
The logarithm, the antilogarithm and the gain codes of R41 and R42 (O40).
-/
namespace Sys2Proof.Machine

/-- The value of L between two powers of 2 (R41). -/
theorem logL_eq {x e : Nat} (low : 2 ^ e ≤ x) (high : x < 2 ^ (e + 1)) :
    logL x = 32 * e + 32 * (x - 2 ^ e) / 2 ^ e := by
  have positive : 1 ≤ x := Nat.one_le_two_pow.trans low
  have log : Nat.log2 x = e := (Nat.log2_eq_iff (by omega)).mpr ⟨low, high⟩
  simp only [logL, Nat.max_eq_right positive, log]

theorem logL_zero : logL 0 = 0 := by decide

/-- Every `x` but 0 lies between two powers of 2, and L between their logarithms. -/
theorem logL_bounds {x : Nat} (h : x ≠ 0) :
    ∃ e, 2 ^ e ≤ x ∧ x < 2 ^ (e + 1) ∧ 32 * e ≤ logL x ∧ logL x < 32 * (e + 1) := by
  obtain ⟨low, high⟩ := (Nat.log2_eq_iff h).mp rfl
  refine ⟨_, low, high, ?_⟩
  rw [logL_eq low high]
  have fraction : 32 * (x - 2 ^ x.log2) / 2 ^ x.log2 < 32 := by
    rw [Nat.div_lt_iff_lt_mul Nat.one_le_two_pow]; omega
  exact ⟨Nat.le_add_right _ _, by omega⟩

/-- L never falls (R41). -/
theorem logL_mono {x y : Nat} (h : x ≤ y) : logL x ≤ logL y := by
  by_cases zero : x = 0
  · rw [zero, logL_zero]; exact Nat.zero_le _
  · obtain ⟨e, lowX, highX, -, aboveX⟩ := logL_bounds zero
    obtain ⟨k, lowY, highY, belowY, -⟩ := logL_bounds (x := y) (by omega)
    have order : e ≤ k := by
      have := (Nat.pow_lt_pow_iff_right (by omega : 1 < 2)).mp (Nat.lt_of_le_of_lt (lowX.trans h) highY)
      omega
    rcases Nat.eq_or_lt_of_le order with same | less
    · subst same
      rw [logL_eq lowX highX, logL_eq lowY highY]
      exact Nat.add_le_add_left (Nat.div_le_div_right (by omega)) _
    · omega

/-- L inverts the steps of a thirty-second of a power of 2 (R41). -/
theorem logL_step {r : Nat} (hr : r < 32) (q : Nat) : logL ((32 + r) * 2 ^ q) = 32 * (q + 5) + r := by
  have scale : 2 ^ (q + 5) = 32 * 2 ^ q := by rw [Nat.pow_add, Nat.mul_comm]
  have width : r * 2 ^ q < 32 * 2 ^ q := Nat.mul_lt_mul_of_pos_right hr Nat.one_le_two_pow
  have split : (32 + r) * 2 ^ q = 32 * 2 ^ q + r * 2 ^ q := Nat.add_mul ..
  rw [logL_eq (e := q + 5) (by omega) (by rw [Nat.pow_succ]; omega), split, scale, Nat.add_sub_cancel_left,
    Nat.mul_div_mul_left _ _ (by omega), Nat.mul_div_cancel _ Nat.one_le_two_pow]

/-- The gain level of a gain code gives the level back (R42). -/
theorem gainLevelOf_gainCodeOf (g : Nat) : gainLevelOf (gainCodeOf g) = g := by
  simp only [gainLevelOf, gainCodeOf, Nat.mul_div_cancel _ (by omega : 0 < 8), logL_step (Nat.mod_lt g (by omega))]
  omega

/-- The antilogarithm rounds down, so L of it does not pass the level (R42). -/
theorem logL_antilog_le (t : Nat) : logL (antilog t) ≤ t := by
  have fraction : t % 32 < 32 := Nat.mod_lt _ (by omega)
  have width : t % 32 * 2 ^ (t / 32) < 32 * 2 ^ (t / 32) := Nat.mul_lt_mul_of_pos_right fraction Nat.one_le_two_pow
  have split : (32 + t % 32) * 2 ^ (t / 32) = 32 * 2 ^ (t / 32) + t % 32 * 2 ^ (t / 32) := Nat.add_mul ..
  have low : 2 ^ (t / 32) ≤ antilog t := by unfold antilog; omega
  have high : antilog t < 2 ^ (t / 32 + 1) := by unfold antilog; rw [Nat.pow_succ]; omega
  have floor : 32 * (antilog t - 2 ^ (t / 32)) / 2 ^ (t / 32) ≤ t % 32 :=
    Nat.div_le_of_le_mul (by unfold antilog; rw [Nat.mul_comm (2 ^ _)]; omega)
  rw [logL_eq low high]
  omega

/-- From level 160 on the antilogarithm is exact (R42). -/
theorem logL_antilog {t : Nat} (h : 160 ≤ t) : logL (antilog t) = t := by
  have scale : 2 ^ (t / 32) = 2 ^ (t / 32 - 5) * 32 := by rw [← Nat.pow_add 2 _ 5]; congr 1; omega
  have exact_ : antilog t = (32 + t % 32) * 2 ^ (t / 32 - 5) := by
    rw [antilog, scale, ← Nat.mul_assoc, Nat.mul_div_cancel _ (by omega)]
  rw [exact_, logL_step (Nat.mod_lt t (by omega))]
  omega

/-- Settles O40: L between two powers of 2, and the levels by their whole and fractional parts. -/
theorem logarithmIsExactAndMonotone : Obligations.LogarithmIsExactAndMonotone := by
  refine ⟨fun x e => logL_eq, logL_zero, fun x y => logL_mono, fun x h => ?_, fun x h => ?_, fun e f h => ?_,
    fun c => rfl, gainLevelOf_gainCodeOf, logL_antilog_le, fun t => logL_antilog⟩
  · exact (logL_mono h).trans (by decide)
  · exact (logL_mono (Nat.le_pred_of_lt h)).trans (by decide)
  · have whole : (32 * e + f) / 32 = e := by omega
    have fraction : (32 * e + f) % 32 = f := by omega
    rw [antilog, gainCodeOf, whole, fraction, Nat.mul_comm (32 + f)]
    exact ⟨rfl, rfl⟩

end Sys2Proof.Machine
end

section
/-!
The set of the program line and the manual set (O41; R53 to R57, R64).
-/
namespace Sys2Proof.Machine

theorem clampNat_eq {lo hi : Nat} (h : lo ≤ hi) (x : Nat) : clampNat lo hi x = max lo (min hi x) := by
  unfold clampNat; split <;> (try split) <;> omega

theorem clampInt_eq {lo hi : Int} (h : lo ≤ hi) (x : Int) : clampInt lo hi x = max lo (min hi x) := by
  unfold clampInt; split <;> (try split) <;> omega

/-! ## The lens values that are read (R40, R53) -/

theorem lensReady_iff {s : State} : lensReady s = true ↔ s.lens.mode = .ready := by simp [lensReady]

theorem lensValues_ready {s : State} {d : Derived} (ready : s.lens.mode = .ready) (derived : s.zoom.derived = some d) :
    lensValues s = d.lensValues := by
  simp [lensValues, lensReady_iff.mpr ready, derived]

theorem lensValues_notReady {s : State} (h : s.lens.mode ≠ .ready) : lensValues s = s.exposure.held := by
  have : lensReady s = false := by simpa [lensReady] using h
  simp [lensValues, this]

/-! ## The iris (R54, R57) -/

/-- The aperture level at a stop. -/
def LensValues.level (v : LensValues) (st : Nat) : Nat := v.alOpen + st * v.stepAl

/-- The while-step of R54 from stop `st`: it closes the iris over every stop at which TL stays below TL_min, and ends at the
last stop, at a stop that reaches TL_min, or when the fuel is used. -/
theorem closeIris_spec (v : LensValues) (target : Int) (tlMin last fuel st : Nat) :
    ∃ k, closeIris target tlMin v.stepAl last fuel st (v.level st) = (k, v.level k) ∧ st ≤ k ∧ k ≤ max st last ∧
      (∀ j, st ≤ j → j < k → target + v.level j < tlMin) ∧
      (k = st + fuel ∨ last ≤ k ∨ (tlMin : Int) ≤ target + v.level k) := by
  induction fuel generalizing st with
  | zero => exact ⟨st, rfl, Nat.le_refl _, Nat.le_max_left _ _, fun j h h' => absurd h' (by omega), .inl rfl⟩
  | succ fuel ih =>
    by_cases closes : target + v.level st < tlMin ∧ st < last
    · obtain ⟨k, result, from_, upto, dark, ends⟩ := ih (st + 1)
      have next : v.level st + v.stepAl = v.level (st + 1) := by simp only [LensValues.level]; ring
      refine ⟨k, ?_, by omega, by omega, fun j h h' => ?_, by omega⟩
      · rw [closeIris, if_pos closes, next, result]
      · rcases Nat.eq_or_lt_of_le h with rfl | later
        · exact closes.1
        · exact dark j later h'
    · exact ⟨st, by rw [closeIris, if_neg closes], Nat.le_refl _, Nat.le_max_left _ _,
        fun j h h' => absurd h' (by omega), by omega⟩

/-- The stop and AL with the lens READY: the first stop that reaches TL_min, or the last (R54). -/
theorem irisPart_ready (p : ProgramTable) (v : LensValues) (standing : Nat) (target : Int) :
    ∃ k, irisPart p v false standing target = (k, v.level k) ∧ k ≤ v.stops - 1 ∧
      (∀ j < k, target + v.level j < p.tlMin) ∧ (k < v.stops - 1 → (p.tlMin : Int) ≤ target + v.level k) := by
  obtain ⟨k, result, -, upto, dark, ends⟩ := closeIris_spec v target p.tlMin (v.stops - 1) v.stops 0
  have start : v.level 0 = v.alOpen := by simp [LensValues.level]
  rw [start] at result
  exact ⟨k, by simpa [irisPart] using result, by omega, fun j h => dark j (Nat.zero_le j) h, fun h => by omega⟩

/-- The stop and AL with the lens not READY: the standing stop (R57). -/
theorem irisPart_held (p : ProgramTable) (v : LensValues) (standing : Nat) (target : Int) :
    irisPart p v true standing target = (min standing (v.stops - 1), v.level (min standing (v.stops - 1))) := rfl

/-! ## Time and gain (R53, R55, R56) -/

theorem gainPart_eq (p : ProgramTable) (hand tl : Nat) : gainPart p hand tl =
    (min (min tl hand + (tl - hand - p.glMax)) p.tlMax, min (tl - hand) p.glMax,
      decide (p.tlMax < min tl hand + (tl - hand - p.glMax))) := by
  simp only [gainPart]
  split
  · rename_i dark; simp [dark, Nat.min_eq_right (Nat.le_of_lt dark)]
  · rename_i reached; simp [reached, Nat.min_eq_left (Nat.not_lt.mp reached)]

/-- The shutter time cut to whole light periods (R56). -/
def wholePeriods (period : Period) (tl : Nat) : Nat := periodUs period * (antilog tl / periodUs period)

theorem flickerPart_off (p : ProgramTable) (tl gl : Nat) :
    flickerPart p .off tl gl = (tl, gl, antilog tl, .off, false) := rfl

theorem flickerPart_exposed {p : ProgramTable} {period : Period} {tl gl : Nat} (on : period ≠ .off)
    (short : antilog tl < periodUs period ∨ logL (wholePeriods period tl) < p.tlMin) :
    flickerPart p period tl gl = (tl, gl, antilog tl, .off, true) := by
  simp only [flickerPart, if_neg on]
  split
  · rfl
  · rename_i fits
    exact if_pos (short.resolve_left fits)

theorem flickerPart_cut {p : ProgramTable} {period : Period} {tl gl : Nat} (on : period ≠ .off)
    (fits : periodUs period ≤ antilog tl) (legal : p.tlMin ≤ logL (wholePeriods period tl)) :
    flickerPart p period tl gl = (logL (wholePeriods period tl), min (gl + (tl - logL (wholePeriods period tl))) p.glMax,
      wholePeriods period tl, period, false) := by
  simp only [flickerPart, if_neg on, if_neg (Nat.not_lt.mpr fits)]
  exact if_neg (Nat.not_lt.mpr legal)

/-- Cutting to whole periods never lengthens the time (R56). -/
theorem logL_wholePeriods_le (period : Period) (tl : Nat) : logL (wholePeriods period tl) ≤ tl :=
  (logL_mono (Nat.mul_div_le _ _)).trans (logL_antilog_le tl)

theorem flickerPart_limits (p : ProgramTable) (period : Period) {tl gl : Nat} (low : p.tlMin ≤ tl) (high : tl ≤ p.tlMax)
    (gain : gl ≤ p.glMax) : p.tlMin ≤ (flickerPart p period tl gl).1 ∧ (flickerPart p period tl gl).1 ≤ p.tlMax ∧
      (flickerPart p period tl gl).2.1 ≤ p.glMax := by
  by_cases on : period = .off
  · subst on; exact ⟨low, high, gain⟩
  · by_cases short : antilog tl < periodUs period ∨ logL (wholePeriods period tl) < p.tlMin
    · rw [flickerPart_exposed on short]; exact ⟨low, high, gain⟩
    · obtain ⟨fits, legal⟩ := not_or.mp short
      rw [flickerPart_cut on (Nat.not_lt.mp fits) (Nat.not_lt.mp legal)]
      exact ⟨Nat.not_lt.mp legal, (logL_wholePeriods_le period tl).trans high, Nat.min_le_right _ _⟩

theorem notReady_eq (s : State) : (!lensReady s) = decide (s.lens.mode ≠ .ready) := by
  rw [Bool.eq_iff_iff]; simp [lensReady]

/-! ## The set of the program line (R53 to R57) -/

section
variable (s : State) (l : ExposureLatch) (period : Period) (target : Int) (n : BitVec 32)

/-- The stop of a program set, and its AL with it (R54, R57). -/
theorem programSet_iris : let e := programSet s l period target n
    e.al = (lensValues s).level e.irisStop ∧ e.irisStop ≤ (lensValues s).stops - 1 ∧
    (s.lens.mode = .ready → (∀ k < e.irisStop, target + (lensValues s).level k < l.program.tlMin) ∧
      (e.irisStop < (lensValues s).stops - 1 → (l.program.tlMin : Int) ≤ target + (lensValues s).level e.irisStop)) ∧
    (s.lens.mode ≠ .ready → e.irisStop = min (standingSet l.program s).irisStop ((lensValues s).stops - 1)) := by
  simp only [programSet, notReady_eq]
  by_cases ready : s.lens.mode = .ready
  · obtain ⟨k, result, upto, dark, ends⟩ :=
      irisPart_ready l.program (lensValues s) (standingSet l.program s).irisStop target
    simp only [ready, ne_eq, not_true, decide_false, result, false_implies, true_implies, and_true]
    exact ⟨trivial, upto, dark, ends⟩
  · simp only [ready, ne_eq, not_false_eq_true, decide_true, irisPart_held, false_implies, true_implies, true_and, and_true]
    exact Nat.min_le_right _ _

/-- TL before the gain part: TL_min where no stop reaches it (R54). -/
def startLevel (p : ProgramTable) (target : Int) (al : Nat) : Nat :=
  if target + al < p.tlMin then p.tlMin else (target + al).toNat

theorem startLevel_ge (p : ProgramTable) (al : Nat) : p.tlMin ≤ startLevel p target al := by
  unfold startLevel; split <;> omega

/-- The time and the gain of a program set, from its AL on (R53, R55, R56). -/
theorem programSet_time : let e := programSet s l period target n
    let g := gainPart l.program (handheldLimit l.program l.steady (lensValues s).focal) (startLevel l.program target e.al)
    (e.tl, e.gl, e.shutter, e.quantised, e.flickerExposed) = flickerPart l.program period g.1 g.2.1 ∧
    e.lightLow = g.2.2 := by
  simp [programSet, startLevel]

theorem handheldLimit_bounds {p : ProgramTable} (limits : p.tlMin ≤ p.tlMax) (steady : Bool) (focal : Nat) :
    p.tlMin ≤ handheldLimit p steady focal ∧ handheldLimit p steady focal ≤ p.tlMax := clampNat_bounds limits _

/-- A program set stays in the limits of its table (R53 to R56). -/
theorem programSet_limits (limits : l.program.tlMin ≤ l.program.tlMax) : let e := programSet s l period target n
    l.program.tlMin ≤ e.tl ∧ e.tl ≤ l.program.tlMax ∧ e.gl ≤ l.program.glMax := by
  intro e
  obtain ⟨handLow, -⟩ := handheldLimit_bounds limits l.steady (lensValues s).focal
  have startLow := startLevel_ge target l.program e.al
  obtain ⟨time, -⟩ := programSet_time s l period target n
  have level := congrArg Prod.fst time
  have gain := congrArg (fun f => f.2.1) time
  simp only [gainPart_eq] at level gain
  obtain ⟨low, high, gainHigh⟩ := flickerPart_limits l.program period
    (tl := min (min (startLevel l.program target e.al) (handheldLimit l.program l.steady (lensValues s).focal) +
      (startLevel l.program target e.al - handheldLimit l.program l.steady (lensValues s).focal - l.program.glMax))
      l.program.tlMax)
    (gl := min (startLevel l.program target e.al - handheldLimit l.program l.steady (lensValues s).focal) l.program.glMax)
    (by omega) (Nat.min_le_right _ _) (Nat.min_le_right _ _)
  exact ⟨level ▸ low, level ▸ high, gain ▸ gainHigh⟩

/-! ## The manual set (R64) -/

theorem manualSet_levels (limits : l.program.tlMin ≤ l.program.tlMax) : let m := manualSet s l period n
    m.tl = max l.program.tlMin (min l.program.tlMax (logL l.params.manualShutter)) ∧
    (m.gl : Int) = max 0 (min (l.program.glMax : Int) (gainLevelOf l.params.manualGain)) := by
  simp only [manualSet, clampNat_eq limits, clampInt_eq (Int.natCast_nonneg l.program.glMax), true_and]
  omega

/-- The stop and AL of a manual set, and what follows from its levels (R64). -/
theorem manualSet_rest : let m := manualSet s l period n
    m.irisStop = min (if s.lens.mode = .ready then l.params.manualIris else (standingSet l.program s).irisStop)
      ((lensValues s).stops - 1) ∧
    m.al = (lensValues s).level m.irisStop ∧ m.xl = (m.tl : Int) + m.gl - m.al ∧
    m.shutter = (if m.tl = logL l.params.manualShutter then l.params.manualShutter else antilog m.tl) ∧
    m.gainCode = (if (m.gl : Int) = gainLevelOf l.params.manualGain then l.params.manualGain else gainCodeOf m.gl) ∧
    m.flickerExposed = decide (period ≠ .off ∧ m.shutter < periodUs period) ∧
    (m.quantised, m.lightHigh, m.lightLow, m.lensHeld, m.source, m.tag) =
      (.off, false, false, decide (s.lens.mode ≠ .ready), .manual, some n) := by
  refine ⟨?_, rfl, rfl, rfl, rfl, (Bool.decide_and ..).symm, by simp [manualSet, notReady_eq]⟩
  by_cases ready : s.lens.mode = .ready <;> simp [manualSet, notReady_eq, ready]

end

/-- The lens values a set is computed from, by the state of the lens (R53, R57, R86). -/
theorem lensValues_read {s : State} {focal alOpen stops stepAl : Nat}
    (h : (∃ d, s.lens.mode = .ready ∧ s.zoom.derived = some d ∧
        (focal, alOpen, stops, stepAl) = (d.focal, d.alOpen, d.stops, d.stepAl)) ∨
      (s.lens.mode ≠ .ready ∧ (focal, alOpen, stops, stepAl) =
        (s.exposure.held.focal, s.exposure.held.alOpen, s.exposure.held.stops, s.exposure.held.stepAl))) :
    lensValues s = { focal := focal, alOpen := alOpen, stops := stops, stepAl := stepAl } := by
  rcases h with ⟨d, ready, derived, values⟩ | ⟨notReady, values⟩
  · cases values; exact lensValues_ready ready derived
  · cases values; exact lensValues_notReady notReady

/-- Settles O41: the limits, then the iris, the time and the gain of a program set, and the manual set. -/
theorem programSetsStayInTheLimits : Obligations.ProgramSetsStayInTheLimits := by
  intro s l period target n limits e
  obtain ⟨low, high, gain⟩ := programSet_limits s l period target n limits
  refine ⟨low, high, gain, rfl, rfl, rfl, ?_⟩
  intro focal alOpen stops stepAl lens p al standing active hand tl0 excess gl tl quantised m mTl mGl
  have values := lensValues_read lens
  obtain ⟨level, last, ready, held⟩ := programSet_iris s l period target n
  obtain ⟨time, lightLow⟩ := programSet_time s l period target n
  obtain ⟨mStop, mLevel, mXl, mShutter, mCode, mFlicker, mMarks⟩ := manualSet_rest s l period n
  obtain ⟨mTime, mGain⟩ := manualSet_levels s l period n limits
  have limit : handheldLimit l.program l.steady focal = hand := clampNat_eq limits _
  have start : startLevel l.program target e.al = tl0 := by rw [level, values]; rfl
  have periods : period ≠ .off → periodUs period = active := by cases period <;> simp [active, periodUs]
  have cut : period ≠ .off → wholePeriods period tl = quantised := fun on => by rw [wholePeriods, periods on]
  rw [values] at level last ready held mStop mLevel
  rw [values, limit, start, gainPart_eq] at time lightLow
  refine ⟨level, last, ready, held, ?_, lightLow, notReady_eq s, rfl, ?_, ?_, ?_, mTime, mGain, mStop, mLevel, mXl, mShutter,
    mCode, ?_, mMarks⟩
  · show decide (target + (e.al : Int) < _) = _
    rw [level]; rfl
  · rintro rfl; exact time
  · intro on short
    rw [← periods on, ← cut on] at short
    exact time.trans (flickerPart_exposed on short)
  · intro on fits legal
    rw [← periods on] at fits
    rw [← cut on] at legal ⊢
    exact time.trans (flickerPart_cut on fits legal)
  · exact mFlicker.trans (decide_eq_decide.mpr (and_congr_right fun on => by rw [periods on]))

end Sys2Proof.Machine
end

section
/-!
The notices between the Exposure Controller and the Focus Controller (O44; R51, R106, R108).
-/
namespace Sys2Proof.Machine
variable {s : State}

/-! ## Rows that are not due -/

theorem takeReference_notDue (h : ∀ n y rest, s.exposure.messages ≠ .take n y :: rest) :
    exec .takeReference s = .next s := by
  simp only [exec, execTakeReference]; rfl

theorem dropReference_notDue (h : ∀ rest, s.exposure.messages ≠ .drop :: rest) : exec .dropReference s = .next s := by
  simp only [exec, execDropReference]; rfl

theorem exposureAlarm_notDue (h : ∀ v n rest, s.focus.fromExposure ≠ .alarm v n :: rest) :
    exec .exposureAlarm s = .next s := by
  simp only [exec, execExposureAlarm]; rfl

theorem sceneChanged_notDue (h : ∀ n rest, s.focus.fromExposure ≠ .sceneChanged n :: rest) :
    exec .sceneChanged s = .next s := by
  simp only [exec, execSceneChanged]; rfl

/-! ## Rows that are due -/

theorem takeReference_due {n : BitVec 32} {y : Nat} {rest : List ReferenceMessage}
    (h : s.exposure.messages = .take n y :: rest) : exec .takeReference s = .next (settle s { s with exposure :=
      { s.exposure with messages := rest, scene := { valid := true, level := logL y, run := 0 } } }) := by
  simp only [exec, execTakeReference, h]; rfl

theorem dropReference_due {rest : List ReferenceMessage} (h : s.exposure.messages = .drop :: rest) :
    exec .dropReference s = .next (settle s { s with exposure :=
      { s.exposure with messages := rest, scene := { s.exposure.scene with valid := false, run := 0 } } }) := by
  simp only [exec, execDropReference, h]; rfl

/-- The alarm at the head is taken, and acts on the state without it. -/
theorem exposureAlarm_due {v : Alarm} {n : BitVec 32} {rest : List FocusExposureNotice} {u : State}
    (h : s.focus.fromExposure = .alarm v n :: rest)
    (acts : alarmWork v n { s with focus := { s.focus with fromExposure := rest } } = u) :
    exec .exposureAlarm s = .next (settle s u) := by
  simp [exec, execExposureAlarm, h, popFocusExposure, State.onFocus, finish, ← acts]

/-- The changed scene at the head is taken, and acts on the state without it. -/
theorem sceneChanged_due {n : BitVec 32} {rest : List FocusExposureNotice} {u : State}
    (h : s.focus.fromExposure = .sceneChanged n :: rest)
    (acts : sceneWork n { s with focus := { s.focus with fromExposure := rest } } = u) :
    exec .sceneChanged s = .next (settle s u) := by
  simp [exec, execSceneChanged, h, popFocusExposure, State.onFocus, finish, ← acts]

/-! ## The alarm (R106) -/

theorem sweeping_iff {x : SearchState} : x.sweeping = true ↔ x = .coarse ∨ x = .fine ∨ x = .peak := by
  cases x <;> simp [SearchState.sweeping]

theorem alarmWork_idle (v : Alarm) (n : BitVec 32) (h : s.focus.search.sweeping = false ∨ v = .unmeasured) :
    alarmWork v n s = s := by
  rcases h with still | rfl
  · simp [alarmWork, still]
  · simp [alarmWork]

theorem alarmWork_near (n : BitVec 32) (sweeps : s.focus.search.sweeping = true) :
    alarmWork .near n s = s.onFocus (fun f => { f with farRun := 0 }) := by simp [alarmWork, sweeps]

/-- The first FAR alarm in a row counts (R106). -/
theorem alarmWork_far_first (n : BitVec 32) (sweeps : s.focus.search.sweeping = true) (first : s.focus.farRun = 0) :
    alarmWork .far n s = s.onFocus (fun f => { f with farRun := 1 }) := by
  simp [alarmWork, sweeps, first, State.onFocus]

/-- The second FAR alarm in a row abandons the search (R106). -/
theorem alarmWork_far_second (n : BitVec 32) (sweeps : s.focus.search.sweeping = true) (second : 1 ≤ s.focus.farRun) :
    alarmWork .far n s = abandonSearch true { cause := .exposure, frame := n }
      (s.onFocus (fun f => { f with farRun := f.farRun + 1 })) := by
  simp [alarmWork, sweeps, second]

/-- What the abandonment of a search leaves (R106): its own move is stopped, and the state is IDLE. -/
theorem abandonSearch_eq (n : FocusNote) : abandonSearch true n s = reportFocus s.focus.search n { s with
    lens := if s.focus.moveMark then { s.lens with fromFocus := s.lens.fromFocus ++ [.stop .focus .plain] } else s.lens,
    focus := s.focus.settleIn .idle } := by
  simp only [abandonSearch, stopOwnMove, if_true]
  split <;> rfl

/-! ## The changed scene (R108) -/

theorem sceneWork_ignored (n : BitVec 32)
    (h : s.focus.zoomPause = true ∨ (s.focus.search ≠ .monitor ∧ s.focus.search ≠ .locked)) : sceneWork n s = s := by
  simp only [sceneWork]
  split
  · rfl
  · obtain ⟨notMonitor, notLocked⟩ := h.resolve_left ‹_›
    split
    · exact absurd ‹_› notMonitor
    · exact absurd ‹_› notLocked
    · rfl

theorem sceneWork_locked (n : BitVec 32) (plain : s.focus.zoomPause = false) (locked : s.focus.search = .locked) :
    sceneWork n s = reportFocus .locked { cause := .sceneChanged, frame := n } s := by
  simp [sceneWork, plain, locked]

theorem sceneWork_monitor (n : BitVec 32) (plain : s.focus.zoomPause = false) (monitor : s.focus.search = .monitor) :
    sceneWork n s = restartSearch { cause := .restartScene, frame := n } s := by
  simp [sceneWork, plain, monitor]

/-- What a restart that may take place leaves (R100, R108). -/
theorem restartSearch_ready (n : FocusNote) {d : Derived} (view : s.command.mode = .view) (ready : s.lens.mode = .ready)
    (derived : s.zoom.derived = some d) (auto : s.focus.mode ≠ .manual) (still : s.zoom.moving = false) :
    restartSearch n s = reportFocus s.focus.search n { s with focus := { s.focus with
      samples := [], best := none, plan := [], framesUsed := 0, farRun := 0, lastFailure := .noReason,
      forward := decide (s.zoom.u ≤ 512), coarseStep := d.coarse, sweep := 1, startPosition := s.lens.focus.position,
      lockFigure := 0, baselinePending := false, baselineSet := 0, zoomPause := false, dropRun := 0, aeHold := true,
      search := .coarse } } := by
  have may : searchReady s = true := by simp [searchReady, view, lensReady, ready, derived, auto]
  simp [restartSearch, may, still, startSearch, State.onFocus, derived]

/-- Settles O44. -/
theorem exposureNoticesReachTheFocus : Obligations.ExposureNoticesReachTheFocus := by
  intro s x f
  refine ⟨takeReference_notDue, fun n y rest => takeReference_due, dropReference_notDue, fun rest => dropReference_due,
    exposureAlarm_notDue, fun v n rest waits => ?_, sceneChanged_notDue, fun n rest waits => ?_⟩
  · intro g sweeping stopped out
    let taken : State := { s with focus := g }
    have sweeps_iff : taken.focus.search.sweeping = true ↔ sweeping := sweeping_iff
    refine ⟨fun idle => exposureAlarm_due waits ?_, fun sweeps near => ?_, fun sweeps far first => ?_,
      fun sweeps far second => ?_⟩
    · exact alarmWork_idle v n (idle.imp_left fun still => Bool.eq_false_iff.mpr (mt sweeps_iff.mp still))
    · subst near; exact exposureAlarm_due waits (alarmWork_near n (sweeps_iff.mpr sweeps))
    · subst far
      exact exposureAlarm_due waits (alarmWork_far_first (s := taken) n (sweeps_iff.mpr sweeps) first)
    · subst far
      exact exposureAlarm_due waits ((alarmWork_far_second (s := taken) n (sweeps_iff.mpr sweeps) second).trans
        (abandonSearch_eq _))
  · intro u out
    refine ⟨fun ignored => sceneChanged_due waits (sceneWork_ignored n ignored),
      fun plain locked => sceneChanged_due waits (sceneWork_locked n plain locked),
      fun d plain monitor view ready derived auto still => sceneChanged_due waits ?_⟩
    have restarted := restartSearch_ready (s := u) { cause := .restartScene, frame := n } view ready derived auto still
    rw [show u.focus.search = .monitor from monitor] at restarted
    exact (sceneWork_monitor (s := u) n plain monitor).trans restarted

end Sys2Proof.Machine
end

section
/-!
How reports wait, merge or are lost, and how REPORT_WRITE places them (O37; R163 to R167).
-/
namespace Sys2Proof.Machine
variable {s : State}

/-! ## General places and losses (R165 to R167) -/

theorem general_iff (y : Report) :
    y.general = true ↔ y.cls = .frame ∨ y.cls = .focus ∨ y.cls = .lens ∨ y.cls = .capture := by
  cases y <;> simp [Report.general, Report.cls]

/-- The general places are the waiting reports of four classes (R165). -/
theorem filter_general (l : List Report) :
    l.filter (fun y => y.cls = .frame ∨ y.cls = .focus ∨ y.cls = .lens ∨ y.cls = .capture) =
      l.filter Report.general :=
  List.filter_congr fun y _ => by rw [Bool.eq_iff_iff, general_iff, decide_eq_true_iff]

theorem giveGeneral_room (x : Report) {r : ReportUnit} (h : (r.waiting.filter Report.general).length < 12) :
    giveGeneral x r = { r with waiting := r.waiting ++ [x] } := if_pos h

theorem giveGeneral_full (x : Report) {r : ReportUnit} (h : 12 ≤ (r.waiting.filter Report.general).length) :
    giveGeneral x r = loseReport x.cls r := if_neg (Nat.not_lt.mpr h)

/-- EVENTS LOST waits behind the others, unless it waits already (R167). -/
theorem eventsLost_behind (r : ReportUnit) : (if r.lostMark then r.waiting else r.waiting ++ [Report.eventsLost]) =
    r.waiting ++ (if r.lostMark then [] else [.eventsLost]) := by
  split <;> simp

theorem loseReport_eq {r : ReportUnit} {c : ReportClass} {l : LostCounters}
    (counted : (loseReport c r).lost = l) : loseReport c r = { r with
      lost := l, lostMark := true, waiting := r.waiting ++ (if r.lostMark then [] else [.eventsLost]) } := by
  rw [← counted, ← eventsLost_behind]
  rfl

theorem giveSummary_highWater (x : Report) {r : ReportUnit} (h : r.highWater = true) :
    giveSummary x r = loseReport .frame r := if_pos h

theorem giveSummary_clear (x : Report) {r : ReportUnit} (h : r.highWater = false) :
    giveSummary x r = giveGeneral x r := by
  simp [giveSummary, h]

/-! ## Merged reports (R165) -/

theorem mergeExposure_behind (e : ExposureReport) {w : List Report} (none : ∀ y ∈ w, y.cls ≠ .exposure) :
    mergeExposure e w = w ++ [.exposureSet e 0] := by
  induction w with
  | nil => rfl
  | cons y w ih =>
    obtain ⟨other, rest⟩ := List.forall_mem_cons.mp none
    cases y with
    | exposureSet => exact absurd rfl other
    | _ => simp [mergeExposure, ih rest]

theorem mergeExposure_merged (e old : ExposureReport) (n : Nat) {pre : List Report} (post : List Report)
    (first : ∀ y ∈ pre, y.cls ≠ .exposure) : mergeExposure e (pre ++ .exposureSet old n :: post) =
      pre ++ .exposureSet e (min 255 (n + 1)) :: post := by
  induction pre with
  | nil => rfl
  | cons y pre ih =>
    obtain ⟨other, rest⟩ := List.forall_mem_cons.mp first
    cases y with
    | exposureSet => exact absurd rfl other
    | _ => simp [mergeExposure, ih rest]

/-- A report that is no fault of the cause is passed over. -/
theorem mergeFault_cons (c : FaultCause) (a : Nat) {y : Report} (w : List Report)
    (other : ∀ n b, y ≠ .pathFault c n b) : mergeFault c a (y :: w) = y :: mergeFault c a w := by
  cases y with
  | pathFault d n b =>
    have different : d ≠ c := fun same => other n b (same ▸ rfl)
    simp [mergeFault, different]
  | _ => rfl

theorem mergeFault_behind (c : FaultCause) (a : Nat) {w : List Report} (none : ∀ n b, .pathFault c n b ∉ w) :
    mergeFault c a w = w ++ [.pathFault c 1 a] := by
  induction w with
  | nil => rfl
  | cons y w ih =>
    simp only [List.mem_cons, not_or, forall_and] at none
    rw [mergeFault_cons c a w fun n b => Ne.symm (none.1 n b), ih none.2]
    rfl

theorem mergeFault_merged (c : FaultCause) (a b n : Nat) {pre : List Report} (post : List Report)
    (first : ∀ m d, .pathFault c m d ∉ pre) : mergeFault c a (pre ++ .pathFault c n b :: post) =
      pre ++ .pathFault c (min 65535 (n + 1)) b :: post := by
  induction pre with
  | nil => simp [mergeFault, satAdd]
  | cons y pre ih =>
    simp only [List.mem_cons, not_or, forall_and] at first
    rw [List.cons_append, mergeFault_cons c a _ fun m d => Ne.symm (first.1 m d), ih first.2]
    rfl

/-! ## The oldest eligible report (R165, R166) -/

theorem eligible_iff (hw : Bool) (x : Report) :
    eligible hw x = true ↔ (hw = true → x.isCompletion = true ∨ x.general = true) := by
  cases x <;> simp [eligible, Report.isCompletion, Report.general]

theorem takeEligible_none {hw : Bool} {w : List Report} (h : ∀ x ∈ w, ¬ eligible hw x = true) :
    takeEligible hw w = none := by
  induction w with
  | nil => rfl
  | cons y w ih =>
    obtain ⟨waits, rest⟩ := List.forall_mem_cons.mp h
    simp [takeEligible, waits, ih rest]

theorem takeEligible_first {hw : Bool} {pre : List Report} {x : Report} (post : List Report)
    (h : ∀ y ∈ pre, ¬ eligible hw y = true) (hx : eligible hw x = true) :
    takeEligible hw (pre ++ x :: post) = some (x, pre ++ post) := by
  induction pre with
  | nil => simp [takeEligible, hx]
  | cons y pre ih =>
    obtain ⟨waits, rest⟩ := List.forall_mem_cons.mp h
    simp [takeEligible, waits, ih rest]

/-! ## REPORT_WRITE (R163, R165 to R167) -/

theorem reportDue_iff : reportDue s = true ↔ (s.report.writeCount - s.report.headCopy).toNat < 512 ∧
    s.link.ownQueue.length < 8 ∧ s.slots.imageWaiting = [] ∧ s.command.waitingReads = [] ∧
    s.report.statusWaiting = false := by
  simp only [reportDue, reportTurn, Bool.and_eq_true, decide_eq_true_iff, ownRoom_iff, List.isEmpty_iff,
    Bool.not_eq_true', and_assoc]
  rfl

theorem reportWrite_notDue (h : reportDue s = false ∨ takeEligible s.report.highWater s.report.waiting = none) :
    exec .reportWrite s = .next s := by
  simp only [exec, execReportWrite]
  rcases h with h | h
  · rw [h]; rfl
  · rw [h]; split <;> simp_all [notDue]

theorem reportWrite_due {x : Report} {rest : List Report} (due : reportDue s = true)
    (oldest : takeEligible s.report.highWater s.report.waiting = some (x, rest)) :
    exec .reportWrite s = .next (settle s (writeReport x rest s)) := by
  simp only [exec, execReportWrite, due, oldest]; rfl

theorem writeReport_onlyLinkAndReport (x : Report) (rest : List Report) : writeReport x rest s =
    { s with link := (writeReport x rest s).link, report := (writeReport x rest s).report } := by
  unfold writeReport
  split <;> rfl

/-- A FRAME SUMMARY whose turn comes under high water is shed (R166). -/
theorem writeReport_shed {x : Report} (rest : List Report) (summary : x.cls = .frame)
    (high : s.report.highWater = true) : (writeReport x rest s).link = s.link ∧
      (writeReport x rest s).report = loseReport .frame { s.report with waiting := rest } := by
  cases x with
  | frameSummary => simp [writeReport, high, State.onReport]
  | _ => simp [Report.cls] at summary

/-- The Report Unit after `x` was placed, with `rest` still waiting (R163, R164, R167). -/
def afterPlaced (x : Report) (rest : List Report) (r : ReportUnit) : ReportUnit := { r with
  waiting := rest, writeCount := r.writeCount + 1,
  entries := r.entries ++ [{ cls := x.cls, forwarded := false }],
  highWater := decide (384 ≤ (r.writeCount + 1 - r.headCopy).toNat),
  lost := if x = .eventsLost then { frame := 0, focus := 0, lens := 0, capture := 0 } else r.lost,
  lostMark := if x = .eventsLost then false else r.lostMark }

/-- Any other report is placed, and its write enters the queue (R163, R165, R167). -/
theorem writeReport_placed {x : Report} (rest : List Report)
    (kept : ¬ (x.cls = .frame ∧ s.report.highWater = true)) :
    (writeReport x rest s).link = { s.link with ownQueue := s.link.ownQueue ++ [reportRequest s x] } ∧
      (writeReport x rest s).report = afterPlaced x rest s.report := by
  cases x with
  | frameSummary =>
    have clear : s.report.highWater = false := by simpa [Report.cls] using kept
    simp only [writeReport, clear]
    exact ⟨rfl, rfl⟩
  | _ => exact ⟨rfl, rfl⟩

/-- Settles O37. -/
theorem reportWritePlacesTheOldestEligibleReport : Obligations.ReportWritePlacesTheOldestEligibleReport := by
  refine ⟨fun x r => ?_, fun e c a w => ?_, fun s => ?_⟩
  · intro places up loses
    have count : places = (r.waiting.filter Report.general).length := congrArg List.length (filter_general _)
    rw [count]
    refine ⟨giveGeneral_room x, fun full cls => ?_, fun full cls => ?_, fun full cls => ?_, fun full cls => ?_,
      fun high => ?_, fun high => (giveSummary_highWater x high).symm, giveSummary_clear x⟩
    · rw [giveGeneral_full x full, cls]; exact loseReport_eq rfl
    · rw [giveGeneral_full x full, cls]; exact loseReport_eq rfl
    · rw [giveGeneral_full x full, cls]; exact loseReport_eq rfl
    · rw [giveGeneral_full x full, cls]; exact loseReport_eq rfl
    · rw [giveSummary_highWater x high]; exact loseReport_eq rfl
  · refine ⟨mergeExposure_behind e, ?_, mergeFault_behind c a, ?_⟩
    · rintro pre old n post rfl first
      exact mergeExposure_merged e old n post first
    · rintro pre n b post rfl first
      exact mergeFault_merged c a b n post first
  · intro r may due addr
    have may_iff : ∀ x, eligible r.highWater x = true ↔ may x := eligible_iff r.highWater
    refine ⟨fun idle => reportWrite_notDue ?_, fun pre x post isDue waiting first turn => ?_⟩
    · rcases idle with late | none
      · exact .inl (Bool.eq_false_iff.mpr (mt reportDue_iff.mp late))
      · exact .inr (takeEligible_none fun x hx => mt (may_iff x).mp (none x hx))
    · have oldest : takeEligible r.highWater r.waiting = some (x, pre ++ post) := waiting ▸
        takeEligible_first post (fun y hy => mt (may_iff y).mp (first y hy)) ((may_iff x).mpr turn)
      exact ⟨_, reportWrite_due (reportDue_iff.mpr isDue) oldest, writeReport_onlyLinkAndReport x _,
        writeReport_shed _, writeReport_placed _⟩

end Sys2Proof.Machine
end

section
/-!
The completion work of the Exposure Controller (O39; R44, R46 to R52, R58 to R60).
-/
namespace Sys2Proof.Machine
variable {s : State} {l : ExposureLatch} {a : Announcement} {r : StatRecord}

/-! ## The reading of a frame (R46 to R49) -/

/-- The frame can be measured: it is whole, and was taken with the iris at rest (R48). -/
abbrev Announcement.Measured (a : Announcement) : Prop := a.torn = false ∧ a.moving.iris = false

/-- The meter reading, 0 when the record has none (R47). -/
def meterOf (l : ExposureLatch) (r : StatRecord) : Int := if r.valid then meterReading l.params r else 0

/-- The error corrected by what was issued since the frame's set, 0 without a meter reading (R49). -/
def errorOf (standing : ExposureSet) (l : ExposureLatch) (r : StatRecord) : Int :=
  if r.valid then meterOf l r + (standing.xl - l.applied.xl) else 0

/-- The step of the loop (R48, R49). -/
def stepOf (aeHold : Bool) (p : ExposureParams) (a : Announcement) (e : Int) : Int :=
  if a.Measured ∧ aeHold = false ∧ p.mode = .program ∧ p.deadBand < e.natAbs
  then max (-(p.stepMax : Int)) (min p.stepMax (-(Int.tdiv (e * p.gain) 16))) else 0

theorem skipReason_eq_stepped_iff {torn iris aeHold : Bool} {m : ExposureMode} :
    skipReason torn iris aeHold m = .stepped ↔ torn = false ∧ iris = false ∧ aeHold = false ∧ m = .program := by
  cases torn <;> cases iris <;> cases aeHold <;> cases m <;> simp [skipReason]

theorem loopStep_eq (p : ExposureParams) (e : Int) : loopStep p e =
    if p.deadBand < e.natAbs then max (-(p.stepMax : Int)) (min p.stepMax (-(Int.tdiv (e * p.gain) 16))) else 0 := by
  by_cases steps : p.deadBand < e.natAbs
  · rw [loopStep, if_neg (Nat.not_le.mpr steps), if_pos steps, clampInt_eq (by omega)]
  · rw [loopStep, if_pos (Nat.not_lt.mp steps), if_neg steps]

theorem readFrame_step : (readFrame s l a r).step =
    stepOf s.focus.aeHold l.params a (errorOf (standingSet l.program s) l r) := by
  by_cases steps : a.Measured ∧ s.focus.aeHold = false ∧ l.params.mode = .program
  · obtain ⟨⟨torn, iris⟩, free, program⟩ := steps
    have skip := skipReason_eq_stepped_iff.mpr ⟨torn, iris, free, program⟩
    simp only [readFrame, skip]
    cases valid : r.valid <;>
      simp [stepOf, Announcement.Measured, torn, iris, free, program, errorOf, meterOf, valid, loopStep_eq]
  · have skip : skipReason a.torn a.moving.iris s.focus.aeHold l.params.mode ≠ .stepped := fun h =>
      steps (by simpa [and_assoc] using skipReason_eq_stepped_iff.mp h)
    have still : stepOf s.focus.aeHold l.params a (errorOf (standingSet l.program s) l r) = 0 :=
      if_neg fun h => steps ⟨h.1, h.2.1, h.2.2.1⟩
    rw [still]
    simp only [readFrame]
    split
    · exact absurd ‹_› skip
    · rfl

/-- Everything the work forms for a frame. -/
theorem readFrame_eq : readFrame s l a r =
    { eMeas := if r.valid then some (meterOf l r) else none,
      e := if r.valid then some (errorOf (standingSet l.program s) l r) else none,
      skip := skipReason a.torn a.moving.iris s.focus.aeHold l.params.mode, measured := decide a.Measured,
      step := stepOf s.focus.aeHold l.params a (errorOf (standingSet l.program s) l r),
      xIss := (standingSet l.program s).xl } := by
  rw [← readFrame_step]
  cases valid : r.valid <;> simp [readFrame, valid, meterOf, errorOf, Announcement.Measured]

/-! ## The updates at a measured frame (R50, R51) -/

/-- SETTLED and the settle run after a frame (R50). -/
def settledAfter (measured : Prop) [Decidable measured] (e : Int) (c : ExposureController) : Bool × Nat :=
  if ¬ measured then (c.settled, c.settleRun)
  else if c.settled then (if 12 < e.natAbs then (false, 0) else (true, c.settleRun))
  else if e.natAbs ≤ 4 then (if c.settleRun + 1 = 2 then (true, 0) else (false, c.settleRun + 1))
  else (false, 0)

/-- The frame's luma is far from the reference's (R51). -/
abbrev SceneReference.Differs (x : SceneReference) (measured : Prop) (y : Nat) : Prop :=
  measured ∧ x.valid = true ∧ 48 < ((logL y : Int) - x.level).natAbs

/-- The scene reference after a frame (R51). -/
def sceneAfter (measured : Prop) [Decidable measured] (y : Nat) (x : SceneReference) : SceneReference :=
  if ¬ (measured ∧ x.valid = true) then x
  else if ¬ x.Differs measured y then { x with run := 0 }
  else if x.run + 1 = 3 then { x with valid := false, run := 0 } else { x with run := x.run + 1 }

section
variable {measured : Prop} [Decidable measured]

theorem updateSettled_eq (m : measured) (e : Int) (c : ExposureController) : updateSettled e c =
    { c with settled := (settledAfter measured e c).1, settleRun := (settledAfter measured e c).2 } := by
  cases settled : c.settled with
  | true =>
    have stays : ({ c with settled := true } : ExposureController) = c := by rw [← settled]
    by_cases far : 12 < e.natAbs <;> simp [updateSettled, settledAfter, m, settled, far, stays]
  | false =>
    by_cases near : e.natAbs ≤ 4
    · by_cases second : c.settleRun = 1 <;> simp [updateSettled, settledAfter, m, settled, near, second]
    · simp [updateSettled, settledAfter, m, settled, near]

theorem natDist_eq (x y : Nat) : natDist x y = ((x : Int) - y).natAbs := by
  unfold natDist; omega

theorem updateScene_eq (m : measured) (n : BitVec 32) (y : Nat) : updateScene n y s = { s with
    exposure := { s.exposure with scene := sceneAfter measured y s.exposure.scene },
    focus := { s.focus with fromExposure := s.focus.fromExposure ++
      (if s.exposure.scene.Differs measured y ∧ s.exposure.scene.run + 1 = 3 then [.sceneChanged n] else []) } } := by
  by_cases valid : s.exposure.scene.valid = true
  · by_cases far : 48 < ((logL y : Int) - s.exposure.scene.level).natAbs
    · by_cases third : s.exposure.scene.run = 2 <;>
        simp [updateScene, sceneAfter, m, valid, natDist_eq, far, third, tellFocusExposure]
    · simp [updateScene, sceneAfter, m, valid, natDist_eq, far]
  · simp [updateScene, sceneAfter, m, valid]

/-- Step 2 of the work (R46, R50, R51). -/
theorem measuredUpdates_eq (n : BitVec 32) (y : Nat) {rd : Reading}
    (h : rd.measured = decide measured) : measuredUpdates n y rd s = { s with
      exposure := { s.exposure with
        settled := (settledAfter measured (rd.e.getD 0) s.exposure).1,
        settleRun := (settledAfter measured (rd.e.getD 0) s.exposure).2,
        scene := sceneAfter measured y s.exposure.scene },
      focus := { s.focus with fromExposure := s.focus.fromExposure ++
        (if s.exposure.scene.Differs measured y ∧ s.exposure.scene.run + 1 = 3 then [.sceneChanged n] else []) } } := by
  by_cases m : measured
  · simp [measuredUpdates, h, m, updateSettled_eq m, updateScene_eq m]
  · simp [measuredUpdates, h, m, settledAfter, sceneAfter]

end

/-! ## The issue of a set (R58 to R60) -/

theorem pushHistory_eq (h : List ExposureSet) (e : ExposureSet) : pushHistory h e = (h ++ [e]).drop (h.length - 3) :=
  congrArg (List.drop · (h ++ [e])) (Nat.add_sub_add_right h.length 1 3)

theorem setChanged_iff (x y : ExposureSet) : setChanged x y = true ↔
    (x.tl, x.gl, x.al, x.irisStop, x.shutter, x.gainCode, x.quantised) ≠
      (y.tl, y.gl, y.al, y.irisStop, y.shutter, y.gainCode, y.quantised) := by
  simp only [setChanged, Bool.or_eq_true, bne_iff_ne, ne_eq, Prod.mk.injEq, not_and_or, or_assoc]

theorem irisWanted_iff {issued standing : ExposureSet} : irisWanted s issued standing = true ↔
    issued.source ≠ .held ∧ s.lens.mode = .ready ∧
      (issued.irisStop ≠ standing.irisStop ∨ s.exposure.firstIssue = true) := by
  simp only [irisWanted, Bool.and_eq_true, Bool.or_eq_true, bne_iff_ne, lensReady_iff, and_assoc]

/-- Steps 4 and 5 of the work (R58, R59). -/
theorem issue_eq {issued standing : ExposureSet} {asks : Prop} [Decidable asks]
    (h : irisWanted s issued standing = decide asks) : issue issued standing s = { s with
      exposure := { s.exposure with
        history := (s.exposure.history ++ [issued]).drop (s.exposure.history.length - 3),
        lightHigh := issued.lightHigh, lightLow := issued.lightLow,
        firstIssue := s.exposure.firstIssue && !decide asks,
        held := if issued.source = .held then s.exposure.held else lensValues s },
      lens := if asks then { s.lens with
          fromExposure := s.lens.fromExposure ++ [.target .iris (8 * issued.irisStop) .plain] }
        else s.lens } := by
  by_cases copy : issued.source = .held <;> by_cases asked : asks <;>
    simp [issue, h, copy, asked, copyHeld, pushHistory_eq]

/-! ## The frame record (R46, R48) -/

/-- The metering fields of the frame record. -/
def withMetering (y : Nat) (em : Int) (skip : SkipReason) (f : FrameRecord) : FrameRecord :=
  { f with metering := some { y := y, eMeas := em, skip := skip } }

/-- Only the slot table decides where the fields go. -/
theorem supplyFields_sameSlots (n : BitVec 32) (f : FrameRecord → FrameRecord) {u : State} (h : u.slots = s.slots) :
    (supplyFields n f u).slots = (supplyFields n f s).slots := by
  have slot : recordSlot u n = recordSlot s n := by simp only [recordSlot, h]
  unfold supplyFields
  rw [slot]
  split
  · simp only [State.onSlot, h]
  · exact h

theorem supplyFields_eq (n : BitVec 32) (f : FrameRecord → FrameRecord) {u : State} (h : u.slots = s.slots) :
    supplyFields n f u = { u with slots := { s.slots with table := (supplyFields n f s).slots.table } } := by
  rw [supplyFields_table, supplyFields_sameSlots n f h, h]

/-- The record of frame `n`, and no other, has got its metering fields (R16, R46). -/
theorem supplied_metering (n : BitVec 32) (f : FrameRecord → FrameRecord) (s : State) :
    ((∀ y ∈ s.slots.table, ¬ TakesFields n y) → (supplyFields n f s).slots.table = s.slots.table) ∧
    ∀ i y, s.slots.table[i]? = some y → TakesFields n y → (∀ y' ∈ s.slots.table.take i, ¬ TakesFields n y') →
      (supplyFields n f s).slots.table[i]? = some { y with record := f y.record } ∧
      ∀ j, j ≠ i → (supplyFields n f s).slots.table[j]? = s.slots.table[j]? :=
  ⟨fun none => congrArg (·.slots.table) (supplyFields_of_none f none),
    fun _ _ here takes first => supplyFields_of_first f here takes first⟩

/-! ## The standing set is read (R40, R53, R58) -/

theorem readStanding_eq (s : State) : readStanding s = { s with exposure := { s.exposure with
    held := if s.exposure.history = [] then lensValues s else s.exposure.held } } := by
  unfold readStanding copyHeld
  cases s.exposure.history <;> rfl

theorem readStanding_lensValues (s : State) : lensValues (readStanding s) = lensValues s := by
  unfold readStanding
  split
  · exact copyHeld_lensValues s
  · rfl

theorem readStanding_readFrame (s : State) : readFrame (readStanding s) l a r = readFrame s l a r := by
  simp only [readFrame, readStanding_standingSet, readStanding_frame]

/-- The program line and the manual set read no more of the state than the lens values and the standing set. -/
theorem sets_congr {u : State} (lens : lensValues u = lensValues s) (ready : lensReady u = lensReady s)
    (standing : standingSet l.program u = standingSet l.program s) (period : Period) (target : Int) (n : BitVec 32) :
    programSet u l period target n = programSet s l period target n ∧
    manualSet u l period n = manualSet s l period n := by
  dsimp only [programSet, manualSet]
  rw [lens, ready, standing]
  exact ⟨rfl, rfl⟩

theorem readStanding_issuedSet (period : Period) (rd : Reading) (n : BitVec 32) :
    issuedSet (readStanding s) l period rd n = issuedSet s l period rd n := by
  have ready : lensReady (readStanding s) = lensReady s := by simp only [lensReady, readStanding_frame]
  obtain ⟨program, manual⟩ := sets_congr (l := l) (readStanding_lensValues s) ready (readStanding_standingSet s _) period
    (rd.xIss + rd.step) n
  simp only [issuedSet, heldCopy, readStanding_standingSet, readStanding_frame, program, manual]

/-! ## The set that is issued (R58) -/

section
variable {period : Period} {rd : Reading} {n : BitVec 32}

theorem issuedSet_held (h : s.focus.aeHold = true ∨ l.params.mode = .locked) :
    issuedSet s l period rd n = heldCopy l.program s n := by
  unfold issuedSet
  rcases h with hold | locked
  · simp [hold]
  · simp [locked]

theorem issuedSet_program (free : s.focus.aeHold = false) (h : l.params.mode = .program) :
    issuedSet s l period rd n = programSet s l period (rd.xIss + rd.step) n := by
  simp [issuedSet, free, h]

theorem issuedSet_manual (free : s.focus.aeHold = false) (h : l.params.mode = .manual) :
    issuedSet s l period rd n = manualSet s l period n := by
  simp [issuedSet, free, h]

theorem issuedSet_source : (issuedSet s l period rd n).source = .held ↔
    s.focus.aeHold = true ∨ l.params.mode = .locked := by
  cases free : s.focus.aeHold with
  | true => simp [issuedSet_held (.inl free), heldCopy]
  | false =>
    cases mode : l.params.mode with
    | program => simp [issuedSet_program free mode, programSet]
    | manual => simp [issuedSet_manual free mode, manualSet]
    | locked => simp [issuedSet_held (.inr mode), heldCopy]

end

/-! ## The whole work of a frame in VIEW (R46) -/

/-- The state once steps 2 and 3 of the work are done: the frame is judged, and the alarm is sent (R50 to R52). -/
def judged (s : State) (l : ExposureLatch) (a : Announcement) (r : StatRecord) : State :=
  let e := errorOf (standingSet l.program s) l r
  let x := s.exposure.scene
  { s with
    exposure := { s.exposure with
      settled := (settledAfter a.Measured e s.exposure).1, settleRun := (settledAfter a.Measured e s.exposure).2,
      scene := sceneAfter a.Measured r.y x },
    focus := { s.focus with fromExposure := s.focus.fromExposure ++
      (if x.Differs a.Measured r.y ∧ x.run + 1 = 3 then [.sceneChanged a.frame] else []) ++
      [.alarm (if a.Measured then (if 96 < e.natAbs then .far else .near) else .unmeasured) a.frame] } }

theorem readFrame_error : (readFrame s l a r).e.getD 0 = errorOf (standingSet l.program s) l r := by
  cases valid : r.valid <;> simp [readFrame_eq, valid, errorOf]

theorem readFrame_meter : (readFrame s l a r).eMeas.getD 0 = meterOf l r := by
  cases valid : r.valid <;> simp [readFrame_eq, valid, meterOf]

theorem readFrame_measured : (readFrame s l a r).measured = decide a.Measured := by rw [readFrame_eq]

theorem alarmOf_readFrame : alarmOf (readFrame s l a r) =
    if a.Measured then (if 96 < (errorOf (standingSet l.program s) l r).natAbs then .far else .near)
    else .unmeasured := by
  simp only [alarmOf, readFrame_error, readFrame_measured, decide_eq_true_iff]

theorem judged_eq : tellFocusExposure (.alarm (alarmOf (readFrame s l a r)) a.frame)
    (measuredUpdates a.frame r.y (readFrame s l a r) s) = judged s l a r := by
  rw [measuredUpdates_eq _ _ readFrame_measured, readFrame_error, alarmOf_readFrame]
  rfl

/-- The EXPOSURE SET report of an issued set (R60). -/
def issueReport (s : State) (l : ExposureLatch) (a : Announcement) (r : StatRecord) (issued : ExposureSet)
    (changed : Bool) : ExposureReport :=
  let e := errorOf (standingSet l.program s) l r
  { set := issued, skip := skipReason a.torn a.moving.iris s.focus.aeHold l.params.mode,
    meter := if r.valid then some (meterOf l r, e) else none, step := stepOf s.focus.aeHold l.params a e,
    settled := (settledAfter a.Measured e s.exposure).1, changed := changed }

/-- Steps 6 and 7 of the work (R46, R60). -/
theorem reported_eq {u : State} (issued : ExposureSet) (changed : Bool) (slots : u.slots = s.slots)
    (settled : u.exposure.settled =
      (settledAfter a.Measured (errorOf (standingSet l.program s) l r) s.exposure).1) :
    let skip := skipReason a.torn a.moving.iris s.focus.aeHold l.params.mode
    reportIssue issued changed l.params.mode r (readFrame s l a r)
      (supplyMetering a.frame r (readFrame s l a r) u) = { u with
        slots := { s.slots with table := (supplyFields a.frame (withMetering r.y (meterOf l r) skip) s).slots.table },
        exposure := { u.exposure with
          shown := { y := r.y, eMeas := meterOf l r, skip := skip, present := r.valid, mode := l.params.mode } },
        report := { u.report with
          waiting := mergeExposure (issueReport s l a r issued changed) u.report.waiting } } := by
  intro skip
  have skips : (readFrame s l a r).skip = skip := rfl
  have present : (readFrame s l a r).eMeas.isSome = r.valid := by cases valid : r.valid <;> simp [readFrame_eq, valid]
  have meter : ((readFrame s l a r).eMeas.bind fun m => (readFrame s l a r).e.map fun e => (m, e)) =
      if r.valid then some (meterOf l r, errorOf (standingSet l.program s) l r) else none := by
    cases valid : r.valid <;> simp [readFrame_eq, valid]
  have supplied : supplyMetering a.frame r (readFrame s l a r) u = { u with
      slots := { s.slots with table := (supplyFields a.frame (withMetering r.y (meterOf l r) skip) s).slots.table } } := by
    rw [supplyMetering, readFrame_meter, skips]
    exact supplyFields_eq a.frame (withMetering r.y (meterOf l r) skip) slots
  rw [supplied]
  simp only [reportIssue, readFrame_meter, present, meter, readFrame_step, settled, skips]
  rfl

/-- The state when the work of a frame in VIEW has issued `issued`, asked the iris for its stop or not, and reported the set
as changed or not (R46). -/
def viewed (s : State) (l : ExposureLatch) (a : Announcement) (r : StatRecord) (issued : ExposureSet) (asks changed : Prop)
    [Decidable asks] [Decidable changed] : State :=
  let skip := skipReason a.torn a.moving.iris s.focus.aeHold l.params.mode
  { judged s l a r with
    slots := { s.slots with table := (supplyFields a.frame (withMetering r.y (meterOf l r) skip) s).slots.table },
    exposure := { (judged s l a r).exposure with
      history := (s.exposure.history ++ [issued]).drop (s.exposure.history.length - 3),
      lightHigh := issued.lightHigh, lightLow := issued.lightLow,
      firstIssue := s.exposure.firstIssue && !decide asks,
      held := if issued.source = .held then s.exposure.held else lensValues s,
      shown := { y := r.y, eMeas := meterOf l r, skip := skip, present := r.valid, mode := l.params.mode } },
    lens := if asks then { s.lens with
        fromExposure := s.lens.fromExposure ++ [.target .iris (8 * issued.irisStop) .plain] }
      else s.lens,
    report := { s.report with
      waiting := mergeExposure (issueReport s l a r issued (decide changed)) s.report.waiting } }

section
variable {asks changed : Prop} [Decidable asks] [Decidable changed]

theorem exposureViewWork_eq {issued standing : ExposureSet} (standing_eq : standingSet l.program s = standing)
    (issued_eq : issuedSet s l r.activePeriod (readFrame s l a r) a.frame = issued)
    (hasks : irisWanted s issued standing = true ↔ asks)
    (hchanged : (s.exposure.firstIssue || setChanged issued standing) = true ↔ changed) :
    exposureViewWork l a r s = viewed s l a r issued asks changed := by
  subst standing_eq issued_eq
  have change : (s.exposure.firstIssue || setChanged (issuedSet s l r.activePeriod (readFrame s l a r) a.frame)
      (standingSet l.program s)) = decide changed := by
    rw [Bool.eq_iff_iff, hchanged, decide_eq_true_iff]
  have ask : irisWanted (judged s l a r) (issuedSet s l r.activePeriod (readFrame s l a r) a.frame)
      (standingSet l.program s) = decide asks := by
    rw [Bool.eq_iff_iff, decide_eq_true_iff]
    exact hasks
  have steps : exposureViewWork l a r s = reportIssue (issuedSet s l r.activePeriod (readFrame s l a r) a.frame)
      (decide changed) l.params.mode r (readFrame s l a r) (supplyMetering a.frame r (readFrame s l a r)
        (issue (issuedSet s l r.activePeriod (readFrame s l a r) a.frame) (standingSet l.program s)
          (judged s l a r))) := by
    rw [← change]
    simp only [exposureViewWork, judged_eq]
    rfl
  rw [steps, issue_eq ask]
  exact reported_eq _ _ rfl rfl

theorem exposureWork_of_view (h : s.command.mode = .view) : exposureWork l a r s =
    { exposureViewWork l a r (readStanding s) with
      exposure := dropExposureLatch a.frame (exposureViewWork l a r (readStanding s)).exposure } := by
  simp only [exposureWork, readStanding_frame, h]

theorem exposureWork_of_standby (h : s.command.mode = .standby) : exposureWork l a r s =
    { supplyMetering a.frame r (readFrame s l a r) (readStanding s) with
      exposure := dropExposureLatch a.frame (readStanding s).exposure } := by
  simp only [exposureWork, readStanding_frame, h, readStanding_readFrame, supplyMetering_frame]

/-- The state as the work of a frame is taken from the queue: the standing set is read. -/
def taken (s : State) (rest : List WorkItem) : State :=
  readStanding { s with exposure := { s.exposure with work := rest } }

theorem taken_eq (s : State) (rest : List WorkItem) : taken s rest = { s with exposure := { s.exposure with
    work := rest, held := if s.exposure.history = [] then lensValues s else s.exposure.held } } :=
  readStanding_eq _

theorem taken_standingSet (rest : List WorkItem) (p : ProgramTable) : standingSet p (taken s rest) = standingSet p s :=
  readStanding_standingSet _ p

theorem taken_readFrame (rest : List WorkItem) : readFrame (taken s rest) l a r = readFrame s l a r :=
  readStanding_readFrame _

theorem taken_issuedSet (rest : List WorkItem) (period : Period) (rd : Reading) (n : BitVec 32) :
    issuedSet (taken s rest) l period rd n = issuedSet s l period rd n :=
  readStanding_issuedSet period rd n

theorem taken_lensValues (rest : List WorkItem) : lensValues (taken s rest) = lensValues s :=
  readStanding_lensValues _

theorem exposureWork_view (rest : List WorkItem) (view : s.command.mode = .view) {issued standing : ExposureSet}
    (standing_eq : standingSet l.program s = standing)
    (issued_eq : issuedSet s l r.activePeriod (readFrame s l a r) a.frame = issued)
    (hasks : irisWanted s issued standing = true ↔ asks)
    (hchanged : (s.exposure.firstIssue || setChanged issued standing) = true ↔ changed) :
    exposureWork l a r { s with exposure := { s.exposure with work := rest } } =
      { viewed s l a r issued asks changed with exposure := { (viewed s l a r issued asks changed).exposure with
        work := rest, latches := s.exposure.latches.filter (fun l => l.frame != a.frame),
        held := if issued.source = .held ∧ s.exposure.history ≠ [] then s.exposure.held else lensValues s } } := by
  have asks_taken : irisWanted (taken s rest) issued standing = true ↔ asks := by
    rw [taken_eq]; exact hasks
  have changed_taken : ((taken s rest).exposure.firstIssue || setChanged issued standing) = true ↔ changed := by
    rw [taken_eq]; exact hchanged
  have work := exposureViewWork_eq (s := taken s rest) (l := l) (a := a) (r := r)
    ((taken_standingSet rest _).trans standing_eq)
    (by rw [taken_readFrame, taken_issuedSet, issued_eq]) asks_taken changed_taken
  have held : (if issued.source = .held then (taken s rest).exposure.held else lensValues (taken s rest)) =
      if issued.source = .held ∧ s.exposure.history ≠ [] then s.exposure.held else lensValues s := by
    rw [taken_lensValues, taken_eq]
    by_cases copy : issued.source = .held <;> by_cases empty : s.exposure.history = [] <;> simp [copy, empty]
  have supplied (f : FrameRecord → FrameRecord) :
      (supplyFields a.frame f (taken s rest)).slots = (supplyFields a.frame f s).slots :=
    supplyFields_sameSlots a.frame f (by rw [taken_eq])
  have dropped : exposureWork l a r { s with exposure := { s.exposure with work := rest } } =
      { exposureViewWork l a r (taken s rest) with
        exposure := dropExposureLatch a.frame (exposureViewWork l a r (taken s rest)).exposure } :=
    exposureWork_of_view view
  rw [dropped, work]
  simp only [viewed, judged, issueReport, dropExposureLatch, held, supplied, taken_standingSet]
  simp only [taken_eq]
  rfl

end

theorem exposureWork_standby (rest : List WorkItem) (standby : s.command.mode = .standby) :
    let skip := skipReason a.torn a.moving.iris s.focus.aeHold l.params.mode
    exposureWork l a r { s with exposure := { s.exposure with work := rest } } = { s with
      exposure := { s.exposure with
        work := rest, latches := s.exposure.latches.filter (fun l => l.frame != a.frame),
        held := if s.exposure.history = [] then lensValues s else s.exposure.held },
      slots := { s.slots with
        table := (supplyFields a.frame (withMetering r.y (meterOf l r) skip) s).slots.table } } := by
  intro skip
  have dropped : exposureWork l a r { s with exposure := { s.exposure with work := rest } } =
      { supplyMetering a.frame r (readFrame s l a r) (taken s rest) with
        exposure := dropExposureLatch a.frame (taken s rest).exposure } := exposureWork_of_standby standby
  have supplied : supplyMetering a.frame r (readFrame s l a r) (taken s rest) = { taken s rest with slots :=
      { s.slots with table := (supplyFields a.frame (withMetering r.y (meterOf l r) skip) s).slots.table } } := by
    rw [supplyMetering, readFrame_meter]
    exact supplyFields_eq a.frame (withMetering r.y (meterOf l r) skip) (by rw [taken_eq])
  rw [dropped, supplied, taken_eq]
  rfl

/-! ## The row EXPOSURE_COMPLETION_WORK (R46) -/

theorem exposureWork_notDue (h : ∀ a r rest, s.exposure.work ≠ { notice := a, stats := some r } :: rest) :
    exec .exposureCompletionWork s = .next s := by
  have none : takeExposureWork s = none := by
    unfold takeExposureWork
    split
    · exact absurd ‹_› (h _ _ _)
    · rfl
  exact congrArg (finishIf s) none

section
variable {rest : List WorkItem} (due : s.exposure.work = { notice := a, stats := some r } :: rest)
include due

theorem exposureWork_noLatch (none : ∀ l ∈ s.exposure.latches, l.frame ≠ a.frame) : exec .exposureCompletionWork s =
    .next (settle s { s with exposure := { s.exposure with work := rest } }) := by
  have missing : s.exposure.latches.find? (fun l => l.frame == a.frame) = Option.none := by simpa using none
  have takes : takeExposureWork s = some { s with exposure := { s.exposure with work := rest } } := by
    unfold takeExposureWork
    rw [due]
    simp only [missing]
  exact congrArg (finishIf s) takes

theorem exposureWork_runs (found : s.exposure.latches.find? (fun l => l.frame == a.frame) = some l) :
    exec .exposureCompletionWork s =
      .next (settle s (exposureWork l a r { s with exposure := { s.exposure with work := rest } })) := by
  have takes : takeExposureWork s =
      some (exposureWork l a r { s with exposure := { s.exposure with work := rest } }) := by
    unfold takeExposureWork
    rw [due]
    simp only [found]
  exact congrArg (finishIf s) takes

end

/-- Settles O39. -/
theorem exposureWorkIssuesASet : Obligations.ExposureWorkIssuesASet := by
  refine fun s => ⟨exposureWork_notDue, fun a r rest due => ⟨exposureWork_noLatch due, fun l found => ?_⟩⟩
  intro p kept standing bias em e skip measured step held lensRead settles x differs scene metered
  have read : lensRead = lensValues s := by
    simp only [lensRead, lensValues, lensReady]
    cases s.lens.mode <;> cases s.zoom.derived <;> rfl
  have fields := supplied_metering a.frame (withMetering r.y (meterOf l r) skip) s
  refine ⟨fun standby => ⟨_, (exposureWork_runs due found).trans (congrArg (finish s) (exposureWork_standby rest standby)),
    fields, ?_⟩, fun view => ?_⟩
  · rw [read]
  · let issued := issuedSet s l r.activePeriod (readFrame s l a r) a.frame
    let asks : Prop := ¬ held ∧ s.lens.mode = .ready ∧
      (issued.irisStop ≠ standing.irisStop ∨ s.exposure.firstIssue = true)
    let changed : Prop := s.exposure.firstIssue = true ∨
      (issued.tl, issued.gl, issued.al, issued.irisStop, issued.shutter, issued.gainCode, issued.quantised) ≠
        (standing.tl, standing.gl, standing.al, standing.irisStop, standing.shutter, standing.gainCode,
          standing.quantised)
    have copy : issued.source = .held ↔ held := issuedSet_source
    have hasks : irisWanted s issued standing = true ↔ asks := irisWanted_iff.trans (and_congr_left' copy.not)
    have hchanged : (s.exposure.firstIssue || setChanged issued standing) = true ↔ changed :=
      Bool.or_eq_true_iff.trans (or_congr_right (setChanged_iff issued standing))
    have free (h : ¬ held) : s.focus.aeHold = false := Bool.eq_false_iff.mpr fun hold => h (.inl hold)
    have reading : (readFrame s l a r).xIss + (readFrame s l a r).step = standing.xl + step := by
      rw [readFrame_step]; rfl
    refine ⟨_, issued, (exposureWork_runs due found).trans (congrArg (finish s)
      (exposureWork_view rest view rfl rfl hasks hchanged)), fields, issuedSet_held, fun h program => ?_,
      fun h manual => issuedSet_manual (free h) manual, ?_⟩
    · rw [← reading]
      exact issuedSet_program (free h) program
    · rw [read, if_congr (and_congr_left' copy) rfl rfl]
      rfl

end Sys2Proof.Machine
end

section
/-!
What every step keeps of the waiting order (R163, R165, R167): the reports given, one operation after the other.
-/
namespace Sys2Proof.Machine

/-! ## The waiting order, report by report -/

/-- The waiting order keeps to its places, and no more completions wait than before (R152, R165). -/
structure OrderKept (a b : ReportUnit) : Prop where
  order : WaitingConsistent a → WaitingConsistent b
  completions : waitingCompletions b ≤ waitingCompletions a

@[simp] theorem OrderKept.refl (r : ReportUnit) : OrderKept r r := ⟨id, Nat.le_refl _⟩

theorem OrderKept.trans {a b c : ReportUnit} (h : OrderKept a b) (k : OrderKept b c) : OrderKept a c :=
  ⟨k.order ∘ h.order, k.completions.trans h.completions⟩

/-- The report is an EXPOSURE SET. -/
def Report.isExposure : Report → Bool
  | .exposureSet .. => true
  | _ => false

/-- The report is a path fault of cause `c`. -/
def Report.isFault (c : FaultCause) : Report → Bool
  | .pathFault d .. => d == c
  | _ => false

/-- The report is EVENTS LOST. -/
def Report.isLost : Report → Bool
  | .eventsLost => true
  | _ => false

theorem count_eventsLost (l : List Report) : l.count .eventsLost = (l.filter Report.isLost).length := by
  rw [List.count_eq_length_filter]
  congr 2
  funext x
  cases x <;> rfl

/-- The rules of the waiting order, each by the reports it counts (R163, R165, R167). -/
theorem waitingConsistent_iff {r : ReportUnit} : WaitingConsistent r ↔
    (r.waiting.filter Report.general).length ≤ 12 ∧
    (r.waiting.filter Report.isLost).length = (if r.lostMark then 1 else 0) ∧
    (r.waiting.filter Report.isExposure).length ≤ 1 ∧ ∀ c, (r.waiting.filter (Report.isFault c)).length ≤ 1 :=
  ⟨fun ⟨general, lost, exposure, faults⟩ => ⟨general, (count_eventsLost _).symm.trans lost, exposure, faults⟩,
    fun ⟨general, lost, exposure, faults⟩ => ⟨general, (count_eventsLost _).trans lost, exposure, faults⟩⟩

/-- The rules of the waiting order read the reports that wait and the lost mark. -/
theorem waitingConsistent_congr {a b : ReportUnit} (waiting : b.waiting = a.waiting) (mark : b.lostMark = a.lostMark)
    (h : WaitingConsistent a) : WaitingConsistent b := by
  rw [waitingConsistent_iff] at h ⊢
  rwa [waiting, mark]

theorem OrderKept.of_same {a b : ReportUnit} (waiting : b.waiting = a.waiting) (mark : b.lostMark = a.lostMark) :
    OrderKept a b :=
  ⟨waitingConsistent_congr waiting mark, by rw [waitingCompletions, waiting, waitingCompletions]⟩

/-- The report is one of those that wait in any number: no EXPOSURE SET, no path fault and not EVENTS LOST (R165). -/
def Report.plural : Report → Bool
  | .exposureSet .. | .pathFault .. | .eventsLost => false
  | _ => true

theorem Report.plural_kinds {rep : Report} (h : rep.plural = true) :
    rep.isLost = false ∧ rep.isExposure = false ∧ ∀ c, rep.isFault c = false := by
  cases rep <;> simp_all [Report.plural, Report.isLost, Report.isExposure, Report.isFault]

/-- A report that waits in any number, behind the others: only the general places bound it (R163, R165). -/
theorem waitingConsistent_behind {a b : ReportUnit} {rep : Report} (waiting : b.waiting = a.waiting ++ [rep])
    (mark : b.lostMark = a.lostMark) (kind : rep.plural = true)
    (room : rep.general = true → (a.waiting.filter Report.general).length < 12) (h : WaitingConsistent a) :
    WaitingConsistent b := by
  rw [waitingConsistent_iff] at h ⊢
  obtain ⟨general, lost, exposure, faults⟩ := h
  obtain ⟨notLost, notExposure, notFault⟩ := Report.plural_kinds kind
  refine ⟨?_, by simpa [waiting, mark, notLost] using lost, by simpa [waiting, notExposure] using exposure,
    fun c => by simpa [waiting, notFault c] using faults c⟩
  by_cases hg : rep.general = true
  · simpa [waiting, hg] using room hg
  · simpa [waiting, hg] using general

/-- A lost report makes no other one wait but EVENTS LOST, once (R167). -/
theorem orderKept_loseReport (c : ReportClass) (r : ReportUnit) : OrderKept r (loseReport c r) := by
  obtain ⟨marked, -, -, -, -, -, -, -, -, waiting⟩ := loseReport_frame c r
  by_cases mark : r.lostMark = true
  · exact .of_same (by rw [waiting, if_pos mark]) (by rw [marked, mark])
  · rw [if_neg mark] at waiting
    refine ⟨fun h => ?_, by rw [waitingCompletions, waiting]; simp [waitingCompletions, Report.isCompletion]⟩
    rw [waitingConsistent_iff, if_neg mark] at h
    obtain ⟨general, lost, exposure, faults⟩ := h
    simp only [waitingConsistent_iff, waiting, marked, List.filter_append, List.length_append, lost]
    exact ⟨general, rfl, exposure, faults⟩

/-- A report for a general place is given, or lost (R165). -/
theorem orderKept_giveGeneral {rep : Report} (kind : rep.general = true) (r : ReportUnit) :
    OrderKept r (giveGeneral rep r) := by
  obtain ⟨room, he⟩ | ⟨-, he⟩ := giveGeneral_cases rep r <;> rw [he]
  · have plural : rep.plural = true ∧ rep.isCompletion = false := by
      cases rep <;> simp_all [Report.general, Report.plural, Report.isCompletion]
    exact ⟨waitingConsistent_behind rfl rfl plural.1 (fun _ => room), by simp [waitingCompletions, plural.2]⟩
  · exact orderKept_loseReport ..

theorem orderKept_giveSummary (n : BitVec 32) (i : Nat) (o : FrameOutcome) (t : Bool) (r : ReportUnit) :
    OrderKept r (giveSummary (.frameSummary n i o t) r) := by
  simp only [giveSummary]
  split
  · exact orderKept_loseReport ..
  · exact orderKept_giveGeneral rfl r

/-- A completion takes a place of its own (R165). -/
theorem waitingConsistent_giveCompletion {r : ReportUnit} (h : WaitingConsistent r) (code tag ring : BitVec 16)
    (st : Status) (v : Int) : WaitingConsistent (giveCompletion (.commandDone code tag ring st v) r) :=
  waitingConsistent_behind (rep := .commandDone code tag ring st v) rfl rfl rfl (fun hg => by cases hg) h

/-- The slot of the EXPOSURE SET is taken, or merged into (R165). -/
theorem mergeExposure_exposures (rep : ExposureReport) (l : List Report) :
    ((mergeExposure rep l).filter Report.isExposure).length = max 1 (l.filter Report.isExposure).length := by
  induction l with
  | nil => rfl
  | cons r l ih => cases r <;> simp [mergeExposure, Report.isExposure, List.filter_cons, ih]

/-- The slot of a path fault's cause is taken, or counted on (R165). -/
theorem mergeFault_faults (c : FaultCause) (addr : Nat) (l : List Report) :
    ((mergeFault c addr l).filter (Report.isFault c)).length = max 1 (l.filter (Report.isFault c)).length := by
  induction l with
  | nil => simp [mergeFault, Report.isFault]
  | cons r l ih =>
    cases r with
    | pathFault d n a =>
      by_cases hd : d = c <;> simp [mergeFault, hd, Report.isFault, ih]
    | _ => simpa [mergeFault, Report.isFault, List.filter_cons] using ih

/-- An EXPOSURE SET given keeps the waiting order (R165). -/
theorem orderKept_mergeExposure {a b : ReportUnit} {rep : ExposureReport} (waiting : b.waiting = mergeExposure rep a.waiting)
    (mark : b.lostMark = a.lostMark) : OrderKept a b := by
  have others (p : Report → Bool) (h : ∀ e m, p (.exposureSet e m) = false) :
      b.waiting.filter p = a.waiting.filter p := by rw [waiting, mergeExposure_others _ _ _ h]
  refine ⟨fun h => ?_, by rw [waitingCompletions, others _ (fun _ _ => rfl), waitingCompletions]⟩
  rw [waitingConsistent_iff] at h ⊢
  obtain ⟨general, lost, exposure, faults⟩ := h
  rw [others _ (fun _ _ => rfl), others _ (fun _ _ => rfl), waiting, mergeExposure_exposures, ← waiting, mark]
  exact ⟨general, lost, by omega, fun c => by rw [others _ (fun _ _ => rfl)]; exact faults c⟩

/-- A path fault raised keeps the waiting order (R165). -/
theorem orderKept_mergeFault {a b : ReportUnit} {c : FaultCause} {addr : Nat} (waiting : b.waiting = mergeFault c addr a.waiting)
    (mark : b.lostMark = a.lostMark) : OrderKept a b := by
  have others (p : Report → Bool) (h : ∀ c n m, p (.pathFault c n m) = false) :
      b.waiting.filter p = a.waiting.filter p := by rw [waiting, mergeFault_others _ _ _ _ h]
  refine ⟨fun h => ?_, by rw [waitingCompletions, others _ (fun _ _ _ => rfl), waitingCompletions]⟩
  rw [waitingConsistent_iff] at h ⊢
  obtain ⟨general, lost, exposure, faults⟩ := h
  rw [others _ (fun _ _ _ => rfl), others _ (fun _ _ _ => rfl), others _ (fun _ _ _ => rfl), mark]
  refine ⟨general, lost, exposure, fun d => ?_⟩
  have own := faults d
  by_cases hd : d = c
  · rw [waiting, hd, mergeFault_faults]
    rw [hd] at own
    omega
  · have same : (mergeFault c addr a.waiting).filter (Report.isFault d) = a.waiting.filter (Report.isFault d) :=
      mergeFault_other_cause addr a.waiting hd
    rwa [waiting, same]

end Sys2Proof.Machine
end

section
/-!
The completions that are owed (R152, R163): what each block owes, and what it means that a command completes or begins to wait
for one block's answer.
-/
namespace Sys2Proof.Machine

/-! ## What is owed, block by block -/

/-- The requests to the Lens Drive whose answer completes the command in hand (R88, R89, R109). -/
def openRequests (l : LensDrive) : Nat :=
  ((l.fromZoom ++ l.fromFocus ++ l.fromExposure).filter LensMessage.completes).length

/-- What the Capture Unit owes: its work in hand and its waiting command (R129). -/
def captureOwes (c : CaptureUnit) : Nat := (c.work.any CaptureWork.completes).toNat + c.command.isSome.toNat

/-- What the Command Unit owes itself: a review pin's answer and a table image (R126, R159). -/
def unitOwes (c : CommandUnit) : Nat := c.slotWanted.isSome.toNat + c.staging.isSome.toNat

/-- A SOFT RESET is in hand and executes (R161). -/
def resetInHand (c : CommandUnit) : Bool := c.cycle == .executing && c.inHand.any (fun h => h.code == codeSoftReset)

/-- What is owed besides a SOFT RESET. -/
def othersOwe (s : State) : Nat := openRequests s.lens + captureOwes s.capture + unitOwes s.command

theorem owed_eq (s : State) : owed s = othersOwe s + (resetInHand s.command).toNat := by
  simp only [owed, othersOwe, openRequests, captureOwes, unitOwes, resetInHand]
  omega

/-- No more is owed after than before, the same command is in hand, the lens does not begin to drain, and the waiting order
keeps to its places. -/
structure DebtKept (s t : State) : Prop where
  requests : openRequests t.lens ≤ openRequests s.lens
  draining : t.lens.draining = true → s.lens.draining = true
  capture : captureOwes t.capture ≤ captureOwes s.capture
  unit : unitOwes t.command ≤ unitOwes s.command
  cycle : t.command.cycle = s.command.cycle
  inHand : t.command.inHand = s.command.inHand
  report : OrderKept s.report t.report

theorem debtKept_iff {s t : State} : DebtKept s t ↔
    openRequests t.lens ≤ openRequests s.lens ∧ (t.lens.draining = true → s.lens.draining = true) ∧
    captureOwes t.capture ≤ captureOwes s.capture ∧ unitOwes t.command ≤ unitOwes s.command ∧
    t.command.cycle = s.command.cycle ∧ t.command.inHand = s.command.inHand ∧ OrderKept s.report t.report :=
  ⟨fun ⟨a, b, c, d, e, f, g⟩ => ⟨a, b, c, d, e, f, g⟩, fun ⟨a, b, c, d, e, f, g⟩ => ⟨a, b, c, d, e, f, g⟩⟩

/-- The waiting order and the reserved places are kept, and with the places the rule of the drain (R82, R152, R163). -/
structure StepKept (s t : State) : Prop where
  order : WaitingConsistent s.report → WaitingConsistent t.report
  reserved : CompletionsReserved s → CompletionsReserved t
  drains : CompletionsReserved s → DrainsUnderSoftReset s → DrainsUnderSoftReset t

/-- The command in hand executes, is no SOFT RESET, owes its completion, and nothing else does; a place is free for it. -/
structure HandFree (s : State) : Prop where
  nothing : othersOwe s = 0
  executes : s.command.cycle = .executing
  code : resetInHand s.command = false
  room : waitingCompletions s.report ≤ 3

/-- From a state in which only the command in hand is open, it completes or one thing comes to owe its completion. -/
structure Answers (s t : State) : Prop where
  order : WaitingConsistent s.report → WaitingConsistent t.report
  reserved : HandFree s → CompletionsReserved t
  draining : t.lens.draining = true → s.lens.draining = true

section
variable {s t u : State}

theorem DebtKept.refl (s : State) : DebtKept s s := by simp [debtKept_iff]

theorem DebtKept.trans (h : DebtKept s t) (k : DebtKept t u) : DebtKept s u :=
  ⟨k.requests.trans h.requests, h.draining ∘ k.draining, k.capture.trans h.capture, k.unit.trans h.unit,
    k.cycle.trans h.cycle, k.inHand.trans h.inHand, h.report.trans k.report⟩

theorem DebtKept.others (h : DebtKept s t) : othersOwe t ≤ othersOwe s :=
  Nat.add_le_add (Nat.add_le_add h.requests h.capture) h.unit

theorem DebtKept.resetInHand (h : DebtKept s t) : resetInHand t.command = resetInHand s.command := by
  rw [Machine.resetInHand, h.cycle, h.inHand, Machine.resetInHand]

theorem drainsUnderSoftReset_iff : DrainsUnderSoftReset s ↔
    (s.lens.draining = true → resetInHand s.command = true) := by
  unfold DrainsUnderSoftReset resetInHand
  cases hi : s.command.inHand with
  | none => simp
  | some h => cases h; simp

theorem CompletionsReserved.of_debt (owes : owed t ≤ owed s) (cycle : t.command.cycle = s.command.cycle)
    (waiting : waitingCompletions t.report ≤ waitingCompletions s.report) (h : CompletionsReserved s) :
    CompletionsReserved t := by
  obtain ⟨one, idle, room⟩ := h
  refine ⟨by omega, fun hc => ?_, by rw [cycle]; omega⟩
  have none_owed := idle (cycle ▸ hc)
  omega

theorem DebtKept.stepKept (h : DebtKept s t) : StepKept s t := by
  refine ⟨h.report.order, .of_debt ?_ h.cycle h.report.completions, fun _ hd => ?_⟩
  · rw [owed_eq, owed_eq, h.resetInHand]
    exact Nat.add_le_add_right h.others _
  · rw [drainsUnderSoftReset_iff] at hd ⊢
    exact fun ht => h.resetInHand ▸ hd (h.draining ht)

theorem StepKept.refl (s : State) : StepKept s s := (DebtKept.refl s).stepKept

theorem StepKept.trans (h : StepKept s t) (k : StepKept t u) : StepKept s u :=
  ⟨k.order ∘ h.order, k.reserved ∘ h.reserved, fun hr hd => k.drains (h.reserved hr) (h.drains hr hd)⟩

theorem DebtKept.handFree (h : DebtKept s t) (hs : HandFree s) : HandFree t :=
  ⟨Nat.le_zero.mp (hs.nothing ▸ h.others), h.cycle.trans hs.executes, h.resetInHand.trans hs.code,
    h.report.completions.trans hs.room⟩

theorem DebtKept.answers (h : DebtKept s t) (k : Answers t u) : Answers s u :=
  ⟨k.order ∘ h.report.order, k.reserved ∘ h.handFree, h.draining ∘ k.draining⟩

theorem Answers.trans (h : Answers s t) (k : DebtKept t u) : Answers s u :=
  ⟨k.report.order ∘ h.order, k.stepKept.reserved ∘ h.reserved, h.draining ∘ k.draining⟩

/-! ## The two ways of a command -/

@[simp] theorem waitingCompletions_giveCompletion (code tag ring : BitVec 16) (st : Status) (v : Int) (r : ReportUnit) :
    waitingCompletions (giveCompletion (.commandDone code tag ring st v) r) = waitingCompletions r + 1 := by
  simp only [waitingCompletions, giveCompletion, List.filter_append, List.length_append]; rfl

/-- With nothing else owed and a place free, the completion of the command in hand is given (R152). -/
theorem complete_reserved (st : Status) (v : Int) (nothing : othersOwe s = 0) (room : waitingCompletions s.report ≤ 3) :
    CompletionsReserved (complete st v s) := by
  have none_owed : owed (complete st v s) = 0 := by
    have idle : resetInHand (complete st v s).command = false := rfl
    rw [owed_eq, idle]
    exact nothing
  refine ⟨by omega, fun _ => none_owed, ?_⟩
  have more : waitingCompletions (complete st v s).report = waitingCompletions s.report + 1 :=
    waitingCompletions_giveCompletion ..
  have idle : (complete st v s).command.cycle = .idle := rfl
  rw [more, if_pos idle]
  omega

/-- The command completes. -/
theorem complete_answers (st : Status) (v : Int) (s : State) : Answers s (complete st v s) :=
  ⟨fun h => waitingConsistent_giveCompletion h .., fun h => complete_reserved st v h.nothing h.room, id⟩

/-- The command waits: one thing owes its completion. -/
theorem Answers.of_owes (one : othersOwe t ≤ othersOwe s + 1) (cycle : t.command.cycle = s.command.cycle)
    (inHand : t.command.inHand = s.command.inHand) (report : OrderKept s.report t.report)
    (draining : t.lens.draining = true → s.lens.draining = true) : Answers s t := by
  refine ⟨report.order, fun ⟨nothing, executes, code, room⟩ => ?_, draining⟩
  have owes : owed t ≤ 1 := by
    have same : resetInHand t.command = false := by rw [resetInHand, cycle, inHand]; exact code
    rw [owed_eq, same, Bool.toNat_false]
    omega
  refine ⟨owes, fun hc => absurd (cycle.trans executes) hc, ?_⟩
  have waits := report.completions
  rw [cycle, executes, if_neg (by decide)]
  omega

/-- What owed the completion in `s` owes it no more in `u`, from where the command is answered. -/
theorem StepKept.of_answers (less : othersOwe u < othersOwe s) (cycle : u.command.cycle = s.command.cycle)
    (inHand : u.command.inHand = s.command.inHand) (report : OrderKept s.report u.report)
    (draining : u.lens.draining = true → s.lens.draining = true) (h : Answers u t) : StepKept s t := by
  have same : Machine.resetInHand u.command = Machine.resetInHand s.command := by
    rw [Machine.resetInHand, cycle, inHand, Machine.resetInHand]
  have free (hr : CompletionsReserved s) : resetInHand s.command = false ∧ HandFree u := by
    obtain ⟨one, idle, room⟩ := hr
    rw [owed_eq] at one idle
    have executes : s.command.cycle = .executing := by
      by_contra hc
      have := idle hc
      omega
    have code : resetInHand s.command = false := by
      by_contra hc
      rw [Bool.not_eq_false] at hc
      rw [hc, Bool.toNat_true] at one
      omega
    rw [executes, if_neg (by decide)] at room
    have waits := report.completions
    exact ⟨code, by omega, cycle.trans executes, same.trans code, by omega⟩
  refine ⟨h.order ∘ report.order, fun hr => h.reserved (free hr).2, fun hr hd ht => ?_⟩
  have drains := drainsUnderSoftReset_iff.mp hd (draining (h.draining ht))
  rw [(free hr).1] at drains
  cases drains

/-! ## The taking of a command -/

theorem DebtKept.settle (b s : State) : DebtKept s (settle b s) := by
  simp [debtKept_iff, unitOwes, OrderKept.of_same]

theorem executing_handFree (hr : CompletionsReserved s) (arrives : CommandArrives s) {code : BitVec 16}
    (notReset : code ≠ codeSoftReset) (tag : BitVec 16) : HandFree (executing code tag s) := by
  obtain ⟨-, idle, room⟩ := hr
  have nothing := idle (by rw [arrives.1]; decide)
  rw [owed_eq] at nothing
  rw [arrives.1, if_neg (by decide)] at room
  refine ⟨?_, rfl, by simpa [resetInHand, executing] using notReset, Nat.le_of_succ_le_succ room⟩
  have same : othersOwe (executing code tag s) = othersOwe s := rfl
  omega

/-- A host command other than SOFT RESET runs: it completes or waits. -/
theorem runCommand_stepKept {code tag : BitVec 16} {work : State → State} (h : ∀ u, Answers u (work u))
    (notReset : code ≠ codeSoftReset) (ht : runCommand code tag work s = .next t) : StepKept s t := by
  obtain ⟨arrives, rfl⟩ | ⟨-, rfl⟩ := runCommand_cases ht
  · have answers := (h (executing code tag s)).trans (.settle s _)
    refine ⟨answers.order, fun hr => answers.reserved (executing_handFree hr arrives notReset tag), fun _ hd hl => ?_⟩
    have fetching := (hd (answers.draining hl)).1
    rw [arrives.1] at fetching
    cases fetching
  · exact .refl t

theorem finish_stepKept (h : StepKept s u) (ht : finish s u = .next t) : StepKept s t := by
  cases ht; exact h.trans (DebtKept.settle s u).stepKept

theorem notDue_stepKept (ht : notDue s = .next t) : StepKept s t := by cases ht; exact .refl s

theorem finishIf_stepKept {o : Option State} (h : ∀ u, o = some u → StepKept s u) (ht : finishIf s o = .next t) :
    StepKept s t := by
  cases o with
  | none => exact notDue_stepKept ht
  | some u => exact finish_stepKept (h u rfl) ht

theorem finishIf_map_stepKept {α : Type} {o : Option α} {f : α → State} (h : ∀ x, StepKept s (f x))
    (ht : finishIf s (o.map f) = .next t) : StepKept s t := by
  cases o with
  | none => exact notDue_stepKept ht
  | some x => exact finish_stepKept (h x) ht

end

end Sys2Proof.Machine
end

section
/-!
What each operation of the lens, the zoom and the focus leaves of the debts: the channels to the Lens Drive and its drain, and
the waiting order.
-/
namespace Sys2Proof.Machine
variable (s : State)

/-! ## Shared operations -/

/-- An update of the Lens Drive leaves the requests that wait, and does not begin a drain. -/
abbrev LensQuiet (f : LensDrive → LensDrive) : Prop := ∀ l, (f l).fromZoom = l.fromZoom ∧ (f l).fromFocus = l.fromFocus ∧
  (f l).fromExposure = l.fromExposure ∧ ((f l).draining = true → l.draining = true)

theorem DebtKept.onLens {s t : State} (h : DebtKept s t) {f : LensDrive → LensDrive} (quiet : LensQuiet f) :
    DebtKept s (t.onLens f) := by
  obtain ⟨zoom, focus, exposure, draining⟩ := quiet t.lens
  exact h.trans (by simpa [debtKept_iff, openRequests, zoom, focus, exposure] using draining)

theorem giveReport_debt {rep : Report} (kind : rep.general = true) : DebtKept s (giveReport rep s) := by
  simp [debtKept_iff, giveReport, orderKept_giveGeneral kind]
theorem raiseFault_debt (c : FaultCause) (a : Nat) : DebtKept s (raiseFault c a s) := by
  have order : OrderKept s.report (raiseFault c a s).report := orderKept_mergeFault rfl rfl
  simp [debtKept_iff, order]

/-! ## The Lens Drive -/

theorem changeLens_debt (m : LensMode) : DebtKept s (changeLens m s) := by
  simp [debtKept_iff, openRequests, changeLens]
theorem giveLensEvent_debt (e : LensEvent) : DebtKept s (giveLensEvent e s) := by
  simp only [giveLensEvent]; split
  · simp [debtKept_iff, openRequests]
  · exact giveReport_debt s rfl
theorem setMotorState_debt (m : Motor) (st : MotorState) : DebtKept s (setMotorState m st s) := by
  simp [debtKept_iff, openRequests]
theorem noticeEnd_debt (m : Motor) (b : Bool) : DebtKept s (noticeEnd m b s) := by
  simp [debtKept_iff]
theorem endMove_debt (m : Motor) (b : Bool) : DebtKept s (endMove m b s) := by
  simp [debtKept_iff, openRequests]
theorem sendSegment_debt (m : Motor) (up : Bool) (n : Nat) : DebtKept s (sendSegment m up n s) := by
  simp [debtKept_iff, openRequests, sendSegment]
theorem sendMoveSegment_debt (m : Motor) : DebtKept s (sendMoveSegment m s) := sendSegment_debt ..
theorem setPosition_debt (m : Motor) (p : Nat) : DebtKept s (setPosition m p s) := by
  simp [debtKept_iff, openRequests, setPosition]
theorem noteFocusEnd_debt (g : Segment) (now : Nat) : DebtKept s (noteFocusEnd g now s) := by
  simp only [noteFocusEnd]; split <;> simp [debtKept_iff, openRequests]
theorem startMove_debt (m : Motor) : DebtKept s (startMove m s).1 := by
  simp only [startMove]
  split
  · exact endMove_debt ..
  · exact ((setMotorState_debt ..).onLens (fun _ => by simp)).trans (sendMoveSegment_debt ..)
theorem popStack_debt (e : StackEntry) (l : List StackEntry) : DebtKept s (popStack e l s) := by
  simp [debtKept_iff, openRequests, popStack]
theorem chooseNext_debt (fuel : Nat) : DebtKept s (chooseNext fuel s) := by
  induction fuel generalizing s with
  | zero => exact .refl s
  | succ n ih =>
    have goes {r : State × Bool} (h : DebtKept s r.1) : DebtKept s (if r.2 then chooseNext n r.1 else r.1) := by
      split
      · exact h.trans (ih _)
      · exact h
    simp only [chooseNext]
    split
    · exact .refl s
    · exact goes (startMove_debt ..)
    · exact goes ((popStack_debt ..).trans (startMove_debt ..))
    · refine goes ?_
      split
      · exact startMove_debt ..
      · exact (popStack_debt ..).trans (startMove_debt ..)
theorem pushCurrent_debt (m : Motor) : DebtKept s (pushCurrent m s) := by
  simp [debtKept_iff, openRequests, pushCurrent]
theorem grant_debt : DebtKept s (grant s) := by
  simp only [grant]
  split
  · exact chooseNext_debt ..
  · split
    · exact ((endMove_debt ..).onLens (fun _ => by simp)).trans (chooseNext_debt ..)
    · split
      · split
        · exact ((pushCurrent_debt ..).trans (startMove_debt ..)).trans (chooseNext_debt ..)
        · exact (pushCurrent_debt ..).trans (startMove_debt ..)
      · exact sendMoveSegment_debt ..
theorem dropMove_debt (m : Motor) : DebtKept s (dropMove m s) := by
  simp only [dropMove]; (repeat' split)
  · exact .refl s
  · exact setMotorState_debt ..
  · exact endMove_debt ..
theorem dropAllMoves_debt : DebtKept s (dropAllMoves s) :=
  (((dropMove_debt ..).trans (dropMove_debt ..)).trans (dropMove_debt ..)).onLens (fun _ => by simp)
theorem failLens_debt (m : Motor) (c : LensFaultCause) : DebtKept s (failLens m c s) := by
  have stopped : DebtKept s (s.onLens (fun l => { l with segment := none, awaiting := false, homing := none })) :=
    (DebtKept.refl s).onLens (fun _ => by simp)
  simp only [failLens]
  exact (((stopped.trans (dropAllMoves_debt _)).trans (giveLensEvent_debt ..)).trans (changeLens_debt ..)).onLens
    (fun _ => by simp)
theorem sendSeek_debt (m : Motor) (up : Bool) (n : Nat) : DebtKept s (sendSeek m up n s) :=
  ((DebtKept.refl s).onLens (fun _ => by simp)).trans (sendSegment_debt ..)
theorem endHoming_debt : DebtKept s (endHoming s) :=
  (((DebtKept.refl s).onLens (fun _ => by simp)).trans (changeLens_debt ..)).trans (giveLensEvent_debt ..)
theorem homingDone_debt (g : Segment) (t : Nat) : DebtKept s (homingDone g t s) := by
  simp only [homingDone]
  (repeat' split)
  · exact ((DebtKept.refl s).onLens (fun _ => by simp)).trans (sendSegment_debt ..)
  · exact (setPosition_debt ..).trans (sendSeek_debt ..)
  · exact (setPosition_debt ..).trans (sendSeek_debt ..)
  · exact (setPosition_debt ..).trans (endHoming_debt _)
  · exact sendSeek_debt ..
  · exact failLens_debt ..
  · exact .refl s
theorem parkNext_debt : DebtKept s (parkNext s) := by
  simp only [parkNext]
  (repeat' split)
  · exact sendSegment_debt ..
  · exact sendSegment_debt ..
  · exact (changeLens_debt ..).trans (giveLensEvent_debt ..)
theorem tellStepLoss_debt (m : Motor) : DebtKept s (tellFocus (.stepLoss m) (tellZoom (.stepLoss m) s)) := by
  simp [debtKept_iff]
theorem segmentMoved_debt (g : Segment) (t : Nat) : DebtKept s (segmentMoved g t s) := by
  simp only [segmentMoved]
  split
  · exact ((setPosition_debt ..).trans (giveLensEvent_debt ..)).trans (tellStepLoss_debt ..)
  · exact setPosition_debt ..
theorem endDrain_debt : DebtKept s (endDrain s) := by
  have settles (m : LensMode) : DebtKept s (if m = (dropAllMoves s).lens.mode then dropAllMoves s
      else changeLens m (dropAllMoves s)) := by
    split
    · exact dropAllMoves_debt s
    · exact (dropAllMoves_debt s).trans (changeLens_debt ..)
  simp only [endDrain]
  generalize drained : (if _ = (dropAllMoves s).lens.mode then _ else _) = u
  have kept := (drained ▸ settles _ : DebtKept s u).onLens
    (f := fun l => { l with draining := false, homing := none }) (fun _ => by simp)
  split
  · exact kept.trans (by simp [debtKept_iff])
  · exact kept
theorem handOver_debt : DebtKept s (handOver s) := by simp [debtKept_iff, handOver_eq, openRequests]
theorem drainDone_debt (g : Segment) : DebtKept s (drainDone g s) := by
  simp only [drainDone]
  refine .trans ?_ (endDrain_debt _)
  split
  · exact (handOver_debt s).trans (by simp [debtKept_iff])
  · exact .refl s
theorem segmentDone_debt (g : Segment) (z f : Bool) (t now : Nat) : DebtKept s (segmentDone g z f t now s) := by
  simp only [segmentDone]
  have ended : DebtKept s (noteFocusEnd g now
      (s.onLens (fun l => { l with segment := none, zoomBlocked := z, focusBlocked := f }))) :=
    ((DebtKept.refl s).onLens (fun _ => by simp)).trans (noteFocusEnd_debt ..)
  generalize noteFocusEnd g now _ = u at ended ⊢
  have moved : DebtKept s (if g.homing then u else segmentMoved g t u) := by
    split
    · exact ended
    · exact ended.trans (segmentMoved_debt ..)
  generalize (if g.homing then u else segmentMoved g t u) = v at moved ⊢
  refine moved.trans ?_
  (repeat' split)
  · exact drainDone_debt ..
  · exact homingDone_debt ..
  · exact ((endMove_debt ..).onLens (fun _ => by simp)).trans (parkNext_debt _)
  · exact parkNext_debt _
  · exact handOver_debt _
  · exact grant_debt _
  · exact .refl v
theorem dropWaiting_debt (m : Motor) : DebtKept s (dropWaiting m s) := by
  simp only [dropWaiting]; split
  · exact dropMove_debt ..
  · exact dropMove_debt ..
  · exact .refl s
theorem dropWaitingMoves_debt : DebtKept s (dropWaitingMoves s) :=
  (((dropWaiting_debt ..).trans (dropWaiting_debt ..)).trans (dropWaiting_debt ..)).onLens (fun _ => by simp)
theorem startParking_debt : DebtKept s (startParking s) := by
  simp only [startParking]
  refine .trans (t := dropWaitingMoves (s.onLens (fun l => { l with awaiting := false }))) ?_ ?_
  · exact ((DebtKept.refl s).onLens (fun _ => by simp)).trans (dropWaitingMoves_debt _)
  · split
    · exact changeLens_debt ..
    · exact ((dropAllMoves_debt _).trans (changeLens_debt _ .parking)).trans (parkNext_debt _)
theorem takeTarget_debt (m : Motor) (p : Nat) (r : Requester) : DebtKept s (takeTarget m p r s) := by
  have set (u : State) : DebtKept u (setTarget m p r u) := by simp [debtKept_iff, openRequests, setTarget]
  simp only [takeTarget]
  (repeat' split)
  · exact (set s).trans (noticeEnd_debt ..)
  · exact ((set s).trans (setMotorState_debt _ m .pending)).trans (grant_debt _)
  · exact (set s).trans (setMotorState_debt _ m .pending)
  · exact (set s).onLens (fun _ => by simp)
  · exact set s
theorem takeStop_debt (m : Motor) : DebtKept s (takeStop m s) := by
  have set (p : Nat) (r : Requester) (u : State) : DebtKept u (setTarget m p r u) := by
    simp [debtKept_iff, openRequests, setTarget]
  simp only [takeStop]
  split
  · exact .refl s
  · exact endMove_debt ..
  · exact set ..
  · exact (set ..).onLens (fun _ => by simp)

/-! ## The Zoom Controller -/

/-- A request that completes nothing is sent to the Lens Drive. -/
theorem zoomAsksLens_debt {m : LensMessage} (h : m.completes = false) : DebtKept s (zoomAsksLens m s) := by
  simp [debtKept_iff, zoomAsksLens, openRequests, h]
theorem zoomAsksLens_owes (m : LensMessage) : othersOwe (zoomAsksLens m s) ≤ othersOwe s + 1 := by
  have more : openRequests (zoomAsksLens m s).lens ≤ openRequests s.lens + 1 := by
    cases h : m.completes <;> simp [zoomAsksLens, openRequests, h]; omega
  simp only [othersOwe, zoomAsksLens_frame]
  omega
theorem sendTracking_debt : DebtKept s (sendTracking s) := by
  simp only [sendTracking]
  (repeat' split)
  · exact .refl s
  · exact zoomAsksLens_debt s rfl
  · exact .refl s
theorem handover_debt (z : Nat) : DebtKept s (handover z s) := by
  simp only [handover]
  refine .trans ?_ (zoomAsksLens_debt _ rfl)
  have formed : DebtKept s ((popZoomNotice s).onZoom (fun c => c.reform z)) := by simp [debtKept_iff]
  split
  · exact formed.trans (sendTracking_debt _)
  · exact formed.trans (by simp [debtKept_iff])
/-- An update of the Zoom Controller owes nothing. -/
theorem DebtKept.onZoom {s t : State} (h : DebtKept s t) (f : ZoomController → ZoomController) :
    DebtKept s (t.onZoom f) := h.trans (by simp [debtKept_iff])
theorem commitCam_debt (l : List CamNode) : DebtKept s (commitCam l s) := by
  simp only [commitCam]
  (repeat' split)
  · exact ((((DebtKept.refl s).onZoom _).onZoom _).trans (zoomAsksLens_debt (m := .target .zoom (zMax l) .camCommit)
      _ rfl)).onZoom _
  · exact ((DebtKept.refl s).onZoom _).onZoom _
  · exact ((DebtKept.refl s).onZoom _).onZoom _

/-! ## The Focus Controller -/

theorem focusAsksLens_debt {m : LensMessage} (h : m.completes = false) : DebtKept s (focusAsksLens m s) := by
  simp [debtKept_iff, focusAsksLens, openRequests, h]
theorem focusAsksLens_owes (m : LensMessage) : othersOwe (focusAsksLens m s) ≤ othersOwe s + 1 := by
  have more : openRequests (focusAsksLens m s).lens ≤ openRequests s.lens + 1 := by
    cases h : m.completes <;> simp [focusAsksLens, openRequests, h]; omega
  simp only [othersOwe, focusAsksLens_frame]
  omega
theorem focusAsksZoom_debt (m : FractionMessage) : DebtKept s (focusAsksZoom m s) := by simp [debtKept_iff]
theorem focusAsksExposure_debt (m : ReferenceMessage) : DebtKept s (focusAsksExposure m s) := by simp [debtKept_iff]
theorem sendFocus_debt (p : Nat) : DebtKept s (sendFocus p .plain s) :=
  .trans (by simp [debtKept_iff]) (focusAsksLens_debt _ rfl)
theorem stopOwnMove_debt : DebtKept s (stopOwnMove s) := by
  simp only [stopOwnMove]; split
  · exact .trans (t := s.onFocus (fun f => { f with moveMark := false })) (by simp [debtKept_iff]) (focusAsksLens_debt _ rfl)
  · exact .refl s
theorem reportFocus_debt (b : SearchState) (n : FocusNote) : DebtKept s (reportFocus b n s) := giveReport_debt s rfl
/-- An update of the Focus Controller owes nothing. -/
theorem DebtKept.onFocus {s t : State} (h : DebtKept s t) (f : FocusController → FocusController) :
    DebtKept s (t.onFocus f) := h.trans (by simp [debtKept_iff])
theorem startSearch_debt (n : FocusNote) : DebtKept s (startSearch n s) :=
  ((DebtKept.refl s).onFocus _).trans (reportFocus_debt ..)
theorem failSearch_debt (n : FocusNote) : DebtKept s (failSearch n s) :=
  (((((stopOwnMove_debt s).onFocus _).trans (sendFocus_debt ..)).trans (focusAsksZoom_debt ..))).trans
    (giveReport_debt _ rfl)
theorem abandonSearch_debt (b : Bool) (n : FocusNote) : DebtKept s (abandonSearch b n s) := by
  simp only [abandonSearch]
  split
  · exact ((stopOwnMove_debt s).onFocus _).trans (reportFocus_debt ..)
  · exact ((DebtKept.refl s).onFocus _).trans (reportFocus_debt ..)
theorem enterFine_debt (n : FocusNote) : DebtKept s (enterFine n s) := by
  simp only [enterFine]
  split
  · exact (((DebtKept.refl s).onFocus _).trans (sendFocus_debt ..)).trans (reportFocus_debt ..)
  · exact ((DebtKept.refl s).onFocus _).trans (reportFocus_debt ..)
theorem sweepEnded_debt (n : BitVec 32) : DebtKept s (sweepEnded n s) := by
  simp only [sweepEnded]
  (repeat' split)
  · exact enterFine_debt ..
  · exact failSearch_debt ..
  · exact failSearch_debt ..
theorem coarseSample_debt (p : FocusSample) : DebtKept s (coarseSample p s) := by
  have sampled := (DebtKept.refl s).onFocus (appendSample p)
  simp only [coarseSample]
  (repeat' split)
  · exact sampled.trans (enterFine_debt ..)
  · exact sampled.trans (sendFocus_debt ..)
  · exact (sampled.onFocus _).trans (sweepEnded_debt ..)
  · exact (sampled.onFocus _).trans (sendFocus_debt ..)
  · exact sampled.trans (sweepEnded_debt ..)
theorem enterPeak_debt (n : BitVec 32) : DebtKept s (enterPeak n s) :=
  (((DebtKept.refl s).onFocus _).trans (sendFocus_debt ..)).trans (giveReport_debt _ rfl)
theorem fineSample_debt (p : FocusSample) : DebtKept s (fineSample p s) := by
  have sampled := (DebtKept.refl s).onFocus (appendSample p)
  simp only [fineSample]
  generalize filled : (if visiting _ = some p.position then _ else _) = u
  have kept : DebtKept s u := by
    subst filled
    split
    · exact sampled.onFocus _
    · exact sampled
  split
  · exact kept.trans (sendFocus_debt ..)
  · exact kept.trans (enterPeak_debt ..)
theorem lockFocus_debt : DebtKept s (lockFocus s) := by
  simp only [lockFocus]
  exact (((DebtKept.refl s).onFocus _).trans (focusAsksZoom_debt ..)).trans (reportFocus_debt ..)
theorem restartSearch_debt (n : FocusNote) : DebtKept s (restartSearch n s) := by
  simp only [restartSearch]; split
  · exact startSearch_debt ..
  · exact .refl s
theorem monitorSample_debt (p : FocusSample) : DebtKept s (monitorSample p s) := by
  simp only [monitorSample]
  (repeat' split)
  · exact ((DebtKept.refl s).onFocus _).trans (restartSearch_debt ..)
  · exact (DebtKept.refl s).onFocus _
  · exact (DebtKept.refl s).onFocus _
theorem holdingSample_debt (p : FocusSample) (r : StatRecord) : DebtKept s (holdingSample p r s) := by
  simp only [holdingSample]
  (repeat' split)
  · exact .refl s
  · exact (((DebtKept.refl s).onFocus _).trans (focusAsksExposure_debt ..)).trans (reportFocus_debt ..)
  · exact .refl s
  · exact monitorSample_debt ..
  · exact .refl s
theorem sweepFrame_debt (a : Announcement) (r : StatRecord) : DebtKept s (sweepFrame a r s) := by
  simp only [sweepFrame]
  (repeat' split)
  · exact .refl s
  · exact coarseSample_debt ..
  · exact fineSample_debt ..
  · exact .refl s
  · exact (DebtKept.refl s).onFocus _
theorem countFrame_debt (a : Announcement) (r : StatRecord) : DebtKept s (countFrame a r s) := by
  simp only [countFrame]
  split
  · exact ((DebtKept.refl s).onFocus _).trans (failSearch_debt ..)
  · exact ((DebtKept.refl s).onFocus _).trans (sweepFrame_debt ..)
theorem focusWork_debt (a : Announcement) (r : StatRecord) : DebtKept s (focusWork a r s) := by
  simp only [focusWork]
  (repeat' split)
  · exact .refl s
  · exact countFrame_debt ..
  · exact holdingSample_debt ..
  · exact .refl s
  · exact .refl s
theorem alarmWork_debt (v : Alarm) (n : BitVec 32) : DebtKept s (alarmWork v n s) := by
  simp only [alarmWork]
  (repeat' split)
  · exact ((DebtKept.refl s).onFocus _).trans (abandonSearch_debt ..)
  · exact (DebtKept.refl s).onFocus _
  · exact (DebtKept.refl s).onFocus _
  · exact .refl s
  · exact .refl s
theorem sceneWork_debt (n : BitVec 32) : DebtKept s (sceneWork n s) := by
  simp only [sceneWork]
  (repeat' split)
  · exact .refl s
  · exact restartSearch_debt ..
  · exact reportFocus_debt ..
  · exact .refl s
theorem focusMoveEndWork_debt (b : Bool) : DebtKept s (focusMoveEndWork b s) := by
  simp only [focusMoveEndWork]
  (repeat' split)
  · exact ((DebtKept.refl s).onFocus _).trans (lockFocus_debt _)
  · exact (DebtKept.refl s).onFocus _
  · exact .refl s
theorem lensFaultWork_debt : DebtKept s (lensFaultWork s) := by
  simp only [lensFaultWork]; split
  · exact .refl s
  · exact ((DebtKept.refl s).onFocus _).trans (reportFocus_debt ..)
theorem zoomStartedWork_debt : DebtKept s (zoomStartedWork s) := by
  simp only [zoomStartedWork]
  (repeat' split)
  · exact abandonSearch_debt ..
  · exact ((DebtKept.refl s).onFocus _).trans (focusAsksExposure_debt ..)
  · exact (DebtKept.refl s).onFocus _
theorem zoomStoppedWork_debt : DebtKept s (zoomStoppedWork s) := by
  simp only [zoomStoppedWork]; split
  · exact (DebtKept.refl s).onFocus _
  · exact .refl s
theorem leaveLock_debt (n : FocusNote) : DebtKept s (leaveLock n s) := by
  simp only [leaveLock]
  exact (((DebtKept.refl s).onFocus _).trans (focusAsksExposure_debt ..)).trans (reportFocus_debt ..)
theorem leaveViewFocus_debt : DebtKept s (leaveViewFocus s) := by
  simp only [leaveViewFocus]
  (repeat' split)
  · exact abandonSearch_debt ..
  · exact .refl s
  · exact leaveLock_debt ..
theorem applyFocusMode_debt (m : FocusMode) : DebtKept s (applyFocusMode m s) := by
  simp only [applyFocusMode]
  split
  · exact ((DebtKept.refl s).onFocus _).trans (reportFocus_debt ..)
  · exact ((DebtKept.refl s).onFocus _).trans (reportFocus_debt ..)
  · exact leaveLock_debt ..
  · exact leaveLock_debt ..
  · exact ((DebtKept.refl s).onFocus _).trans (reportFocus_debt ..)
  · exact .refl s

/-! ## The commands of the lens, the zoom and the focus -/

theorem homeLensWork_answers : Answers s (homeLensWork s) := by
  have homes : DebtKept s (sendSegment .iris false 16
      (changeLens .homing (s.onLens (fun l => { l with homing := some (.iris 0) })))) :=
    (((DebtKept.refl s).onLens (fun _ => by simp)).trans (changeLens_debt ..)).trans (sendSegment_debt ..)
  simp only [homeLensWork]
  split
  case h_4 => exact complete_answers ..
  all_goals exact homes.answers (complete_answers ..)
theorem parkLensWork_answers : Answers s (parkLensWork s) := by
  simp only [parkLensWork]
  (repeat' split)
  · exact complete_answers ..
  · exact (startParking_debt s).answers (complete_answers ..)
  · exact complete_answers ..
  · exact complete_answers ..
theorem setLensDriveWork_answers (a b c d e f g h : Nat) : Answers s (setLensDriveWork a b c d e f g h s) := by
  simp only [setLensDriveWork]; split
  · exact ((DebtKept.refl s).onLens (fun _ => by simp)).answers (complete_answers ..)
  · exact complete_answers ..
theorem zoomToWork_answers (z : Nat) : Answers s (zoomToWork z s) := by
  simp only [zoomToWork]; split
  · exact .of_owes (zoomAsksLens_owes (s.onZoom _) _) (by simp) (by simp) (by simp) (by simp [zoomAsksLens])
  · exact complete_answers ..
theorem zoomStopWork_answers : Answers s (zoomStopWork s) := by
  simp only [zoomStopWork]; split
  · exact .of_owes (zoomAsksLens_owes s _) (by simp) (by simp) (by simp) (by simp [zoomAsksLens])
  · exact complete_answers ..
theorem startFocusWork_answers : Answers s (startFocusWork s) := by
  simp only [startFocusWork]
  (repeat' split)
  · exact complete_answers ..
  · exact (startSearch_debt s _).answers (complete_answers ..)
  · exact complete_answers ..
theorem cancelFocusWork_answers : Answers s (cancelFocusWork s) := by
  refine DebtKept.answers ?_ (complete_answers ..)
  (repeat' split)
  · exact abandonSearch_debt ..
  · exact .refl s
  · exact ((stopOwnMove_debt s).onFocus _).trans (leaveLock_debt ..)
theorem moveFocusWork_answers (p : Nat) : Answers s (moveFocusWork p s) := by
  simp only [moveFocusWork]
  (repeat' split)
  · exact complete_answers ..
  · exact .of_owes (focusAsksLens_owes (s.onFocus _) _) (by simp) (by simp) (by simp) (by simp [sendFocus, focusAsksLens])
  · exact complete_answers ..
theorem moveFocusTaken_answers (c : Nat) (b : Bool) : Answers s (moveFocusTaken c b s) := by
  have told : DebtKept s (focusAsksZoom (.position c) s) := by simp [debtKept_iff]
  have left : DebtKept s (leaveLock { cause := .moved } ((focusAsksZoom (.position c) s).onFocus FocusController.clearLock)) :=
    (told.onFocus _).trans (leaveLock_debt ..)
  have completes (u : State) : Answers u (if b then complete .clamped c u else completeDone u) := by
    split <;> exact complete_answers ..
  refine DebtKept.answers ?_ (completes _)
  split
  case h_4 => exact told
  all_goals exact left
theorem setFocusModeWork_answers (a b c d e : Nat) : Answers s (setFocusModeWork a b c d e s) := by
  simp only [setFocusModeWork]
  (repeat' split)
  · exact complete_answers ..
  · exact (((DebtKept.refl s).onFocus _).trans (applyFocusMode_debt ..)).answers (complete_answers ..)
  · exact complete_answers ..
theorem setFocusWindowsWork_answers (w : List FocusWindow) : Answers s (setFocusWindowsWork w s) := by
  simp only [setFocusWindowsWork]
  (repeat' split)
  · exact complete_answers ..
  · exact ((DebtKept.refl s).onFocus _).answers (complete_answers ..)
  · exact complete_answers ..

/-! ## The requests to the Lens Drive (R70) -/

/-- The oldest request of a requester is taken: it is owed no more. -/
theorem openRequests_pop {r : Requester} {l : LensDrive} {m : LensMessage} {rest : List LensMessage}
    (head : l.channel r = m :: rest) : openRequests (popChannel r l) + m.completes.toNat = openRequests l := by
  cases r <;> simp only [LensDrive.channel] at head <;> cases h : m.completes <;>
    simp [openRequests, popChannel, head, h] <;> omega

theorem popChannel_draining (r : Requester) (l : LensDrive) : (popChannel r l).draining = l.draining := by
  cases r <;> rfl

/-- A request whose answer completes nothing is taken and answered. -/
theorem popChannel_debt {r : Requester} {m : LensMessage} {rest : List LensMessage} (head : s.lens.channel r = m :: rest) :
    DebtKept s (s.onLens (popChannel r)) := by
  have popped := openRequests_pop head
  have requests : openRequests (popChannel r s.lens) ≤ openRequests s.lens := by omega
  simp [debtKept_iff, popChannel_draining, requests]

/-- A request whose answer completes the command in hand is taken and answered. -/
theorem popChannel_answers {r : Requester} {m : LensMessage} {rest : List LensMessage} {t : State}
    (head : s.lens.channel r = m :: rest) (completes : m.completes = true) (h : Answers (s.onLens (popChannel r)) t) :
    StepKept s t := by
  have popped := openRequests_pop head
  rw [completes, Bool.toNat_true] at popped
  refine StepKept.of_answers (u := s.onLens (popChannel r)) ?_ rfl rfl (.refl _) (fun hd => ?_) h
  · simp only [othersOwe, State.onLens_lens, State.onLens_capture, State.onLens_command]
    omega
  · rwa [State.onLens_lens, popChannel_draining] at hd

/-- Whether an answer completes the command in hand goes by the purpose of the request alone (R88, R109). -/
theorem completes_target (m : Motor) (p : Nat) (w : RequestPurpose) :
    (LensMessage.target m p w).completes = (LensMessage.target .zoom p w).completes := by cases w <;> rfl
theorem completes_stop (m : Motor) (w : RequestPurpose) :
    (LensMessage.stop m w).completes = (LensMessage.stop .zoom w).completes := by cases w <;> rfl

theorem targetAnswered_answers (r : Requester) (p : Nat) {w : RequestPurpose} (b : Bool)
    (h : (LensMessage.target .zoom p w).completes = true) : Answers s (targetAnswered r p w b s) := by
  cases w with
  | plain | zoomStop | camCommit => cases h
  | zoomTo =>
    cases b
    · exact ((DebtKept.refl s).onZoom _).answers (complete_answers ..)
    · simp only [targetAnswered]
      split <;> exact complete_answers ..
  | moveFocus =>
    cases b
    · exact ((DebtKept.refl s).onFocus _).answers (complete_answers ..)
    · exact moveFocusTaken_answers ..

theorem targetAnswered_debt (r : Requester) (p : Nat) {w : RequestPurpose} (b : Bool)
    (h : (LensMessage.target .zoom p w).completes = false) : DebtKept s (targetAnswered r p w b s) := by
  cases w with
  | zoomTo | moveFocus => cases h
  | plain =>
    cases b
    · simp only [targetAnswered]
      split
      · exact (DebtKept.refl s).onFocus _
      · exact .refl s
    · exact .refl s
  | zoomStop => cases b <;> exact .refl s
  | camCommit =>
    cases b
    · exact (DebtKept.refl s).onZoom (fun z => { z with target := none })
    · exact .refl s

theorem stopAnswered_answers (x : Option Nat) (b : Bool) : Answers s (stopAnswered .zoomStop x b s) := by
  cases b
  · exact complete_answers ..
  · exact ((DebtKept.refl s).onZoom _).answers (complete_answers ..)

theorem stopAnswered_same {w : RequestPurpose} (h : (LensMessage.stop .zoom w).completes = false) (x : Option Nat) (b : Bool) :
    stopAnswered w x b s = s := by
  cases w with
  | zoomStop => cases h
  | _ => rfl

theorem targetRequest_stepKept {r : Requester} {m : Motor} {p : Nat} {w : RequestPurpose} {rest : List LensMessage}
    (head : s.lens.channel r = .target m p w :: rest) : StepKept s (targetRequest r m p w (s.onLens (popChannel r))) := by
  cases completes : (LensMessage.target .zoom p w).completes
  · refine ((popChannel_debt s head).trans ?_).stepKept
    simp only [targetRequest]
    split
    · exact (takeTarget_debt ..).trans (targetAnswered_debt _ _ _ _ completes)
    · exact targetAnswered_debt _ _ _ _ completes
  · refine popChannel_answers s head (completes_target m p w ▸ completes) ?_
    simp only [targetRequest]
    split
    · exact (takeTarget_debt ..).answers (targetAnswered_answers _ _ _ _ completes)
    · exact targetAnswered_answers _ _ _ _ completes

theorem stopRequest_stepKept {r : Requester} {m : Motor} {w : RequestPurpose} {rest : List LensMessage}
    (head : s.lens.channel r = .stop m w :: rest) : StepKept s (stopRequest m w (s.onLens (popChannel r))) := by
  cases completes : (LensMessage.stop .zoom w).completes
  · refine ((popChannel_debt s head).trans ?_).stepKept
    simp only [stopRequest, stopAnswered_same _ completes]
    split
    · exact takeStop_debt ..
    · exact .refl _
  · obtain rfl : w = .zoomStop := by
      cases w with
      | zoomStop => rfl
      | _ => cases completes
    refine popChannel_answers s head (completes_stop m _ ▸ completes) ?_
    simp only [stopRequest]
    split
    · exact (takeStop_debt ..).answers (stopAnswered_answers ..)
    · exact stopAnswered_answers ..

end Sys2Proof.Machine
end

section
/-!
What the Capture Unit owes (R129 to R139): a command taken completes or waits for the Slot Manager's answers, and an answer
goes on with the work or ends it.
-/
namespace Sys2Proof.Machine
variable (s : State)

/-- An update of the Capture Unit that owes no more. -/
theorem DebtKept.onCapture {s t : State} (h : DebtKept s t) {f : CaptureUnit → CaptureUnit}
    (quiet : ∀ c, captureOwes (f c) ≤ captureOwes c) : DebtKept s (t.onCapture f) :=
  h.trans (by simp [debtKept_iff, quiet])

theorem captureEvent_debt (n : CaptureNote) : DebtKept s (captureEvent n s) := giveReport_debt s rfl
theorem evalBufferHigh_debt : DebtKept s (evalBufferHigh s) := by
  simp only [evalBufferHigh]; split
  · exact .refl s
  · exact ((DebtKept.refl s).onCapture (fun _ => by simp [captureOwes])).trans (captureEvent_debt ..)
theorem evalBufferHigh_work : (evalBufferHigh s).capture.work = s.capture.work := by
  simp only [evalBufferHigh]; split <;> rfl

/-- A request to the Slot Manager whose last answer completes nothing. -/
theorem askSlots_debt (k : SlotRequestKind) (e : HeldEntry) (n : Nat) (i : Int) {w : CaptureWork} (h : w.completes = false) :
    DebtKept s (askSlots k e n i w s) := by
  simp [debtKept_iff, askSlots, captureOwes, h]
/-- A request to the Slot Manager: the work in hand may owe the completion. -/
theorem askSlots_answers (k : SlotRequestKind) (e : HeldEntry) (n : Nat) (i : Int) (w : CaptureWork) :
    Answers s (askSlots k e n i w s) := by
  refine .of_owes ?_ rfl rfl (.refl _) id
  have one : (some w |>.any CaptureWork.completes).toNat ≤ 1 := Bool.toNat_le _
  simp only [othersOwe, askSlots, captureOwes]
  omega

theorem endCapture_debt (w : EndCause) : DebtKept s (endCapture w s) :=
  ((DebtKept.refl s).onCapture (fun _ => by simp [captureOwes])).trans (captureEvent_debt ..)
theorem skipFrame_debt (e : HeldEntry) (w : KeepSkip) : DebtKept s (skipFrame e w s) :=
  ((DebtKept.refl s).onCapture (fun _ => by simp [captureOwes])).trans (captureEvent_debt ..)
theorem keptEvent_debt (e : HeldEntry) (i : Int) (b : Bool) : DebtKept s (keptEvent e i b s) := captureEvent_debt ..
theorem burstKept_debt (e : HeldEntry) (b : Bool) : DebtKept s (burstKept e b s) := by
  simp only [burstKept]
  have told := (((DebtKept.refl s).onCapture (f := fun c => { c with nextIndex := c.nextIndex + 1, keptCount := c.keptCount + 1 })
    (fun _ => by simp [captureOwes])).trans (keptEvent_debt _ e s.capture.nextIndex b)).trans (evalBufferHigh_debt _)
  (repeat' split)
  · exact told.trans (endCapture_debt ..)
  · exact told.trans (endCapture_debt ..)
  · exact told

/-! ## Commands taken -/

theorem armed_answers (b : Bool) (n : Nat) : Answers s (armed b n s) := by
  simp only [armed]
  split
  all_goals
    exact ((DebtKept.refl s).onCapture (fun _ => by simp [captureOwes])).answers (complete_answers ..)
theorem armNext_answers (b : Bool) (n : Nat) (l : List HeldEntry) : Answers s (armNext b n l s) := by
  cases l
  · exact armed_answers ..
  · exact askSlots_answers ..
theorem startArm_answers (p b : Nat) : Answers s (startArm p b s) := by
  simp only [startArm, passAnnouncements]
  (repeat' split)
  · exact complete_answers ..
  · exact complete_answers ..
  · exact complete_answers ..
  · exact ((DebtKept.refl s).onCapture (fun _ => by simp [captureOwes])).answers (armNext_answers ..)
theorem stopNext_answers (w : StopReason) (l : List HeldEntry) : Answers s (stopNext w l s) := by
  cases l
  · rw [stopNext, completeDone]
    exact (((DebtKept.refl s).onCapture (fun _ => by simp [captureOwes])).trans (endCapture_debt ..)).answers
      (complete_answers ..)
  · exact askSlots_answers ..
theorem startStop_answers (w : StopReason) : Answers s (startStop w s) := by
  simp only [startStop]
  split
  · exact complete_answers ..
  · exact stopNext_answers ..
  · exact (endCapture_debt ..).answers (complete_answers ..)
theorem startRelease_answers (n : Nat) : Answers s (startRelease n s) := by
  simp only [startRelease]
  (repeat' split)
  · exact askSlots_answers ..
  · exact complete_answers ..
  · exact complete_answers ..
theorem startCommand_answers (c : CaptureCommand) : Answers s (startCommand c s) := by
  cases c with
  | arm => exact startArm_answers ..
  | stop => exact startStop_answers ..
  | release => exact startRelease_answers ..
  | standby => exact startStop_answers ..
/-- A command is taken at once, or it waits and owes its completion (R129). -/
theorem takeCommand_answers (c : CaptureCommand) : Answers s (takeCommand c s) := by
  simp only [takeCommand]
  split
  · exact startCommand_answers ..
  · refine .of_owes ?_ rfl rfl (.refl _) id
    simp only [othersOwe, State.onCapture, captureOwes, Option.isSome_some, Bool.toNat_true]
    omega

/-! ## Work ends -/

/-- No work is in hand. -/
def restWork (c : CaptureUnit) : CaptureUnit := { c with work := none }

/-- Work ends, and a waiting command begins: it owes its completion no more. -/
theorem endWork_stepKept : StepKept s (endWork s) := by
  have rest : DebtKept s (s.onCapture restWork) := (DebtKept.refl s).onCapture (fun _ => by simp [captureOwes, restWork])
  cases hc : s.capture.command with
  | none =>
    have ended : endWork s = s.onCapture restWork := by simp only [endWork, State.onCapture_capture, hc]; rfl
    exact ended ▸ rest.stepKept
  | some c =>
    have ended : endWork s = startCommand c ((s.onCapture restWork).onCapture (fun u => { u with command := none })) := by
      simp only [endWork, State.onCapture_capture, hc]; rfl
    rw [ended]
    refine StepKept.of_answers (u := (s.onCapture restWork).onCapture (fun u => { u with command := none })) ?_ rfl rfl
      (.refl _) id (startCommand_answers ..)
    simp only [othersOwe, State.onCapture, captureOwes, restWork, hc, Option.any_none, Option.isSome_none, Option.isSome_some,
      Bool.toNat_true, Bool.toNat_false]
    omega

/-- The work whose last answer completes the command in hand is over: it owes the completion no more. -/
theorem StepKept.of_work {s t : State} {w : CaptureWork} (work : s.capture.work = some w) (completes : w.completes = true)
    (h : Answers (s.onCapture restWork) t) : StepKept s t := by
  refine StepKept.of_answers (u := s.onCapture restWork) ?_ rfl rfl (.refl _) id h
  simp only [othersOwe, State.onCapture, captureOwes, restWork, work, Option.any_some, completes, Option.any_none,
    Bool.toNat_true, Bool.toNat_false]
  omega

/-- With more than one completion owed, only the order is to keep. -/
theorem StepKept.of_overdue {s t : State} (two : 2 ≤ othersOwe s)
    (order : WaitingConsistent s.report → WaitingConsistent t.report) : StepKept s t := by
  have absurd (h : CompletionsReserved s) : False := by
    have one := h.one
    rw [owed_eq] at one
    omega
  exact ⟨order, fun h => (absurd h).elim, fun h => (absurd h).elim⟩

/-- RELEASE SLOT completes with its answer (R137). -/
theorem releaseEnds_stepKept (work : s.capture.work = some .releasing) (st : Status) (v : Int) :
    StepKept s (endWork (complete st v s)) := by
  cases hc : s.capture.command with
  | none =>
    have ended : endWork (complete st v s) = complete st v (s.onCapture restWork) := by
      simp [endWork, complete, State.onCapture, hc, restWork]
    exact ended ▸ .of_work work rfl (complete_answers ..)
  | some c =>
    refine .of_overdue ?_ ((endWork_stepKept _).order ∘ (complete_answers st v s).order)
    simp only [othersOwe, captureOwes, work, hc, Option.any_some, Option.isSome_some, CaptureWork.completes, Bool.toNat_true]
    omega

/-! ## Messages and answers -/

theorem askHold_debt (e : HeldEntry) : DebtKept s (askHold e s) := askSlots_debt _ _ _ _ _ rfl
theorem armedCompletion_debt (a : Announcement) : DebtKept s (armedCompletion a s) := by
  simp only [armedCompletion]
  (repeat' split)
  · exact .refl s
  · exact askHold_debt ..
  · exact askSlots_debt _ _ _ _ _ rfl
  · exact .refl s
theorem runningCompletion_debt (a : Announcement) : DebtKept s (runningCompletion a s) := by
  simp only [runningCompletion]
  (repeat' split)
  · exact skipFrame_debt ..
  · exact skipFrame_debt ..
  · exact askSlots_debt _ _ _ _ _ rfl
theorem captureCompletion_debt (a : Announcement) : DebtKept s (captureCompletion a s) := by
  simp only [captureCompletion]
  split
  · exact .refl s
  · exact armedCompletion_debt ..
  · exact runningCompletion_debt ..
theorem keepNext_stepKept (l : List HeldEntry) (i : Int) (k : Nat) : StepKept s (keepNext l i k s) := by
  cases l
  · exact (((DebtKept.refl s).onCapture (fun _ => by simp [captureOwes])).trans (captureEvent_debt ..)).stepKept.trans
      (endWork_stepKept _)
  · exact (askSlots_debt _ _ _ _ _ rfl).stepKept
theorem armedTrigger_stepKept : StepKept s (armedTrigger s) :=
  ((DebtKept.refl s).onCapture (fun _ => by simp [captureOwes])).stepKept.trans (keepNext_stepKept ..)
theorem captureToggle_stepKept (v : Bool) : StepKept s (captureToggle v s) := by
  have noted : DebtKept s (s.onCapture (fun c => { c with acknowledge := v })) :=
    (DebtKept.refl s).onCapture (fun _ => by simp [captureOwes])
  simp only [captureToggle]
  (repeat' split)
  · exact .refl s
  · exact noted.stepKept.trans (armedTrigger_stepKept _)
  · exact (noted.trans (captureEvent_debt ..)).stepKept
theorem popCapture_debt : DebtKept s (popCapture s) := (DebtKept.refl s).onCapture (fun _ => by simp [captureOwes])

/-- The next hold of ARM CAPTURE replaces the work in hand, or ends it. -/
theorem armNext_rest (b : Bool) (n : Nat) (l : List HeldEntry) : armNext b n l (s.onCapture restWork) = armNext b n l s := by
  cases l <;> rfl
/-- The next unhold of STOP CAPTURE replaces the work in hand, or ends it. -/
theorem stopNext_rest (w : StopReason) (l : List HeldEntry) : stopNext w l (s.onCapture restWork) = stopNext w l s := by
  cases l
  · simp only [stopNext, endCapture, State.onCapture, restWork]
  · rfl

/-- The work goes on after an answer (R129): a command's work owes its completion till its last answer. -/
theorem continueWork_stepKept {s : State} {w : CaptureWork} (work : s.capture.work = some w) (a : SlotAnswer) :
    StepKept s (continueWork w a s) := by
  have arms {u : State} {e : HeldEntry} {rest : List HeldEntry} {c : Bool} {b : Nat}
      (same : u.capture.work = some (.arming e rest c b)) : StepKept u (armNext c b rest u) :=
    .of_work same rfl (armNext_rest u c b rest ▸ armNext_answers ..)
  have stops {u : State} {rest : List HeldEntry} {why : StopReason} (same : u.capture.work = some (.stopping rest why)) :
      StepKept u (stopNext why rest u) := .of_work same rfl (stopNext_rest u why rest ▸ stopNext_answers ..)
  have tails : DebtKept s (s.onCapture (fun c => { c with heldList := c.heldList.tail })) :=
    (DebtKept.refl s).onCapture (fun _ => by simp [captureOwes])
  have holds (e : HeldEntry) : DebtKept s (appendHeld e s) := (DebtKept.refl s).onCapture (fun _ => by simp [captureOwes])
  have skips : StepKept s (endWork s) := endWork_stepKept s
  cases w with
  | arming e rest c b =>
    cases a
    · exact ((holds e).trans (evalBufferHigh_debt _)).stepKept.trans (arms ((evalBufferHigh_work _).trans work))
    all_goals exact arms work
  | makeRoom e =>
    cases a
    · exact ((tails.trans (evalBufferHigh_debt _)).trans (askHold_debt ..)).stepKept
    all_goals exact (tails.trans (askHold_debt ..)).stepKept
  | holdFrame e =>
    cases a
    · exact ((holds e).trans (evalBufferHigh_debt _)).stepKept.trans (endWork_stepKept _)
    all_goals exact skips
  | keepHeld e rest i k =>
    cases a
    · exact ((keptEvent_debt s ..).trans (evalBufferHigh_debt _)).stepKept.trans (keepNext_stepKept ..)
    all_goals exact keepNext_stepKept ..
  | keepFrame e t =>
    cases a
    · exact (burstKept_debt s ..).stepKept.trans (endWork_stepKept _)
    all_goals exact (skipFrame_debt s ..).stepKept.trans (endWork_stepKept _)
  | stopping rest why =>
    cases a
    · exact (evalBufferHigh_debt s).stepKept.trans (stops ((evalBufferHigh_work s).trans work))
    all_goals exact stops work
  | releasing =>
    cases a
    · exact (evalBufferHigh_debt s).stepKept.trans (releaseEnds_stepKept _ ((evalBufferHigh_work s).trans work) ..)
    all_goals exact releaseEnds_stepKept _ work ..

theorem takeAnswer_stepKept {t : State} (ht : takeAnswer s = some t) : StepKept s t := by
  simp only [takeAnswer] at ht
  split at ht
  next a w _ work =>
    cases ht
    have taken : DebtKept s { s with slots := { s.slots with captureAnswer := none } } := by simp [debtKept_iff]
    exact taken.stepKept.trans (continueWork_stepKept (by exact work) a)
  next => cases ht

end Sys2Proof.Machine
end

section
/-!
What the other blocks leave of the debts: the slots, the statistics, the exposure, the steadying with its pins, and the reports.
-/
namespace Sys2Proof.Machine
variable (s : State)

/-! ## Shared operations -/

theorem noteImages_debt (b : State) : DebtKept s (noteImages b s) := by simp [debtKept_iff]
theorem noteStatus_debt (b : State) : DebtKept s (noteStatus b s) := by simp [debtKept_iff, noteStatus, OrderKept.of_same]
theorem supplyFields_debt (n : BitVec 32) (f : FrameRecord → FrameRecord) : DebtKept s (supplyFields n f s) := by
  simp [debtKept_iff]
theorem DebtKept.onReport {s t : State} (h : DebtKept s t) {f : ReportUnit → ReportUnit}
    (order : OrderKept t.report (f t.report)) : DebtKept s (t.onReport f) :=
  h.trans (by simpa [debtKept_iff] using order)
theorem DebtKept.onSteady {s t : State} (h : DebtKept s t) (f : SteadyController → SteadyController) :
    DebtKept s (t.onSteady f) := h.trans (by simp [debtKept_iff])
theorem DebtKept.onLink {s t : State} (h : DebtKept s t) (f : PassThrough → PassThrough) : DebtKept s (t.onLink f) :=
  h.trans (by simp [debtKept_iff])
/-- An update of the Command Unit that leaves the command in hand and owes no more. -/
theorem DebtKept.onCommand {s t : State} (h : DebtKept s t) {f : CommandUnit → CommandUnit}
    (quiet : ∀ c, (f c).cycle = c.cycle ∧ (f c).inHand = c.inHand ∧ unitOwes (f c) ≤ unitOwes c) :
    DebtKept s (t.onCommand f) := by
  obtain ⟨cycle, inHand, owes⟩ := quiet t.command
  exact h.trans (by simp [debtKept_iff, cycle, inHand, owes])

/-! ## The slots (R5 to R13) -/

theorem sendDown_debt (r : DownRequest) : DebtKept s (sendDown r s) := by simp [debtKept_iff]
theorem startFrame_debt (now : Nat) : DebtKept s (startFrame now s) := by
  simp [debtKept_iff, startFrame, markFrameStart, openRequests]
theorem announce_debt (a : Announcement) : DebtKept s (announce a s) := by
  simpa [debtKept_iff, captureOwes, announce] using orderKept_giveSummary ..
theorem completeFrame_debt (n : BitVec 32) (i : Nat) : DebtKept s (completeFrame n i s) :=
  .trans (by simp [debtKept_iff]) (announce_debt _ (announcementOf n i s))
theorem abandonFrame_debt : DebtKept s (abandonFrame s) := by simp [debtKept_iff]
theorem tearFrame_debt (addr : Nat) : DebtKept s (tearFrame addr s) :=
  .trans (by simp [debtKept_iff]) (raiseFault_debt _ .captureOutOfOrder addr)
theorem storeWords_debt (i off : Nat) (d : List LinkWord) : DebtKept s (storeWords i off d s) := by simp [debtKept_iff]
theorem writeInFrame_debt (n : BitVec 32) (i addr off : Nat) (d : List LinkWord) :
    DebtKept s (writeInFrame n i addr off d s) := by
  simp only [writeInFrame]
  generalize torn : (if off = s.slots.tracker.expected then s else tearFrame addr s) = u
  have tears : DebtKept s u := by
    subst torn; split
    · exact .refl s
    · exact tearFrame_debt ..
  have stored := tears.trans (storeWords_debt u i off (d.take ((frameSize s - off) / 16)))
  generalize storeWords i off (d.take ((frameSize s - off) / 16)) u = v at stored ⊢
  generalize ran : (if _ < d.length then _ else v) = w
  have overruns : DebtKept s w := by
    subst ran; split
    · exact stored.trans (raiseFault_debt ..)
    · exact stored
  split
  · exact overruns.trans (completeFrame_debt ..)
  · exact overruns
theorem captureWrite_debt (now addr off : Nat) (d : List LinkWord) : DebtKept s (captureWrite now addr off d s) := by
  simp only [captureWrite]
  split
  · exact raiseFault_debt ..
  generalize begun : (if off = 0 then _ else s) = u
  have starts : DebtKept s u := by
    subst begun
    (repeat' split)
    · exact (((abandonFrame_debt s).trans (noteImages_debt ..)).trans (raiseFault_debt ..)).trans (startFrame_debt ..)
    · exact startFrame_debt ..
    · exact .refl s
  split
  · exact starts.trans (writeInFrame_debt ..)
  · exact starts.trans (raiseFault_debt ..)

/-! ## The exposure (R46, R60) -/

theorem issue_debt (a b : ExposureSet) : DebtKept s (issue a b s) := by
  simp only [issue]
  (repeat' split) <;> simp [debtKept_iff, openRequests, LensMessage.completes]
theorem reportIssue_debt (e : ExposureSet) (b : Bool) (m : ExposureMode) (r : StatRecord) (rd : Reading) :
    DebtKept s (reportIssue e b m r rd s) := by
  have order : OrderKept s.report (reportIssue e b m r rd s).report := orderKept_mergeExposure rfl rfl
  simp [debtKept_iff, order]
theorem exposureViewWork_debt (l : ExposureLatch) (a : Announcement) (r : StatRecord) :
    DebtKept s (exposureViewWork l a r s) := by
  simp only [exposureViewWork]
  have measured : DebtKept s (tellFocusExposure (.alarm (alarmOf (readFrame s l a r)) a.frame)
      (measuredUpdates a.frame r.y (readFrame s l a r) s)) := by simp [debtKept_iff]
  exact ((measured.trans (issue_debt ..)).trans (supplyFields_debt ..)).trans (reportIssue_debt ..)
theorem exposureWork_debt (l : ExposureLatch) (a : Announcement) (r : StatRecord) : DebtKept s (exposureWork l a r s) := by
  have read : DebtKept s (readStanding s) := by simp [debtKept_iff]
  have discards (u : State) : DebtKept u { u with exposure := dropExposureLatch a.frame u.exposure } := by
    simp [debtKept_iff]
  simp only [exposureWork]
  split
  · exact (read.trans (exposureViewWork_debt ..)).trans (discards _)
  · exact (read.trans (supplyFields_debt ..)).trans (discards _)
theorem takeExposureWork_debt {s t : State} (ht : takeExposureWork s = some t) : DebtKept s t := by
  simp only [takeExposureWork] at ht
  split at ht
  · split at ht <;> cases ht
    · exact .trans (by simp [debtKept_iff]) (exposureWork_debt ..)
    · simp [debtKept_iff]
  · cases ht

/-! ## Pins and the view pass (R3, R122, R125, R126) -/

theorem unpinSource_debt : DebtKept s (unpinSource s) := by simp [debtKept_iff]
theorem setSource_debt (x : Option Nat) : DebtKept s (setSource x s) := by simp [debtKept_iff]
theorem closePass_debt : DebtKept s (closePass s) := by simp [debtKept_iff]
theorem openBlank_debt (a : Nat) : DebtKept s (openBlank a s) :=
  ((DebtKept.refl s).onSteady _).trans (raiseFault_debt ..)
theorem pinSlot_debt {s t : State} {n : Nat} (ht : pinSlot n s = some t) : DebtKept s t := by
  simp only [pinSlot] at ht
  split at ht <;> cases ht
  simp [debtKept_iff]
theorem openChain_debt (a : Nat) : DebtKept s (openChain a s) := by
  simp only [openChain]
  split
  · split
    next pinned => exact (pinSlot_debt pinned).onSteady _
    next => exact openBlank_debt ..
  · exact openBlank_debt ..

/-- The review pin that SET VIEW SOURCE waits for is answered, and the command completes (R126). -/
theorem reviewAnswered_stepKept {n : Nat} (wanted : s.command.slotWanted = some n) :
    StepKept s (reviewAnswered n (pinSlot n s) s) := by
  have cleared {u : State} (h : DebtKept s u) (same : u.command = s.command) (t : State)
      (answers : Answers { u with command := { u.command with slotWanted := none } } t) : StepKept s t := by
    refine .of_answers (u := { u with command := { u.command with slotWanted := none } }) ?_ h.cycle h.inHand h.report
      h.draining answers
    have requests := h.requests
    have capture := h.capture
    simp only [othersOwe, unitOwes, same, wanted, Option.isSome_none, Option.isSome_some, Bool.toNat_true,
      Bool.toNat_false]
    omega
  cases pinned : pinSlot n s with
  | none => exact cleared (.refl s) rfl _ (complete_answers ..)
  | some u =>
    have same : u.command = s.command := by
      simp only [pinSlot] at pinned
      split at pinned <;> cases pinned
      rfl
    exact cleared (pinSlot_debt pinned) same _ (((unpinSource_debt _).trans (setSource_debt ..)).answers (complete_answers ..))

theorem takePinMessage_stepKept (m : PinMessage) : StepKept s (takePinMessage m s) := by
  cases m with
  | unpin n => exact DebtKept.stepKept (by simp [debtKept_iff, takePinMessage])
  | reviewPin n =>
    simp only [takePinMessage]
    split
    next wanted => exact reviewAnswered_stepKept s wanted
    next => exact .refl s
theorem popPin_debt : DebtKept s (popPin s) := by simp [debtKept_iff]
theorem flushPins_stepKept (fuel : Nat) : StepKept s (flushPins fuel s) := by
  induction fuel generalizing s with
  | zero => exact .refl s
  | succ n ih =>
    simp only [flushPins]
    split
    · exact .refl s
    · exact (((popPin_debt s).stepKept.trans (takePinMessage_stepKept ..)).trans (noteImages_debt ..).stepKept).trans (ih _)
theorem passForRead_stepKept (a off : Nat) : StepKept s (passForRead a off s) := by
  simp only [passForRead]
  (repeat' split)
  · exact (flushPins_stepKept ..).trans (openChain_debt ..).stepKept
  · exact (((closePass_debt s).trans (noteStatus_debt ..)).stepKept.trans (flushPins_stepKept ..)).trans
      (openChain_debt ..).stepKept
  · exact .refl s

/-- SET VIEW SOURCE completes, or waits for its pin (R126). -/
theorem setViewSourceWork_answers (n : Nat) : Answers s (setViewSourceWork n s) := by
  simp only [setViewSourceWork]
  (repeat' split)
  · exact ((unpinSource_debt _).trans (setSource_debt ..)).answers (complete_answers ..)
  · exact complete_answers ..
  · refine .of_owes ?_ rfl rfl (.refl _) (fun h => h)
    simp only [othersOwe, sendPin, unitOwes, Option.isSome_some, Bool.toNat_true]
    omega
  · exact complete_answers ..
theorem setSteadyWork_answers (e : Bool) (a b c d f : Nat) : Answers s (setSteadyWork e a b c d f s) := by
  simp only [setSteadyWork]
  (repeat' split)
  · exact complete_answers ..
  · exact ((DebtKept.refl s).onSteady _).answers (complete_answers ..)
  · exact ((DebtKept.refl s).onSteady _).answers (complete_answers ..)
  · exact complete_answers ..
theorem recenterSteadyWork_answers : Answers s (recenterSteadyWork s) :=
  ((DebtKept.refl s).onSteady _).answers (complete_answers ..)

/-! ## The parameter commands -/

theorem onParams_debt (f : ExposureParams → ExposureParams) : DebtKept s (onParams f s) := by simp [debtKept_iff]
theorem setMeteringWork_answers (a b c d e f : Nat) : Answers s (setMeteringWork a b c d e f s) := by
  simp only [setMeteringWork]; split
  · exact (onParams_debt ..).answers (complete_answers ..)
  · exact complete_answers ..
theorem setExposureModeWork_answers (m : Nat) : Answers s (setExposureModeWork m s) := by
  simp only [setExposureModeWork]; split
  · exact (onParams_debt ..).answers (complete_answers ..)
  · exact complete_answers ..
theorem setCompensationWork_answers (v : Int) : Answers s (setCompensationWork v s) := by
  simp only [setCompensationWork]
  split <;> exact (onParams_debt ..).answers (complete_answers ..)
theorem setManualExposureWork_answers (a : BitVec 32) (b : BitVec 16) (c : BitVec 8) :
    Answers s (setManualExposureWork a b c s) := by
  simp only [setManualExposureWork]
  split <;> exact (onParams_debt ..).answers (complete_answers ..)
theorem setStatisticsWork_answers (p : StatParams) : Answers s (setStatisticsWork p s) := by
  simp only [setStatisticsWork]; split
  · exact DebtKept.answers (by simp [debtKept_iff]) (complete_answers _ _ { s with stats := { s.stats with params := p } })
  · exact complete_answers ..

/-! ## The reports placed (R163 to R168) -/

theorem orderKept_evalHighWater (r : ReportUnit) : OrderKept r (evalHighWater r) :=
  .of_same (by simp only [evalHighWater]) (by simp only [evalHighWater])
theorem orderKept_evalAttention (r : ReportUnit) : OrderKept r (evalAttention r) :=
  .of_same (by simp only [evalAttention]) (by simp only [evalAttention])
theorem orderKept_placed (c : ReportClass) (r : ReportUnit) : OrderKept r (placed c r) :=
  .of_same (by simp only [placed, evalHighWater]) (by simp only [placed, evalHighWater])
theorem orderKept_markForwarded (n : BitVec 16) (r : ReportUnit) : OrderKept r (markForwarded n r) := by
  simp only [markForwarded]
  split
  · exact .of_same (by simp only [evalAttention]) (by simp only [evalAttention])
  · exact .refl r
theorem writeForwarded_status (r : ReportUnit) : writeForwarded .status r = { r with statusQueued := false } := rfl
theorem orderKept_writeForwarded (p : OwnPurpose) (r : ReportUnit) : OrderKept r (writeForwarded p r) := by
  cases p with
  | report count =>
    cases count
    · exact .refl r
    · exact orderKept_markForwarded ..
  | status => rw [writeForwarded_status]; exact .of_same (by with_reducible rfl) (by with_reducible rfl)
  | _ => exact .refl r

/-- The report taken out leaves the others in their order. -/
theorem takeEligible_split {hw : Bool} {l rest : List Report} {r : Report} (h : takeEligible hw l = some (r, rest)) :
    ∃ pre post, l = pre ++ r :: post ∧ rest = pre ++ post := by
  induction l generalizing rest with
  | nil => cases h
  | cons x l ih =>
    simp only [takeEligible] at h
    split at h
    · cases h; exact ⟨[], _, rfl, rfl⟩
    · simp only [Option.map_eq_some_iff, Prod.mk.injEq] at h
      obtain ⟨⟨y, tail⟩, found, rfl, rfl⟩ := h
      obtain ⟨pre, post, rfl, rfl⟩ := ih found
      exact ⟨x :: pre, post, rfl, rfl⟩

/-- A report leaves the waiting order: the places it took are free, and with EVENTS LOST the mark is cleared (R165, R167). -/
theorem orderKept_without {a b : ReportUnit} {pre post : List Report} {r : Report} (split : a.waiting = pre ++ r :: post)
    (waiting : b.waiting = pre ++ post) (mark : b.lostMark = (a.lostMark && !r.isLost)) : OrderKept a b := by
  have fewer (p : Report → Bool) : (b.waiting.filter p).length + (p r).toNat = (a.waiting.filter p).length := by
    cases h : p r <;> simp [split, waiting, h]; omega
  refine ⟨fun h => ?_, by have := fewer Report.isCompletion; unfold waitingCompletions; omega⟩
  rw [waitingConsistent_iff] at h ⊢
  obtain ⟨general, lost, exposure, faults⟩ := h
  refine ⟨by have := fewer Report.general; omega, ?_, by have := fewer Report.isExposure; omega,
    fun c => by have := fewer (Report.isFault c); have := faults c; omega⟩
  have left := fewer Report.isLost
  rw [lost] at left
  rw [mark]
  revert left
  cases r.isLost <;> cases a.lostMark <;> simp

theorem writeReport_debt {r : Report} {rest : List Report}
    (taken : takeEligible s.report.highWater s.report.waiting = some (r, rest)) :
    DebtKept s (writeReport r rest s) := by
  obtain ⟨pre, post, split, rfl⟩ := takeEligible_split taken
  have kept (t : State) (lens : t.lens = s.lens) (capture : t.capture = s.capture) (command : t.command = s.command)
      (order : OrderKept s.report t.report) : DebtKept s t := by
    simp [debtKept_iff, lens, capture, command, order]
  have left : r.isLost = false → OrderKept s.report { s.report with waiting := pre ++ post } := fun h =>
    orderKept_without split rfl (by simp [h])
  cases r with
  | eventsLost =>
    refine kept _ rfl rfl rfl (orderKept_without split rfl ?_)
    simp only [Report.isLost, Bool.not_true, Bool.and_false]
    rfl
  | frameSummary =>
    cases hw : s.report.highWater <;> simp only [writeReport, hw]
    · exact kept _ rfl rfl rfl ((left rfl).trans (orderKept_placed ..))
    · exact kept _ rfl rfl rfl ((left rfl).trans (orderKept_loseReport .frame { s.report with waiting := pre ++ post }))
  | _ => exact kept _ rfl rfl rfl ((left rfl).trans (orderKept_placed ..))

end Sys2Proof.Machine
end

section
/-!
Every step keeps the waiting order and its places (O53): the Command Unit, the link, and then every command.
-/
namespace Sys2Proof.Machine
variable (s : State)

/-! ## The Command Unit (R155 to R161) -/

theorem applyLayout_debt (c : FrameConfig) : DebtKept s (applyLayout c s) := by simp [debtKept_iff]
theorem applySize_debt : DebtKept s (applySize s) := by simp [debtKept_iff]
theorem configure_debt (c : FrameConfig) : DebtKept s (configure c s) := by
  have set : DebtKept s (s.onCommand (fun u => { u with config := c, valid := true })) :=
    (DebtKept.refl s).onCommand (fun _ => by simp [unitOwes])
  have layouts (b : Bool) (u : State) : DebtKept u (if b then applyLayout c u else u) := by
    split
    · exact applyLayout_debt ..
    · exact .refl u
  have sizes (b : Bool) (u : State) : DebtKept u (if b then applySize u else u) := by
    split
    · exact applySize_debt u
    · exact .refl u
  rw [configure]
  exact ((set.trans (layouts ..)).trans (sizes ..)).trans (evalBufferHigh_debt _)
theorem configureFrameWork_answers (c : FrameConfig) : Answers s (configureFrameWork c s) := by
  simp only [configureFrameWork]
  (repeat' split)
  · exact complete_answers ..
  · exact complete_answers ..
  · exact complete_answers ..
  · exact (configure_debt ..).answers (complete_answers ..)
theorem enterView_debt : DebtKept s (enterView s) := by
  simp [debtKept_iff, enterView, unitOwes]
theorem setModeViewWork_answers : Answers s (setModeViewWork s) := by
  simp only [setModeViewWork]
  (repeat' split)
  · exact complete_answers ..
  · exact (enterView_debt s).answers (complete_answers ..)
  · exact complete_answers ..
theorem setModeStandbyWork_answers : Answers s (setModeStandbyWork s) := by
  simp only [setModeStandbyWork]
  split
  · exact complete_answers ..
  · have left : DebtKept s (s.onCommand (fun c => { c with mode := .standby })) :=
      (DebtKept.refl s).onCommand (fun _ => by simp [unitOwes])
    exact (((left.trans (abandonFrame_debt _)).trans (leaveViewFocus_debt _)).trans (closePass_debt _)).answers
      (takeCommand_answers ..)
theorem setModeWork_answers (m : BitVec 8) : Answers s (setModeWork m s) := by
  simp only [setModeWork]
  (repeat' split)
  · exact setModeViewWork_answers s
  · exact setModeStandbyWork_answers s
  · exact complete_answers ..

/-- LOAD TABLE completes, or its image waits for its fetches (R159). -/
theorem loadTableWork_answers (k : BitVec 8) (a : BitVec 32) : Answers s (loadTableWork k a s) := by
  simp only [loadTableWork]
  (repeat' split)
  · exact complete_answers ..
  · exact complete_answers ..
  · exact complete_answers ..
  · refine .of_owes ?_ rfl rfl (.refl _) (fun h => h)
    simp only [othersOwe, State.onCommand, unitOwes, Option.isSome_some, Bool.toNat_true]
    omega

/-- The staged image goes, and LOAD TABLE completes. -/
theorem endStaging_stepKept {s : State} (staged : s.command.staging.isSome = true) (st : Status) (v : Int) :
    StepKept s (complete st v (s.onCommand (fun c => { c with staging := none }))) := by
  refine .of_answers (u := s.onCommand (fun c => { c with staging := none })) ?_ rfl rfl (.refl _) (fun h => h)
    (complete_answers ..)
  simp only [othersOwe, State.onCommand, unitOwes, staged, Option.isSome_none, Bool.toNat_true, Bool.toNat_false]
  omega

theorem commitImage_debt {s t : State} {k : TableKind} {b : List Byte} (ht : commitImage k b s = some t) :
    DebtKept s t ∧ t.command.staging = s.command.staging := by
  cases k <;> simp only [commitImage] at ht <;> split at ht <;> simp only [Option.some.injEq, reduceCtorEq] at ht <;>
    subst ht
  · exact ⟨(commitCam_debt ..).onCommand (fun _ => by simp [unitOwes]), by simp⟩
  · exact ⟨by simp [debtKept_iff, unitOwes], by simp⟩
  · exact ⟨by simp [debtKept_iff, unitOwes], by simp⟩

theorem finishImage_stepKept {s : State} (staged : s.command.staging.isSome = true) (t : Staging) :
    StepKept s (finishImage t s) := by
  simp only [finishImage]
  split
  next committed =>
    obtain ⟨kept, same⟩ := commitImage_debt committed
    exact kept.stepKept.trans (endStaging_stepKept (same ▸ staged) ..)
  next => exact endStaging_stepKept staged ..

/-- The image stays in hand: no more is owed. -/
theorem stage_debt {s : State} (staged : s.command.staging.isSome = true) (t : Staging) (reads : List OwnRequest) :
    DebtKept s (s.onCommand (fun c => { c with staging := some t, waitingReads := reads })) := by
  simp [debtKept_iff, unitOwes, staged]

theorem failedReturn_stepKept {s : State} (staged : s.command.staging.isSome = true) (t : Staging) (l : List Nat) :
    StepKept s (failedReturn t l s) := by
  simp only [failedReturn]
  split
  · exact endStaging_stepKept staged ..
  · exact (stage_debt staged ..).stepKept

theorem tableReturned_stepKept {s : State} (staged : s.command.staging.isSome = true) (o : Nat) (e : Bool)
    (d : List LinkWord) (t : Staging) : StepKept s (tableReturned o e d t s) := by
  simp only [tableReturned]
  split
  · exact ((DebtKept.refl s).onCommand (fun _ => by simp [unitOwes])).stepKept.trans
      (failedReturn_stepKept (by exact staged) ..)
  · split
    · simp only [headerReturned]
      (repeat' split)
      · exact finishImage_stepKept staged _
      · exact (stage_debt staged ..).stepKept
      · exact endStaging_stepKept staged ..
    · simp only [restReturned]
      split
      · exact finishImage_stepKept staged _
      · exact (stage_debt staged ..).stepKept

/-! ## SOFT RESET (R82, R161) -/

/-- The blocks as SOFT RESET leaves them owe nothing but a review pin's answer, and no report is given. -/
theorem softResetWork_quiet_debt : othersOwe (softResetWork s) ≤ othersOwe s ∧
    (softResetWork s).command.cycle = s.command.cycle ∧ (softResetWork s).command.inHand = s.command.inHand ∧
    (softResetWork s).report = s.report := by
  have answers (l : List LensMessage) : l.filter (fun m => m.completes && m == .trackingAnswer) = [] := by
    rw [List.filter_eq_nil_iff]
    intro m _
    by_cases hm : m = .trackingAnswer <;> simp [hm, LensMessage.completes]
  by_cases h : s.lens.segment = none
  · rw [softResetWork_eq, softResetLens_rests (s := blocksReset s) h]
    simp [othersOwe, openRequests, captureOwes, unitOwes, lensRests, blocksReset, softResetCapture, answers]
    omega
  · rw [softResetWork_eq, softResetLens_flies (s := blocksReset s) h]
    simp [othersOwe, openRequests, captureOwes, unitOwes, lensFlies, blocksReset, softResetCapture, answers]
    omega

/-- SOFT RESET waits in EXECUTING, and alone owes its completion. -/
theorem softReset_stepKept {s t : State} {tag : BitVec 16} (ht : runCommand codeSoftReset tag softResetWork s = .next t) :
    StepKept s t := by
  obtain ⟨arrives, rfl⟩ | ⟨-, rfl⟩ := runCommand_cases ht
  · obtain ⟨owes, cycle, inHand, report⟩ := softResetWork_quiet_debt (executing codeSoftReset tag s)
    have settled := DebtKept.settle s (softResetWork (executing codeSoftReset tag s))
    have inReset : resetInHand (settle s (softResetWork (executing codeSoftReset tag s))).command = true := by
      rw [settled.resetInHand, resetInHand, cycle, inHand]; rfl
    refine ⟨fun h => settled.report.order (by rw [report]; exact h), fun hr => settled.stepKept.reserved ?_,
      fun _ _ => drainsUnderSoftReset_iff.mpr fun _ => inReset⟩
    obtain ⟨-, idle, room⟩ := hr
    have nothing := idle (by rw [arrives.1]; decide)
    rw [owed_eq] at nothing
    rw [arrives.1, if_neg (by decide)] at room
    have same : othersOwe (executing codeSoftReset tag s) = othersOwe s := rfl
    refine ⟨?_, fun hc => absurd cycle hc, ?_⟩
    · rw [owed_eq]
      have one := Bool.toNat_le (resetInHand (softResetWork (executing codeSoftReset tag s)).command)
      omega
    · rw [report]
      split <;> exact Nat.le_trans (Nat.add_le_add_left (by decide) _) room
  · exact .refl t

theorem giveHeldEvents_debt : DebtKept s (giveHeldEvents s) := by
  have each (l : List LensEvent) (u : State) : DebtKept u (l.foldl (fun s e => giveReport (.lensEvent e) s) u) := by
    induction l generalizing u with
    | nil => exact .refl u
    | cons e l ih => exact (giveReport_debt u rfl).trans (ih _)
  exact ((DebtKept.refl s).onLens (fun _ => by simp)).trans (each ..)

theorem Report.completion_kinds {rep : Report} (h : rep.isCompletion = true) : rep.general = false ∧ rep.isLost = false ∧
    rep.isExposure = false ∧ ∀ c, rep.isFault c = false := by
  cases rep <;> simp_all [Report.isCompletion, Report.general, Report.isLost, Report.isExposure, Report.isFault]

/-- Only the completions wait after a resynchronisation, and the mark is clear (R170). -/
theorem orderKept_resync (r : ReportUnit) : OrderKept r (resyncReports r) := by
  have gone (p : Report → Bool) (h : ∀ x, x.isCompletion = true → p x = false) :
      (r.waiting.filter Report.isCompletion).filter p = [] := by
    rw [List.filter_eq_nil_iff]
    intro x hx
    rw [List.mem_filter] at hx
    simp [h x hx.2]
  refine ⟨fun _ => ?_, ?_⟩
  · have none_lost : (resyncReports r).lostMark = false := by simp only [resyncReports, evalAttention, clearLost]
    have waiting : (resyncReports r).waiting = r.waiting.filter Report.isCompletion := by
      simp only [resyncReports, evalAttention]
    rw [waitingConsistent_iff, waiting, none_lost, gone _ fun _ h => (Report.completion_kinds h).1,
      gone _ fun _ h => (Report.completion_kinds h).2.1, gone _ fun _ h => (Report.completion_kinds h).2.2.1]
    exact ⟨by decide, rfl, by decide, fun c => by
      rw [gone _ fun _ h => (Report.completion_kinds h).2.2.2 c]; decide⟩
  · have waiting : (resyncReports r).waiting = r.waiting.filter Report.isCompletion := by
      simp only [resyncReports, evalAttention]
    rw [waitingCompletions, waiting, List.filter_filter, waitingCompletions]
    simp

/-- The rings are resynchronised and the completion of SOFT RESET is given. -/
theorem resynchronise_stepKept {s : State} (due : resetDue s = true) : StepKept s (resynchronise s) := by
  obtain ⟨executes, ⟨tag, hand⟩, drains⟩ := resetDue_iff.mp due
  have order := orderKept_resync s.report
  have idle : (resynchronise s).command.cycle = .idle := rfl
  have given : (resynchronise s).report.waiting = (resyncReports s.report).waiting ++
      [.commandDone codeSoftReset tag s.command.head .done 0] := by
    simp only [resynchronise, completeDone, complete, giveCompletion, State.onCommand, hand]; rfl
  have mark : (resynchronise s).report.lostMark = (resyncReports s.report).lostMark := rfl
  have lens : (resynchronise s).lens = s.lens := rfl
  refine ⟨fun h => waitingConsistent_behind given mark rfl (fun hg => by cases hg) (order.order h), fun hr => ?_,
    fun _ _ => fun ht => ?_⟩
  · obtain ⟨one, -, room⟩ := hr
    have inReset : resetInHand s.command = true := by rw [resetInHand, executes, hand]; rfl
    rw [owed_eq, inReset, Bool.toNat_true] at one
    rw [executes, if_neg (by decide)] at room
    have none_owed : owed (resynchronise s) = 0 := by
      have same : othersOwe (resynchronise s) = othersOwe s := rfl
      have out : resetInHand (resynchronise s).command = false := rfl
      rw [owed_eq, out, same, Bool.toNat_false]
      omega
    refine ⟨by omega, fun _ => none_owed, ?_⟩
    have fewer := order.completions
    have more : waitingCompletions (resynchronise s).report = waitingCompletions (resyncReports s.report) + 1 := by
      simp only [waitingCompletions, given, List.filter_append, List.length_append]; rfl
    rw [more, if_pos idle]
    omega
  · rw [lens, drains] at ht
    cases ht

/-! ## The link (R142 to R148) -/

theorem handField_debt (a : Nat) (f : BlockField) : DebtKept s (handField a s f) := by
  cases f with
  | tail t =>
    simp only [handField, takeTail]
    (repeat' split)
    · exact .refl s
    · simp [debtKept_iff, unitOwes]
    · exact raiseFault_debt ..
  | toggle v =>
    simp only [handField, handToggle]
    split
    · exact .refl s
    · simp [debtKept_iff, captureOwes]
  | head h =>
    simp only [handField, takeHead]
    (repeat' split)
    · exact .refl s
    · refine (DebtKept.refl s).onReport (.trans ?_ (orderKept_evalAttention _))
      exact .trans (.of_same (by with_reducible rfl) (by with_reducible rfl)) (orderKept_evalHighWater _)
    · exact raiseFault_debt ..
  | mask m =>
    refine (DebtKept.refl s).onReport (f := fun r => evalAttention { r with mask := m }) (.trans ?_ (orderKept_evalAttention _))
    exact .of_same (by with_reducible rfl) (by with_reducible rfl)

/-- What a fold's steps keep, the fold keeps. -/
theorem foldl_stepKept {α : Type} {f : State → α → State} (h : ∀ u x, StepKept u (f u x)) (l : List α) :
    StepKept s (l.foldl f s) := by
  induction l generalizing s with
  | nil => exact .refl s
  | cons x l ih => exact (h s x).trans (ih _)

theorem plainWrite_stepKept (p : Piece) : StepKept s (plainWrite p s) :=
  (foldl_stepKept s (fun u f => (handField_debt u _ f).stepKept) _).trans (sendDown_debt ..).stepKept
theorem capturePieceWrite_debt (now : Nat) (p : Piece) : DebtKept s (capturePieceWrite now p s) := by
  simp only [capturePieceWrite]
  split
  · exact captureWrite_debt ..
  · exact raiseFault_debt ..
theorem capturePieceRead_debt (tag : Nat) (p : Piece) : DebtKept s (capturePieceRead tag p s) := by
  simp only [capturePieceRead]
  split
  · simp [debtKept_iff]
  · exact raiseFault_debt ..
theorem viewRead_stepKept (tag off : Nat) (p : Piece) : StepKept s (viewRead tag off p s) := by
  have reads (u : State) (place n : Nat) : DebtKept u (readInPass tag place off n u) := by simp [debtKept_iff]
  have handled (u : State) (place n : Nat) :
      StepKept u (readInPass tag place off n (noteStatus u (passForRead p.addr off u))) :=
    ((passForRead_stepKept ..).trans (noteStatus_debt ..).stepKept).trans (reads ..).stepKept
  simp only [viewRead]
  (repeat' split)
  · exact (raiseFault_debt ..).stepKept
  · exact (raiseFault_debt ..).stepKept
  · exact (raiseFault_debt ..).stepKept.trans (handled ..)
  · exact handled ..
theorem writePiece_stepKept (now : Nat) (p : Piece) : StepKept s (writePiece now s p) := by
  simp only [writePiece]
  split
  · exact plainWrite_stepKept ..
  · exact (capturePieceWrite_debt ..).stepKept
  · refine DebtKept.stepKept ?_
    simp only [viewPieceWrite]
    split <;> exact raiseFault_debt ..
theorem readPiece_stepKept (tag : Nat) (p : Piece) : StepKept s (readPiece tag s p) := by
  simp only [readPiece]
  split
  · exact DebtKept.stepKept (by simp [debtKept_iff])
  · exact (capturePieceRead_debt ..).stepKept
  · simp only [viewPieceRead]
    split
    · exact viewRead_stepKept ..
    · exact (raiseFault_debt ..).stepKept
theorem deliverTag_debt (tag : Nat) : DebtKept s (deliverTag tag s) := by simp [debtKept_iff]
theorem takeRequest_stepKept (now : Nat) (r : HostRequest) : StepKept s (takeRequest now r s) := by
  cases r with
  | read tag a n =>
    exact (((DebtKept.refl s).onLink _).onLink _).stepKept.trans
      ((foldl_stepKept _ (fun u p => readPiece_stepKept u _ p) _).trans (deliverTag_debt ..).stepKept)
  | write a d =>
    exact ((DebtKept.refl s).onLink _).stepKept.trans (foldl_stepKept _ (fun u p => writePiece_stepKept u now p) _)
theorem grantOwn_debt : DebtKept s (grantOwn s) := by
  simp only [grantOwn]
  (repeat' split)
  · exact ((DebtKept.refl s).onLink _).onLink _
  · exact (DebtKept.refl s).onLink _
  · exact (((DebtKept.refl s).onLink _).onLink _).onReport (orderKept_writeForwarded ..)
  · exact .refl s

end Sys2Proof.Machine
end

section
/-!
Every command keeps the waiting order and the places of the completions (O53).
-/
namespace Sys2Proof.Machine
variable {s t : State}

/-! ## The rows of the link and of the Command Unit -/

theorem takeHeadIf_stepKept {kind : State → HostRequest → Bool} {now : Nat} (ht : takeHeadIf kind now s = .next t) :
    StepKept s t := by
  obtain ⟨r, -, -, rfl⟩ | rfl := takeHeadIf_cases ht
  · exact (takeRequest_stepKept ..).trans (DebtKept.settle ..).stepKept
  · exact .refl t

/-- A fetch is issued only while the command unit is IDLE and a place is free for the command's completion (R152). -/
theorem commandFetch_stepKept (ht : execCommandFetch s = .next t) : StepKept s t := by
  simp only [execCommandFetch] at ht
  split at ht
  next due =>
    refine finish_stepKept ?_ ht
    simp only [fetchDue, Bool.and_eq_true, beq_iff_eq] at due
    obtain ⟨⟨idle, -⟩, places⟩ := due
    have free : waitingCompletions s.report < 4 := of_decide_eq_true places
    refine ⟨fun h => h, fun hr => ?_, fun _ hd hl => ?_⟩
    · have nothing := hr.executing (by rw [idle]; decide)
      have same : owed (s.onCommand (fun c => { c with cycle := .fetching, waitingReads := c.waitingReads ++ [recordFetch s] }))
          ≤ owed s := by
        simp only [owed, State.onCommand]
        exact Nat.add_le_add_left (Nat.zero_le _) _
      exact ⟨by omega, fun _ => by omega, free⟩
    · have executes := (hd hl).1
      rw [idle] at executes
      cases executes
  next => exact notDue_stepKept ht

theorem powerOnReset_stepKept (strap : BitVec 3) (pending : List Instr) :
    StepKept s { State.resetWith strap with pending := pending } :=
  ⟨fun _ => waitingConsistent_reset,
    fun _ => .of_debt (s := State.resetWith strap) (Nat.le_refl _) rfl (Nat.le_refl _) (completionsReserved_reset strap),
    fun _ _ h => by cases h⟩

/-! ## Every command -/

/-- Every command keeps the waiting order and the places of the completions. -/
theorem exec_stepKept {c : Instr} (ht : exec c s = .next t) : StepKept s t := by
  cases c with
  | powerOnReset strap => cases ht; exact powerOnReset_stepKept ..
  -- the link and the writes that leave the part
  | captureApertureWrite | captureApertureRead | viewApertureRead | viewWrite | plainRequest | commandTail | triggerToggle
  | reportHead | attentionMask =>
    simp only [exec, execCaptureApertureWrite, execCaptureApertureRead, execViewApertureRead, execViewWrite,
      execPlainRequest, execCommandTail, execTriggerToggle, execReportHead, execAttentionMask] at ht
    exact takeHeadIf_stepKept ht
  | hostRequest =>
    simp only [exec, execHostRequest] at ht; split at ht
    · exact finish_stepKept ((DebtKept.refl s).onLink _).stepKept ht
    · exact notDue_stepKept ht
  | downstreamGrant =>
    simp only [exec, execDownstreamGrant] at ht
    (repeat' split at ht)
    · exact finish_stepKept ((DebtKept.refl s).onLink _).stepKept ht
    · exact finish_stepKept (grantOwn_debt s).stepKept ht
    · exact finish_stepKept ((DebtKept.refl s).onLink _).stepKept ht
    · exact finish_stepKept (grantOwn_debt s).stepKept ht
    · exact notDue_stepKept ht
  | downstreamReadResponse =>
    simp only [exec, execDownstreamReadResponse] at ht; split at ht
    · exact finish_stepKept (((DebtKept.refl s).onLink _).trans (deliverTag_debt ..)).stepKept ht
    · exact notDue_stepKept ht
  | viewStale =>
    simp only [exec, execViewStale] at ht; split at ht
    · exact finish_stepKept ((closePass_debt s).trans (raiseFault_debt ..)).stepKept ht
    · exact notDue_stepKept ht
  | slotImageWrite =>
    simp only [exec, execSlotImageWrite] at ht; split at ht
    · exact finish_stepKept (DebtKept.stepKept (by simp [debtKept_iff])) ht
    · exact notDue_stepKept ht
  | statusBlockWrite =>
    simp only [exec, execStatusBlockWrite] at ht; split at ht
    · exact finish_stepKept (DebtKept.stepKept (by simp [debtKept_iff, OrderKept.of_same])) ht
    · exact notDue_stepKept ht
  | reportWrite =>
    simp only [exec, execReportWrite] at ht; split at ht
    next taken => exact finish_stepKept (writeReport_debt s taken).stepKept ht
    next => exact notDue_stepKept ht
  | commandFetch => exact commandFetch_stepKept ht
  -- the slots, the captures and the steadying
  | holdRequest => exact finishIf_map_stepKept (fun r => DebtKept.stepKept (by simp [debtKept_iff])) ht
  | unholdRequest => exact finishIf_map_stepKept (fun r => DebtKept.stepKept (by simp [debtKept_iff])) ht
  | keepRequest => exact finishIf_map_stepKept (fun r => DebtKept.stepKept (by simp [debtKept_iff])) ht
  | releaseRequest => exact finishIf_map_stepKept (fun r => DebtKept.stepKept (by simp [debtKept_iff])) ht
  | pinRequest | unpinRequest =>
    simp only [exec, execPinRequest, execUnpinRequest] at ht; split at ht
    · exact finish_stepKept ((popPin_debt s).stepKept.trans (takePinMessage_stepKept ..)) ht
    · exact notDue_stepKept ht
  | captureCompletion =>
    simp only [exec, execCaptureCompletion] at ht; split at ht
    · exact finish_stepKept ((popCapture_debt s).trans (captureCompletion_debt ..)).stepKept ht
    · exact notDue_stepKept ht
  | captureTrigger =>
    simp only [exec, execCaptureTrigger] at ht; split at ht
    · exact finish_stepKept ((popCapture_debt s).stepKept.trans (captureToggle_stepKept ..)) ht
    · exact notDue_stepKept ht
  | captureSlotAnswer => exact finishIf_stepKept (fun _ => takeAnswer_stepKept s) ht
  | steadyCompletionWork =>
    refine finishIf_stepKept (fun u hu => DebtKept.stepKept ?_) ht
    simp only [takeSteadyWork] at hu
    (repeat' split at hu) <;> cases hu <;> simp [debtKept_iff]
  | statisticsCompletionWork => exact finishIf_map_stepKept (fun m => DebtKept.stepKept (by simp [debtKept_iff])) ht
  | exposureCompletionWork => exact finishIf_stepKept (fun _ h => (takeExposureWork_debt h).stepKept) ht
  -- the notices the blocks take
  | takeReference | dropReference | zoomStart | zoomEnd | zoomMoveEnd | zoomStepLoss | lensStateChange | setFromPosition
  | setFraction =>
    simp only [exec, execTakeReference, execDropReference, execZoomStart, execZoomEnd, execZoomMoveEnd, execZoomStepLoss,
      execLensStateChange, execSetFromPosition, execSetFraction, finish, notDue] at ht
    (repeat' split at ht) <;> cases ht <;>
      exact DebtKept.stepKept (by simp [debtKept_iff, unitOwes, OrderKept.of_same])
  | zoomPositionHandover =>
    simp only [exec, execZoomPositionHandover] at ht; split at ht
    · exact finish_stepKept (handover_debt ..).stepKept ht
    · exact notDue_stepKept ht
  | trackingAnswer =>
    simp only [exec, execTrackingAnswer] at ht; split at ht
    next rest head =>
      have popped : DebtKept s (s.onLens (fun l => { l with fromZoom := rest })) := by
        simp [debtKept_iff, openRequests, head, LensMessage.completes]
      split at ht
      · exact finish_stepKept ((popped.onLens (fun _ => by simp)).trans (grant_debt _)).stepKept ht
      · exact finish_stepKept popped.stepKept ht
    next => exact notDue_stepKept ht
  | lensSegmentDone => exact finishIf_map_stepKept (fun g => (segmentDone_debt ..).stepKept) ht
  | noHome =>
    simp only [exec, execNoHome] at ht; split at ht
    · exact finishIf_map_stepKept (fun g => (segmentDone_debt ..).stepKept) ht
    · exact notDue_stepKept ht
  | faultAnswer | segmentTimeout =>
    refine finishIf_map_stepKept (fun g => DebtKept.stepKept ?_) ht
    exact (noteFocusEnd_debt ..).trans (failLens_debt ..)
  | focusCompletionWork =>
    simp only [exec, execFocusCompletionWork] at ht; split at ht
    · exact finish_stepKept (((DebtKept.refl s).onFocus _).trans (focusWork_debt ..)).stepKept ht
    · exact notDue_stepKept ht
  | focusFrameLimit =>
    simp only [exec, execFocusFrameLimit] at ht; (repeat' split at ht)
    · exact finish_stepKept (((DebtKept.refl s).onFocus _).trans (countFrame_debt ..)).stepKept ht
    · exact notDue_stepKept ht
    · exact notDue_stepKept ht
  | exposureAlarm =>
    simp only [exec, execExposureAlarm] at ht; split at ht
    · exact finish_stepKept (((DebtKept.refl s).onFocus _).trans (alarmWork_debt ..)).stepKept ht
    · exact notDue_stepKept ht
  | sceneChanged =>
    simp only [exec, execSceneChanged] at ht; split at ht
    · exact finish_stepKept (((DebtKept.refl s).onFocus _).trans (sceneWork_debt ..)).stepKept ht
    · exact notDue_stepKept ht
  | focusMoveEnd =>
    simp only [exec, execFocusMoveEnd] at ht; split at ht
    · exact finish_stepKept (((DebtKept.refl s).onFocus _).trans (focusMoveEndWork_debt ..)).stepKept ht
    · exact notDue_stepKept ht
  | focusStepLoss =>
    simp only [exec, execFocusStepLoss] at ht; split at ht
    · refine finish_stepKept (((DebtKept.refl s).onFocus (fun f => { f with fromLens := f.fromLens.tail })).trans ?_).stepKept ht
      split
      · exact abandonSearch_debt ..
      · exact .refl _
    · exact notDue_stepKept ht
  | lensFault =>
    simp only [exec, execLensFault] at ht; split at ht
    · exact finish_stepKept (((DebtKept.refl s).onFocus _).trans (lensFaultWork_debt _)).stepKept ht
    · exact notDue_stepKept ht
  | zoomStarted =>
    simp only [exec, execZoomStarted] at ht; split at ht
    · exact finish_stepKept (((DebtKept.refl s).onFocus _).trans (zoomStartedWork_debt _)).stepKept ht
    · exact notDue_stepKept ht
  | zoomStopped =>
    simp only [exec, execZoomStopped] at ht; split at ht
    · exact finish_stepKept (((DebtKept.refl s).onFocus _).trans (zoomStoppedWork_debt _)).stepKept ht
    · exact notDue_stepKept ht
  | targetRequest =>
    simp only [exec, execTargetRequest] at ht; split at ht
    next head => exact finish_stepKept (targetRequest_stepKept s head) ht
    next => exact notDue_stepKept ht
  | stopRequest =>
    simp only [exec, execStopRequest] at ht; split at ht
    next head => exact finish_stepKept (stopRequest_stepKept s head) ht
    next => exact notDue_stepKept ht
  | tableFetchReturn =>
    simp only [exec, execTableFetchReturn] at ht; split at ht
    next staged =>
      refine finish_stepKept ?_ ht
      refine .trans ?_ (tableReturned_stepKept ?_ ..)
      · exact DebtKept.stepKept (by simp [debtKept_iff])
      · exact Option.isSome_of_eq_some staged
    next => exact notDue_stepKept ht
  | softResetComplete =>
    simp only [exec, execSoftResetComplete] at ht; split at ht
    next due =>
      have kept := resynchronise_stepKept due
      generalize resynchronise s = u at kept ht
      exact finish_stepKept (kept.trans ((giveHeldEvents_debt u).trans (evalBufferHigh_debt _)).stepKept) ht
    next => exact notDue_stepKept ht
  -- the host commands
  | unknownCommand code =>
    simp only [exec, execUnknownCommand] at ht; split at ht
    · exact notDue_stepKept ht
    next unknown =>
      refine runCommand_stepKept (fun u => complete_answers _ _ u) (fun same => unknown ?_) ht
      rw [same]; decide
  | memoryError => exact runCommand_stepKept (work := complete .memoryError 0) (fun u => complete_answers _ _ u) (by decide) ht
  | setMetering => exact runCommand_stepKept (fun u => setMeteringWork_answers u ..) (by decide) ht
  | setExposureMode => exact runCommand_stepKept (fun u => setExposureModeWork_answers u _) (by decide) ht
  | setCompensation => exact runCommand_stepKept (fun u => setCompensationWork_answers u _) (by decide) ht
  | setManualExposure => exact runCommand_stepKept (fun u => setManualExposureWork_answers u ..) (by decide) ht
  | setStatistics => exact runCommand_stepKept (fun u => setStatisticsWork_answers u _) (by decide) ht
  | homeLens => exact runCommand_stepKept homeLensWork_answers (by decide) ht
  | parkLens => exact runCommand_stepKept parkLensWork_answers (by decide) ht
  | setLensDrive => exact runCommand_stepKept (fun u => setLensDriveWork_answers u ..) (by decide) ht
  | zoomTo => exact runCommand_stepKept (fun u => zoomToWork_answers u _) (by decide) ht
  | zoomStop => exact runCommand_stepKept zoomStopWork_answers (by decide) ht
  | setSteady => exact runCommand_stepKept (fun u => setSteadyWork_answers u ..) (by decide) ht
  | recenterSteady => exact runCommand_stepKept recenterSteadyWork_answers (by decide) ht
  | setViewSource => exact runCommand_stepKept (fun u => setViewSourceWork_answers u _) (by decide) ht
  | armCapture => exact runCommand_stepKept (fun u => takeCommand_answers u _) (by decide) ht
  | stopCapture => exact runCommand_stepKept (fun u => takeCommand_answers u _) (by decide) ht
  | releaseSlot => exact runCommand_stepKept (fun u => takeCommand_answers u _) (by decide) ht
  | configureFrame => exact runCommand_stepKept (fun u => configureFrameWork_answers u _) (by decide) ht
  | loadTable => exact runCommand_stepKept (fun u => loadTableWork_answers u ..) (by decide) ht
  | setFocusMode => exact runCommand_stepKept (fun u => setFocusModeWork_answers u ..) (by decide) ht
  | setFocusWindows => exact runCommand_stepKept (fun u => setFocusWindowsWork_answers u _) (by decide) ht
  | startFocus => exact runCommand_stepKept startFocusWork_answers (by decide) ht
  | cancelFocus => exact runCommand_stepKept cancelFocusWork_answers (by decide) ht
  | moveFocus => exact runCommand_stepKept (fun u => moveFocusWork_answers u _) (by decide) ht
  | setModeView => exact runCommand_stepKept (fun u => setModeWork_answers u _) (by decide) ht
  | setModeStandby => exact runCommand_stepKept setModeStandbyWork_answers (by decide) ht
  | softReset => exact softReset_stepKept ht

/-- Settles O53: an idle step keeps everything, and every command keeps the order, the places and the rule of the drain. -/
theorem stepKeepsTheWaitingOrder : Obligations.StepKeepsTheWaitingOrder := by
  intro s t ht
  have kept : StepKept s t := by
    unfold step at ht
    split at ht
    next c rest _ =>
      have popped : DebtKept s { s with pending := rest } := by simp [debtKept_iff]
      exact popped.stepKept.trans (exec_stepKept ht)
    next => cases ht; exact .refl _
  exact ⟨kept.order, kept.reserved, kept.drains⟩

end Sys2Proof.Machine
end

section
/-!
The derived values, the Zoom Controller's notices, the subject fraction and the tracking answer (O50;
R71 to R73, R85, R90 to R94).
-/
namespace Sys2Proof.Machine

/-! ## The derived values (R85) -/

/-- A quotient of differences of naturals, as the spec writes it with integers (R85). -/
theorem interpolate_eq {v w a b z : Nat} (low : a ≤ z) (order : a ≤ b) : interpolate v w (z - a) (b - a) =
    ((v : Int) + Int.tdiv (((w : Int) - v) * ((z : Int) - a)) ((b : Int) - a)).toNat := by
  rw [interpolate, Int.ofNat_sub low, Int.ofNat_sub order]

/-- The stop count is the largest whose last stop stays at level 320 or less, and at least 1 (R85). -/
theorem limitStops_spec (al st c : Nat) : 1 ≤ limitStops al st c ∧ limitStops al st c ≤ max 1 c ∧
    (limitStops al st c = 1 ∨ al + (limitStops al st c - 1) * st ≤ 320) ∧
    ∀ k, limitStops al st c < k → k ≤ c → 320 < al + (k - 1) * st := by
  induction c with
  | zero => exact ⟨Nat.le_refl _, Nat.le_refl _, .inl rfl, fun k above below => by simp [limitStops] at above; omega⟩
  | succ c ih =>
    obtain ⟨positive, most, level, more⟩ := ih
    simp only [limitStops]
    split
    next fits =>
      refine ⟨by omega, by omega, ?_, fun k above below => by omega⟩
      rcases fits with zero | fits
      · exact .inl (by omega)
      · exact .inr fits
    next cut =>
      obtain ⟨some, high⟩ := not_or.mp cut
      refine ⟨positive, by omega, level, fun k above below => ?_⟩
      rcases Nat.lt_or_eq_of_le below with less | rfl
      · exact more k above (by omega)
      · exact Nat.lt_of_not_le high

/-- The derived values lie between the last node at or below the zoom position and the node after it (R85). -/
theorem derive_between {z : Nat} {a b : CamNode} (low : a.zoom ≤ z) (high : z < b.zoom) (post : List CamNode) :
    ∀ pre, (pre ++ a :: b :: post).Pairwise (fun x y => x.zoom < y.zoom) →
      derive z (pre ++ a :: b :: post) = some (derivedBetween a b z)
  | [], _ => if_pos high
  | [x], sorted => by
    have skips : ¬ z < a.zoom := by omega
    exact (if_neg skips).trans (derive_between low high post [] sorted.tail)
  | x :: y :: pre, sorted => by
    have below : y.zoom < a.zoom := by
      have := List.rel_of_pairwise_cons (List.Pairwise.tail sorted) (a' := a)
      exact this (by simp)
    have skips : ¬ z < y.zoom := by omega
    exact (if_neg skips).trans (derive_between low high post (y :: pre) sorted.tail)

/-- From the last node on the derived values are that node's (R85). -/
theorem derive_last {z : Nat} {a : CamNode} (low : a.zoom ≤ z) :
    ∀ pre, (pre ++ [a]).Pairwise (fun x y => x.zoom < y.zoom) → derive z (pre ++ [a]) = some (derivedAtNode a)
  | [], _ => rfl
  | [x], sorted => by
    have skips : ¬ z < a.zoom := by omega
    exact (if_neg skips).trans (derive_last low [] sorted.tail)
  | x :: y :: pre, sorted => by
    have below : y.zoom < a.zoom := by
      have := List.rel_of_pairwise_cons (List.Pairwise.tail sorted) (a' := a)
      exact this (by simp)
    have skips : ¬ z < y.zoom := by omega
    exact (if_neg skips).trans (derive_last low (y :: pre) sorted.tail)

/-- Each value between two nodes is interpolated (R85). -/
theorem derivedBetween_fields {a b : CamNode} {z : Nat} (low : a.zoom ≤ z) (order : a.zoom ≤ b.zoom) :
    let d := derivedBetween a b z
    let f := fun (g : CamNode → Nat) =>
      ((g a : Int) + Int.tdiv (((g b : Int) - g a) * ((z : Int) - a.zoom)) ((b.zoom : Int) - a.zoom)).toNat
    (d.focal, d.alOpen, d.stepAl, d.pInf, d.coarse) = (f (·.focal), f (·.alOpen), f (·.stepAl), f (·.pInf), f (·.coarse)) ∧
    d.pNear = (if f (·.pNear) ≤ f (·.pInf) then f (·.pInf) + 1 else f (·.pNear)) ∧
    1 ≤ d.stops ∧ d.stops ≤ max 1 a.stops ∧ (d.stops = 1 ∨ d.alOpen + (d.stops - 1) * d.stepAl ≤ 320) ∧
    ∀ c, d.stops < c → c ≤ a.stops → 320 < d.alOpen + (c - 1) * d.stepAl := by
  simp only [derivedBetween, interpolate_eq low order]
  exact ⟨trivial, trivial, limitStops_spec ..⟩

/-- At a node nothing is interpolated, so the zoom position does not matter (R85). -/
theorem derivedBetween_self (a : CamNode) (z : Nat) : derivedBetween a a z = derivedAtNode a := by
  have flat (v dz : Nat) : interpolate v v dz 0 = interpolate v v 0 0 := by simp [interpolate]
  simp only [derivedAtNode, derivedBetween, Nat.sub_self, flat _ (z - a.zoom)]

theorem fractionOf_eq (d : Derived) (p : Nat) :
    fractionOf d p = (max 0 (min (((p : Int) - d.pInf) * 1024 / ((d.pNear : Int) - d.pInf)) 1024)).toNat := by
  rw [fractionOf, clampInt_eq (by omega), min_comm]

/-! ## The notices of the Lens Drive (R90, R92, R93) -/

section
variable {s : State} {rest : List ZoomNotice}

theorem popZoomNotice_eq {n : ZoomNotice} (head : s.zoom.fromLens = n :: rest) :
    popZoomNotice s = { s with zoom := { s.zoom with fromLens := rest } } := by
  simp only [popZoomNotice, State.onZoom, head, List.tail_cons]

/-- The zoom end with the Zoom Controller in state `y` (R90). -/
theorem endZoom_eq (s : State) (y : ZoomController) : endZoom { s with zoom := y } = if y.moving then
      { s with zoom := { y with moving := false }, focus := { s.focus with fromZoom := s.focus.fromZoom ++ [.stopped] } }
    else { s with zoom := y } := rfl

theorem zoomPositionHandover_notDue (other : ∀ p rest, s.zoom.fromLens ≠ .handover p :: rest) :
    exec .zoomPositionHandover s = .next s := by
  simp only [exec, execZoomPositionHandover]
  rfl
theorem zoomPositionHandover_takes {p : Nat} (head : s.zoom.fromLens = .handover p :: rest) :
    exec .zoomPositionHandover s = .next (settle s (handover p s)) := by
  simp only [exec, execZoomPositionHandover, head, finish]

/-- The Zoom Controller as a hand-over of position `p` is taken (R92). -/
def handedOver (p : Nat) (rest : List ZoomNotice) (z : ZoomController) : ZoomController :=
  { z with fromLens := rest, derived := derive p z.cam }

theorem handover_silent {p : Nat} (head : s.zoom.fromLens = .handover p :: rest) (silent : 0 < s.zoom.silent) :
    handover p s = { s with zoom := { handedOver p rest s.zoom with silent := s.zoom.silent - 1 },
                            lens := { s.lens with fromZoom := s.lens.fromZoom ++ [.trackingAnswer] } } := by
  have counts : ¬ s.zoom.silent = 0 := by omega
  simp only [handover, popZoomNotice_eq head, State.onZoom, ZoomController.reform, if_neg counts]
  rfl

/-- A hand-over is answered, after a tracking target when one is due (R92). -/
theorem handover_tracks {p : Nat} {m : List LensMessage} (head : s.zoom.fromLens = .handover p :: rest)
    (loud : s.zoom.silent = 0)
    (sent : sendTracking { s with zoom := handedOver p rest s.zoom } =
      { s with zoom := handedOver p rest s.zoom, lens := { s.lens with fromZoom := s.lens.fromZoom ++ m } }) :
    handover p s = { s with zoom := handedOver p rest s.zoom,
                            lens := { s.lens with fromZoom := s.lens.fromZoom ++ m ++ [.trackingAnswer] } } := by
  have formed : (popZoomNotice s).onZoom (fun c => c.reform p) = { s with zoom := handedOver p rest s.zoom } := by
    rw [popZoomNotice_eq head]; rfl
  have quiet : (handedOver p rest s.zoom).silent = 0 := loud
  simp only [handover, formed, if_pos quiet, sent]
  rfl

theorem sendTracking_none (absent : s.zoom.derived = none) : sendTracking s = s := by simp only [sendTracking, absent]

/-- The tracking target goes out when it is not where focus is heading (R92). -/
theorem sendTracking_some {d : Derived} (formed : s.zoom.derived = some d) : sendTracking s =
    if positionAt d s.zoom.u = focusGoal s.lens then s
    else zoomAsksLens (.target .focus (positionAt d s.zoom.u) .plain) s := by
  simp only [sendTracking, formed]

theorem zoomStart_notDue (other : ∀ rest, s.zoom.fromLens ≠ .start :: rest) : exec .zoomStart s = .next s := by
  simp only [exec, execZoomStart]
  rfl
theorem zoomStart_takes (head : s.zoom.fromLens = .start :: rest) :
    exec .zoomStart s = .next (settle s (zoomStartWork { s with zoom := { s.zoom with fromLens := rest } })) := by
  simp only [exec, execZoomStart, ← popZoomNotice_eq head, head, finish]
theorem zoomStartWork_keeps (h : s.zoom.fresh = true ∨ s.zoom.derived = none) : zoomStartWork s =
    { s with zoom := { s.zoom with fresh := false, moving := true },
             focus := { s.focus with fromZoom := s.focus.fromZoom ++ [.started] } } := by
  rcases h with h | h <;> cases hf : s.zoom.fresh <;> simp_all [zoomStartWork, zoomTellsFocus, State.onZoom]
theorem zoomStartWork_fixes {d : Derived} (stale : s.zoom.fresh = false) (formed : s.zoom.derived = some d) :
    zoomStartWork s = { s with
      zoom := { s.zoom with u := fractionOf d s.lens.focus.position, fresh := false, moving := true },
      focus := { s.focus with fromZoom := s.focus.fromZoom ++ [.started] } } := by
  simp only [zoomStartWork, stale, formed]
  rw [← formed]
  rfl

theorem zoomEnd_notDue (other : ∀ rest, s.zoom.fromLens ≠ .finish :: rest) : exec .zoomEnd s = .next s := by
  simp only [exec, execZoomEnd]
  rfl
theorem zoomEnd_takes (head : s.zoom.fromLens = .finish :: rest) :
    exec .zoomEnd s = .next (settle s (endZoom { s with zoom := { s.zoom with fromLens := rest } })) := by
  simp only [exec, execZoomEnd, ← popZoomNotice_eq head, head, finish]

theorem zoomMoveEnd_notDue (other : ∀ m reached p rest, s.zoom.fromLens ≠ .moveEnd m reached p :: rest) :
    exec .zoomMoveEnd s = .next s := by
  simp only [exec, execZoomMoveEnd]
  rfl
theorem zoomMoveEnd_takes {m : Motor} {reached : Bool} {p : Nat} (head : s.zoom.fromLens = .moveEnd m reached p :: rest) :
    exec .zoomMoveEnd s =
      .next (settle s (zoomMoveEndWork m reached { s with zoom := { s.zoom with fromLens := rest } })) := by
  simp only [exec, execZoomMoveEnd, ← popZoomNotice_eq head, head, finish]
/-- Only the end of a zoom move that was dropped is acted on (R93). -/
theorem zoomMoveEndWork_other {m : Motor} {reached : Bool} (h : ¬ (m = .zoom ∧ reached = false)) :
    zoomMoveEndWork m reached s = s := by
  match m, reached with
  | .zoom, false => exact absurd ⟨rfl, rfl⟩ h
  | .zoom, true | .focus, _ | .iris, _ => rfl

theorem zoomStepLoss_notDue (other : ∀ m rest, s.zoom.fromLens ≠ .stepLoss m :: rest) :
    exec .zoomStepLoss s = .next s := by
  simp only [exec, execZoomStepLoss]
  split
  next head => exact absurd head (other _ _)
  next head => exact absurd head (other _ _)
  next => rfl
theorem zoomStepLoss_takes {m : Motor} (head : s.zoom.fromLens = .stepLoss m :: rest) :
    exec .zoomStepLoss s = .next (settle s { s with zoom := { s.zoom with
      fromLens := rest, derived := if m = .zoom then derive s.lens.zoom.position s.zoom.cam else s.zoom.derived } }) := by
  cases m <;> simp only [exec, execZoomStepLoss, popZoomNotice_eq head] <;> rw [head] <;> rfl

theorem lensStateChange_notDue (other : ∀ m rest, s.zoom.fromLens ≠ .lensState m :: rest) :
    exec .lensStateChange s = .next s := by
  simp only [exec, execLensStateChange]
  rfl
theorem lensStateChange_takes {m : LensMode} (head : s.zoom.fromLens = .lensState m :: rest) :
    exec .lensStateChange s = .next (settle s (zoomLensState m { s with zoom := { s.zoom with fromLens := rest } })) := by
  simp only [exec, execLensStateChange, ← popZoomNotice_eq head, head, finish]
theorem zoomLensState_other {m : LensMode} (notFault : m ≠ .fault) (notReady : m ≠ .ready) : zoomLensState m s = s := by
  cases m with
  | fault => exact absurd rfl notFault
  | ready => exact absurd rfl notReady
  | _ => rfl

end

/-! ## The subject fraction and the tracking answer (R73, R91) -/

section
variable {s : State}

theorem setFromPosition_notDue (other : ∀ p rest, s.zoom.fromFocus ≠ .position p :: rest) :
    exec .setFromPosition s = .next s := by
  simp only [exec, execSetFromPosition]
  rfl
theorem setFraction_notDue (other : ∀ v rest, s.zoom.fromFocus ≠ .fraction v :: rest) : exec .setFraction s = .next s := by
  simp only [exec, execSetFraction]
  rfl

theorem popFraction_eq {n : FractionMessage} {rest : List FractionMessage} (head : s.zoom.fromFocus = n :: rest) :
    popFraction s = { s with zoom := { s.zoom with fromFocus := rest } } := by
  simp only [popFraction, State.onZoom, head, List.tail_cons]
theorem setSubject_ignored (empty : s.zoom.cam = []) (u : Nat) : setSubject u s = s := by simp [setSubject, empty]
theorem setSubject_set (table : s.zoom.cam ≠ []) (u : Nat) :
    setSubject u s = { s with zoom := { s.zoom with u := u, fresh := true } } := by
  simp [setSubject, table, State.onZoom]

theorem setFromPosition_takes {p : Nat} {rest : List FractionMessage} (head : s.zoom.fromFocus = .position p :: rest) :
    exec .setFromPosition s = .next (settle s (setSubject ((s.zoom.derived.map (fun d => fractionOf d p)).getD s.zoom.u)
      { s with zoom := { s.zoom with fromFocus := rest } })) := by
  simp only [exec, execSetFromPosition, ← popFraction_eq head, head, finish]
theorem setFraction_takes {v : Nat} {rest : List FractionMessage} (head : s.zoom.fromFocus = .fraction v :: rest) :
    exec .setFraction s = .next (settle s (setSubject (min v 1024) { s with zoom := { s.zoom with fromFocus := rest } })) := by
  simp only [exec, execSetFraction, ← popFraction_eq head, head, finish]

theorem trackingAnswer_notDue (other : ∀ rest, s.lens.fromZoom ≠ .trackingAnswer :: rest) :
    exec .trackingAnswer s = .next s := by
  simp only [exec, execTrackingAnswer]
  rfl
theorem trackingAnswer_unawaited {rest : List LensMessage} (head : s.lens.fromZoom = .trackingAnswer :: rest)
    (h : s.lens.awaiting = false ∨ s.lens.mode ≠ .ready) :
    exec .trackingAnswer s = .next (settle s { s with lens := { s.lens with fromZoom := rest } }) := by
  have idle : ¬ (s.lens.awaiting && lensReady s) = true := by
    rcases h with h | h <;> simp [h, lensReady]
  simp only [exec, execTrackingAnswer, head, if_neg idle, finish]
  rfl
/-- The grant decision that waited for the answer runs (R71, R73). -/
theorem trackingAnswer_grants {rest : List LensMessage} (head : s.lens.fromZoom = .trackingAnswer :: rest)
    (awaited : s.lens.awaiting = true) (ready : s.lens.mode = .ready) : exec .trackingAnswer s =
      .next (settle s (grant { s with lens := { s.lens with fromZoom := rest, awaiting := false } })) := by
  have due : (s.lens.awaiting && lensReady s) = true := by simp [awaited, ready, lensReady]
  simp only [exec, execTrackingAnswer, head, if_pos due, finish]
  rfl

end

/-- Settles O50: the derived values by the place of the zoom position in the table, and each row by the kind of the oldest
notice or request. -/
theorem zoomActsOnItsNoticesAndRequests : Obligations.ZoomActsOnItsNoticesAndRequests := by
  refine ⟨fun l z => ⟨fun empty => ?_,
      fun sorted => ⟨fun pre a b post split low high => ?_, fun pre a split low => ?_⟩⟩,
    fun s => ⟨zoomPositionHandover_notDue,
      fun p rest head => ⟨fun silent => ?_, fun loud empty => ?_, fun d loud formed => ?_⟩,
      zoomStart_notDue, fun rest head => ⟨fun keeps => ?_, fun d stale formed _ => ?_⟩,
      zoomEnd_notDue, fun rest head => ?_,
      zoomMoveEnd_notDue, fun m reached p rest head => ⟨fun ⟨hm, hr⟩ => ?_, fun other => ?_⟩,
      zoomStepLoss_notDue, fun m rest head => zoomStepLoss_takes head,
      lensStateChange_notDue, fun m rest head => ⟨fun hm => ?_, fun hm => ?_, fun notFault notReady => ?_⟩⟩,
    fun s => ⟨setFromPosition_notDue, fun p rest head => ⟨fun empty => ?_, fun d table formed _ => ?_⟩,
      setFraction_notDue, fun v rest head => ⟨fun empty => ?_, fun table => ?_⟩,
      trackingAnswer_notDue, fun rest head => ⟨trackingAnswer_unawaited head, fun awaited ready => ?_,
        fun awaited ready current apart sequential => ?_⟩⟩⟩
  · rw [empty]; rfl
  · subst split
    exact ⟨_, derive_between low high post pre sorted, derivedBetween_fields low (by omega)⟩
  · subst split
    exact ⟨_, derivedBetween_self a z ▸ derive_last low pre sorted, derivedBetween_fields low (Nat.le_refl _)⟩
  · rw [zoomPositionHandover_takes head, handover_silent head silent]; rfl
  · have absent : derive p s.zoom.cam = none := by rw [empty]; rfl
    rw [zoomPositionHandover_takes head, handover_tracks (m := []) head loud]
    · rfl
    · rw [sendTracking_none (by exact absent), List.append_nil]
  · have tracks := sendTracking_some (s := { s with zoom := handedOver p rest s.zoom }) (d := d) (by exact formed)
    refine ⟨fun at_goal => ?_, fun apart => ?_⟩
    · rw [zoomPositionHandover_takes head, handover_tracks (m := []) head loud]
      · rfl
      · rw [tracks, if_pos (by exact at_goal), List.append_nil]
    · rw [zoomPositionHandover_takes head, handover_tracks head loud]
      · rfl
      · rw [tracks, if_neg (by exact apart)]; rfl
  · rw [zoomStart_takes head, zoomStartWork_keeps (by exact keeps)]
  · rw [zoomStart_takes head, zoomStartWork_fixes (by exact stale) (by exact formed), fractionOf_eq]
  · rw [zoomEnd_takes head, endZoom_eq]
  · rw [zoomMoveEnd_takes head, hm, hr]; rfl
  · rw [zoomMoveEnd_takes head, zoomMoveEndWork_other other]
  · rw [lensStateChange_takes head, hm]; rfl
  · rw [lensStateChange_takes head, hm]; rfl
  · rw [lensStateChange_takes head, zoomLensState_other notFault notReady]
  · rw [setFromPosition_takes head, setSubject_ignored (by exact empty)]
  · have fraction : (s.zoom.derived.map (fun d => fractionOf d p)).getD s.zoom.u = fractionOf d p := by rw [formed]; rfl
    rw [setFromPosition_takes head, setSubject_set (by exact table), fraction, fractionOf_eq]
  · rw [setFraction_takes head, setSubject_ignored (by exact empty)]
  · rw [setFraction_takes head, setSubject_set (by exact table)]
  · exact ⟨_, trackingAnswer_grants head awaited ready, grant_made _⟩
  · have kept := (grant_made { s with lens := { s.lens with fromZoom := rest, awaiting := false } }).kept .zoom current apart
      (.inl sequential)
    rw [trackingAnswer_grants head awaited ready, kept]
    simp only [segmentSent, LensDrive.motor, LensDrive.setMotor, ready]
    rfl

end Sys2Proof.Machine
end

section
/-!
SUPPORT. How moves end and are dropped outside a SOFT RESET, with the notices to their owners (R70, R73, R77), and how the lens
parks (R77).
-/
namespace Sys2Proof.Machine

/-! ## The end of a move (R70, R73) -/

/-- A FOCUS move's end is told to its owner. -/
theorem endMove_focus (reached : Bool) (s : State) : endMove .focus reached s = { s with
    lens := { s.lens with focus := idled s.lens.focus },
    zoom := { s.zoom with fromLens := s.zoom.fromLens ++
      if s.lens.focus.owner = .focus then [] else [.moveEnd .focus reached s.lens.focus.position] },
    focus := { s.focus with fromLens := s.focus.fromLens ++
      if s.lens.focus.owner = .focus then [.moveEnd reached s.lens.focus.position] else [] } } := by
  rw [endMove, setMotorState_focus_idle]
  cases h : s.lens.focus.owner <;>
    simp [noticeEnd, LensDrive.motor, h, tellFocus, tellZoom, idled]

theorem endMove_zoom {s : State} (moves : s.lens.zoom.state ≠ .idle) (reached : Bool) : endMove .zoom reached s = { s with
    lens := { s.lens with zoom := idled s.lens.zoom },
    zoom := { s.zoom with fromLens := s.zoom.fromLens ++ [.moveEnd .zoom reached s.lens.zoom.position, .finish] } } := by
  rw [endMove, setMotorState_zoom_idle (by exact moves)]
  simp only [noticeEnd, tellZoom, LensDrive.motor, List.append_assoc, List.cons_append, List.nil_append]

theorem endMove_iris_reached (s : State) : endMove .iris true s = { s with
    lens := { s.lens with iris := idled s.lens.iris },
    exposure := { s.exposure with irisReached := some s.lens.iris.position } } := rfl
theorem endMove_iris_dropped (s : State) : endMove .iris false s =
    { s with lens := { s.lens with iris := idled s.lens.iris } } := rfl

/-! ## Moves dropped with their notices (R69, R73, R77) -/

/-- The motor, without its move when that is dropped. -/
def idledIf (drops : Bool) (r : MotorRecord) : MotorRecord := if drops then { r with state := .idle } else r

@[simp] theorem idledIf_frame (b : Bool) (r : MotorRecord) : (idledIf b r).position = r.position ∧
    (idledIf b r).owner = r.owner ∧ (idledIf b r).period = r.period := by cases b <;> exact ⟨rfl, rfl, rfl⟩

/-- The notices to the Zoom Controller as the moves of the motors `drops` are dropped, FOCUS's first. -/
def dropsTellZoom (drops : Motor → Bool) (l : LensDrive) : List ZoomNotice :=
  (if drops .focus && l.focus.owner != .focus then [ZoomNotice.moveEnd .focus false l.focus.position] else []) ++
  (if drops .zoom then [.moveEnd .zoom false l.zoom.position, .finish] else [])

/-- The notices to the Focus Controller as the moves of the motors `drops` are dropped. -/
def dropsTellFocus (drops : Motor → Bool) (l : LensDrive) : List FocusLensNotice :=
  if drops .focus && l.focus.owner == .focus then [.moveEnd false l.focus.position] else []

/-- The state in which the moves of the motors `drops` have been dropped. -/
def movesDropped (drops : Motor → Bool) (s : State) : State :=
  { s with
    lens := { s.lens with zoom := idledIf (drops .zoom) s.lens.zoom, focus := idledIf (drops .focus) s.lens.focus,
                          iris := idledIf (drops .iris) s.lens.iris },
    zoom := { s.zoom with fromLens := s.zoom.fromLens ++ dropsTellZoom drops s.lens },
    focus := { s.focus with fromLens := s.focus.fromLens ++ dropsTellFocus drops s.lens } }

/-- The move of motor `m` is dropped. -/
def dropIf (b : Bool) (m : Motor) (s : State) : State := if b then endMove m false s else s

/-- The drops of the three motors' moves, one after the other. -/
theorem dropIf_each {drops : Motor → Bool} {s : State} (moves : drops .zoom = true → s.lens.zoom.state ≠ .idle) :
    dropIf (drops .iris) .iris (dropIf (drops .zoom) .zoom (dropIf (drops .focus) .focus s)) = movesDropped drops s := by
  have focus : dropIf (drops .focus) .focus s = { s with
      lens := { s.lens with focus := idledIf (drops .focus) s.lens.focus },
      zoom := { s.zoom with fromLens := s.zoom.fromLens ++
        (if drops .focus && s.lens.focus.owner != .focus then [ZoomNotice.moveEnd .focus false s.lens.focus.position] else []) },
      focus := { s.focus with fromLens := s.focus.fromLens ++ dropsTellFocus drops s.lens } } := by
    cases h : drops .focus
    · simp [dropIf, idledIf, dropsTellFocus, h]
    · rw [dropIf, if_pos rfl, endMove_focus]
      by_cases own : s.lens.focus.owner = .focus <;> simp [idled, idledIf, dropsTellFocus, h, own]
  have zoom (u : State) (moves : drops .zoom = true → u.lens.zoom.state ≠ .idle) : dropIf (drops .zoom) .zoom u = { u with
      lens := { u.lens with zoom := idledIf (drops .zoom) u.lens.zoom },
      zoom := { u.zoom with fromLens := u.zoom.fromLens ++
        (if drops .zoom then [.moveEnd .zoom false u.lens.zoom.position, .finish] else []) } } := by
    cases h : drops .zoom
    · simp [dropIf, idledIf]
    · rw [dropIf, if_pos rfl, endMove_zoom (moves h)]
      rfl
  have iris (u : State) : dropIf (drops .iris) .iris u =
      { u with lens := { u.lens with iris := idledIf (drops .iris) u.lens.iris } } := by
    cases drops .iris <;> rfl
  rw [focus, zoom _ (by exact moves), iris]
  simp only [movesDropped, dropsTellZoom, List.append_assoc]

/-- The motors whose moves wait. -/
def waitingMotors (l : LensDrive) (m : Motor) : Bool := (l.motor m).state == .pending || (l.motor m).state == .preempted

/-- The motors that have a move. -/
def movingMotors (l : LensDrive) (m : Motor) : Bool := (l.motor m).state != .idle

section
variable {s : State} (hd : s.lens.draining = false)
include hd

theorem dropMove_noticed (m : Motor) : dropMove m s = dropIf ((s.lens.motor m).state != .idle) m s := by
  by_cases h : (s.lens.motor m).state = .idle <;> simp [dropMove, dropIf, h, hd]

theorem dropWaiting_noticed (m : Motor) : dropWaiting m s = dropIf (waitingMotors s.lens m) m s := by
  rw [dropWaiting, waitingMotors]
  split
  next h => rw [dropMove_noticed hd, h]; rfl
  next h => rw [dropMove_noticed hd, h]; rfl
  next notPending notPreempted => rw [dropIf, if_neg]; simpa using ⟨notPending, notPreempted⟩

end

/-- A drop leaves the drain and the motors that have none. -/
theorem dropIf_others (b : Bool) (m : Motor) (s : State) : (dropIf b m s).lens.draining = s.lens.draining ∧
    ∀ k, k ≠ m → (dropIf b m s).lens.motor k = s.lens.motor k := by
  rw [dropIf]
  split
  · rw [endMove_lens]
    exact ⟨by simp, fun k hk => LensDrive.motor_setMotor_ne _ _ hk⟩
  · exact ⟨rfl, fun _ _ => rfl⟩

theorem dropIf_draining {b : Bool} {m : Motor} {s : State} (hd : s.lens.draining = false) :
    (dropIf b m s).lens.draining = false := (dropIf_others b m s).1.trans hd

section
variable {s : State} (hd : s.lens.draining = false)
include hd

/-- The moves that wait are dropped, and the stack is emptied (R77). -/
theorem dropWaitingMoves_noticed : dropWaitingMoves s =
    (movesDropped (waitingMotors s.lens) s).onLens (fun l => { l with stack := [] }) := by
  have same (b : Bool) (u : State) {m k : Motor} (hk : k ≠ m) :
      waitingMotors (dropIf b m u).lens k = waitingMotors u.lens k := by
    rw [waitingMotors, (dropIf_others b m u).2 k hk, waitingMotors]
  rw [dropWaitingMoves, dropWaiting_noticed hd, dropWaiting_noticed (dropIf_draining hd),
    dropWaiting_noticed (dropIf_draining (dropIf_draining hd)), same _ _ (by decide), same _ _ (by decide),
    same _ _ (by decide), dropIf_each]
  intro waits idle
  rw [waitingMotors, LensDrive.motor, idle] at waits
  cases waits

/-- Every move is dropped (R69, R77). -/
theorem dropAllMoves_noticed : dropAllMoves s =
    (movesDropped (movingMotors s.lens) s).onLens (fun l => { l with current := none, stack := [] }) := by
  have same (b : Bool) (u : State) {m k : Motor} (hk : k ≠ m) : movingMotors (dropIf b m u).lens k = movingMotors u.lens k := by
    rw [movingMotors, (dropIf_others b m u).2 k hk, movingMotors]
  have drops {u : State} (h : u.lens.draining = false) (m : Motor) : dropMove m u = dropIf (movingMotors u.lens m) m u :=
    dropMove_noticed h m
  rw [dropAllMoves, drops hd, drops (dropIf_draining hd), drops (dropIf_draining (dropIf_draining hd)),
    same _ _ (by decide), same _ _ (by decide), same _ _ (by decide), dropIf_each]
  intro moves idle
  rw [movingMotors, LensDrive.motor, idle] at moves
  cases moves

end

/-! ## Parking (R77) -/

/-- A lens state but FAULT is told to both controllers (R67). -/
theorem changeLens_told {m : LensMode} (h : m ≠ .fault) (s : State) : changeLens m s = { s with
    lens := { s.lens with mode := m }, zoom := { s.zoom with fromLens := s.zoom.fromLens ++ [.lensState m] },
    focus := { s.focus with lensTold := m } } := by
  simp only [changeLens, tellFocusMode, if_neg h]
  rfl

/-- The segment by which parking goes on toward position 0 (R77). -/
def parkingSegment (m : Motor) (r : MotorRecord) : Segment :=
  { motor := m, up := false, steps := min 16 r.position, period := r.period,
    timeout := min 16 r.position * r.period + 5000, homing := false }

section
variable {s : State}

theorem parkNext_focus (apart : s.lens.focus.position ≠ 0) (parking : s.lens.mode = .parking) : parkNext s = { s with
    lens := { s.lens with focus := { s.lens.focus with moved := true },
                          segment := some (parkingSegment .focus s.lens.focus) } } := by
  rw [parkNext, if_pos apart]
  simp only [sendSegment, State.onLens, LensDrive.motor, LensDrive.setMotor, parking]
  rfl
theorem parkNext_zoom (focus : s.lens.focus.position = 0) (apart : s.lens.zoom.position ≠ 0)
    (parking : s.lens.mode = .parking) : parkNext s = { s with
      lens := { s.lens with zoom := { s.lens.zoom with moved := true },
                            segment := some (parkingSegment .zoom s.lens.zoom) } } := by
  rw [parkNext, if_neg (not_not.mpr focus), if_pos apart]
  simp only [sendSegment, State.onLens, LensDrive.motor, LensDrive.setMotor, parking]
  rfl
/-- At position 0 the lens is PARKED, with its event (R77). -/
theorem parkNext_parked (focus : s.lens.focus.position = 0) (zoom : s.lens.zoom.position = 0) (hd : s.lens.draining = false) :
    ∃ e : LensEvent, (e.event, e.after, e.zoom, e.focus, e.iris) = (.parked, .parked, 0, 0, s.lens.iris.position) ∧
      parkNext s = { s with
        lens := { s.lens with mode := .parked }, zoom := { s.zoom with fromLens := s.zoom.fromLens ++ [.lensState .parked] },
        focus := { s.focus with lensTold := .parked }, report := giveGeneral (.lensEvent e) s.report } := by
  refine ⟨positionsEvent .parked (changeLens .parked s), ?_, ?_⟩
  · simp only [changeLens_told (m := .parked) (by decide), positionsEvent, focus, zoom]
  · rw [parkNext, if_neg (not_not.mpr focus), if_neg (not_not.mpr zoom)]
    simp only [giveLensEvent, changeLens_told (m := .parked) (by decide), hd]
    rfl

/-- With a segment in flight, parking drops the moves that wait and lets the segment end (R77). -/
theorem startParking_flies (hd : s.lens.draining = false) (flies : s.lens.segment ≠ none) : startParking s =
    let u := movesDropped (waitingMotors s.lens) s
    { u with lens := { u.lens with mode := .parking, stack := [], awaiting := false },
             zoom := { u.zoom with fromLens := u.zoom.fromLens ++ [.lensState .parking] },
             focus := { u.focus with lensTold := .parking } } := by
  rw [startParking, dropWaitingMoves_noticed (by exact hd)]
  split
  next => rw [changeLens_told (by decide)]; rfl
  next rests => exact absurd rests flies

/-- Without one, every move is dropped and the first parking segment goes out (R77). -/
theorem startParking_rests (hd : s.lens.draining = false) (rests : s.lens.segment = none) : startParking s =
    let u := movesDropped (waitingMotors s.lens) s
    let v := movesDropped (movingMotors u.lens) u
    parkNext { v with
      lens := { v.lens with mode := .parking, stack := [], awaiting := false, current := none },
      zoom := { v.zoom with fromLens := v.zoom.fromLens ++ [.lensState .parking] },
      focus := { v.focus with lensTold := .parking } } := by
  rw [startParking, dropWaitingMoves_noticed (by exact hd)]
  split
  next flies => exact absurd (rests.symm.trans flies) nofun
  next => rw [dropAllMoves_noticed (by exact hd), changeLens_told (by decide)]; rfl

end

end Sys2Proof.Machine
end

section
/-!
HOME LENS, PARK LENS, ZOOM TO and ZOOM STOP by the lens state (O11; R67, R73, R75, R77, R88, R89).
-/
namespace Sys2Proof.Machine
variable {s : State}

/-! ## HOME LENS (R75) -/

theorem homeLensWork_homes (h : s.lens.mode = .unhomed ∨ s.lens.mode = .parked ∨ s.lens.mode = .fault) :
    homeLensWork s = completeDone { s with
      lens := { s.lens with
        mode := .homing, homing := some (.iris 0), iris := { s.lens.iris with moved := true },
        segment := some { motor := .iris, up := false, steps := 16, period := s.lens.iris.period,
                          timeout := 16 * s.lens.iris.period + 5000, homing := true } },
      zoom := { s.zoom with fromLens := s.zoom.fromLens ++ [.lensState .homing] },
      focus := { s.focus with lensTold := .homing } } := by
  rcases h with h | h | h <;> simp only [homeLensWork, h, changeLens_told (m := .homing) (by decide)] <;> rfl
theorem homeLensWork_refuses (h : ¬ (s.lens.mode = .unhomed ∨ s.lens.mode = .parked ∨ s.lens.mode = .fault)) :
    homeLensWork s = refuse .notReady s := by
  simp only [homeLensWork]
  split
  next hm => exact absurd (.inl hm) h
  next hm => exact absurd (.inr (.inl hm)) h
  next hm => exact absurd (.inr (.inr hm)) h
  next => rfl

/-! ## PARK LENS (R77) -/

theorem parkLensWork_refuses (h : s.command.mode = .view ∨ (s.lens.mode ≠ .ready ∧ s.lens.mode ≠ .parked)) :
    parkLensWork s = refuse .notReady s := by
  rw [parkLensWork]
  split
  · rfl
  next standby =>
    obtain ⟨notReady, notParked⟩ := h.resolve_left standby
    split
    next hm => exact absurd hm notReady
    next hm => exact absurd hm notParked
    next => rfl
theorem parkLensWork_parked (standby : s.command.mode = .standby) (parked : s.lens.mode = .parked) :
    parkLensWork s = completeDone s := by simp [parkLensWork, standby, parked]
theorem parkLensWork_ready (standby : s.command.mode = .standby) (ready : s.lens.mode = .ready) :
    parkLensWork s = completeDone (startParking s) := by simp [parkLensWork, standby, ready]

/-- The motors whose move runs. -/
def runningMotors (l : LensDrive) (m : Motor) : Bool := (l.motor m).state == .running

/-- Once the moves that wait are dropped, a motor that has one runs. -/
theorem movingMotors_waitingDropped (s : State) :
    movingMotors (movesDropped (waitingMotors s.lens) s).lens = runningMotors s.lens := by
  have moves (r : MotorRecord) :
      ((idledIf (r.state == .pending || r.state == .preempted) r).state != .idle) = (r.state == .running) := by
    cases h : r.state <;> simp [idledIf, h]
  funext m
  cases m <;> exact moves _

theorem idledIf_idledIf (a b : Bool) (r : MotorRecord) : idledIf b (idledIf a r) = idledIf (a || b) r := by
  cases a <;> cases b <;> rfl

/-- The lens as it parks from rest: every move is dropped. -/
def parkingLens (l : LensDrive) : LensDrive :=
  let drops := fun m => waitingMotors l m || runningMotors l m
  { l with mode := .parking, stack := [], awaiting := false, current := none,
           zoom := idledIf (drops .zoom) l.zoom, focus := idledIf (drops .focus) l.focus, iris := idledIf (drops .iris) l.iris }

/-- The state as the lens parks from rest: the owners of the moves that waited are told first, then that of the one that ran. -/
def parkingState (s : State) : State :=
  { s with
    lens := parkingLens s.lens,
    zoom := { s.zoom with
      fromLens := s.zoom.fromLens ++ dropsTellZoom (waitingMotors s.lens) s.lens ++
        dropsTellZoom (runningMotors s.lens) s.lens ++ [.lensState .parking] },
    focus := { s.focus with
      lensTold := .parking,
      fromLens := s.focus.fromLens ++ dropsTellFocus (waitingMotors s.lens) s.lens ++
        dropsTellFocus (runningMotors s.lens) s.lens } }

theorem parkingSegment_idledIf (m : Motor) (b : Bool) (r : MotorRecord) :
    parkingSegment m (idledIf b r) = parkingSegment m r := by simp [parkingSegment]

theorem startParking_parkNext (hd : s.lens.draining = false) (rests : s.lens.segment = none) :
    startParking s = parkNext (parkingState s) := by
  rw [startParking_rests hd rests]
  simp only [movingMotors_waitingDropped]
  simp only [movesDropped, parkingState, parkingLens, idledIf_idledIf, dropsTellZoom, dropsTellFocus, idledIf_frame,
    List.append_assoc]

/-! ## ZOOM TO and ZOOM STOP (R88, R89) -/

theorem zoomReady_iff : zoomReady s = true ↔ s.zoom.cam ≠ [] ∧ s.lens.mode = .ready := by
  simp [zoomReady, lensReady]

theorem zMax_of_getLast {l : List CamNode} {last : CamNode} (h : l.getLast? = some last) : zMax l = last.zoom := by
  simp only [zMax, h]

theorem zoomToWork_asks {last : CamNode} (ready : zoomReady s = true) (top : s.zoom.cam.getLast? = some last) (z : Nat) :
    zoomToWork z s = { s with
      zoom := { s.zoom with target := some (min z last.zoom) },
      lens := { s.lens with fromZoom := s.lens.fromZoom ++
        [.target .zoom (min z last.zoom) (.zoomTo s.zoom.target (decide (min z last.zoom ≠ z)))] } } := by
  rw [zoomToWork, if_pos ready, zMax_of_getLast top]
  rfl

/-- Settles O11: each command by the mode of the lens; PARK LENS in READY by the segment and the positions. -/
theorem lensAndZoomCommandsFollowTheLensState : Obligations.LensAndZoomCommandsFollowTheLensState := by
  refine ⟨⟨fun tag s arrives => ⟨fun homes => ?_, fun other => ?_⟩,
    fun tag s arrives => ⟨fun other => ?_, fun standby parked => ?_,
      fun standby ready hd => ⟨fun flies => ?_, fun rests => ?_⟩⟩⟩,
    fun tag z s arrives => ⟨fun other => ?_, fun ready => ⟨fun last top => ?_, ?_⟩⟩⟩
  · exact (runCommand_of_arrives codeHomeLens tag _ arrives).trans (by rw [homeLensWork_homes (by exact homes)]; rfl)
  · exact (runCommand_of_arrives codeHomeLens tag _ arrives).trans (by rw [homeLensWork_refuses (by exact other)]; rfl)
  · exact (runCommand_of_arrives codeParkLens tag _ arrives).trans (by rw [parkLensWork_refuses (by exact other)]; rfl)
  · exact (runCommand_of_arrives codeParkLens tag _ arrives).trans
      (by rw [parkLensWork_parked (by exact standby) (by exact parked)]; rfl)
  · refine (runCommand_of_arrives codeParkLens tag _ arrives).trans ?_
    rw [parkLensWork_ready (by exact standby) (by exact ready), startParking_flies (by exact hd) (by exact flies)]
    rfl
  · have runs : exec (.parkLens tag) s =
        .next (settle s (completeDone (parkNext (parkingState (executing codeParkLens tag s))))) := by
      refine (runCommand_of_arrives codeParkLens tag _ arrives).trans ?_
      rw [parkLensWork_ready (by exact standby) (by exact ready), startParking_parkNext (by exact hd) (by exact rests)]
    have positions : (parkingState (executing codeParkLens tag s)).lens.focus.position = s.lens.focus.position ∧
        (parkingState (executing codeParkLens tag s)).lens.zoom.position = s.lens.zoom.position ∧
        (parkingState (executing codeParkLens tag s)).lens.iris.position = s.lens.iris.position := by
      simp [parkingState, parkingLens]
    obtain ⟨focus, zoom, iris⟩ := positions
    have focusSegment : parkingSegment .focus (parkingState (executing codeParkLens tag s)).lens.focus =
        parkingSegment .focus s.lens.focus := parkingSegment_idledIf ..
    have zoomSegment : parkingSegment .zoom (parkingState (executing codeParkLens tag s)).lens.zoom =
        parkingSegment .zoom s.lens.zoom := parkingSegment_idledIf ..
    refine ⟨fun above => ?_, fun zero above => ?_, fun zeroFocus zeroZoom => ?_⟩
    · rw [runs, parkNext_focus (by rw [focus]; omega) rfl, focusSegment]
      rfl
    · rw [runs, parkNext_zoom (by rw [focus, zero]) (by rw [zoom]; omega) rfl, zoomSegment]
      rfl
    · obtain ⟨e, fields, parks⟩ := parkNext_parked (s := parkingState (executing codeParkLens tag s))
        (by rw [focus, zeroFocus])
        (by rw [zoom, zeroZoom]) hd
      rw [iris] at fields
      exact ⟨e, fields, by rw [runs, parks]; rfl⟩
  · have refuses : ¬ zoomReady s = true := fun h => other (zoomReady_iff.mp h)
    exact ⟨(runCommand_of_arrives codeZoomTo tag _ arrives).trans (by rw [zoomToWork, if_neg (by exact refuses)]; rfl),
      (runCommand_of_arrives codeZoomStop tag _ arrives).trans (by rw [zoomStopWork, if_neg (by exact refuses)]; rfl)⟩
  · refine (runCommand_of_arrives codeZoomTo tag _ arrives).trans ?_
    rw [zoomToWork_asks (by exact zoomReady_iff.mpr ready) (by exact top)]
    rfl
  · refine (runCommand_of_arrives codeZoomStop tag _ arrives).trans ?_
    rw [zoomStopWork, if_pos (by exact zoomReady_iff.mpr ready)]
    rfl

end Sys2Proof.Machine
end

section
/-!
Target and stop requests by the lens and motor state, and the requester's act on the answer (O48; R70 to R73, R87 to R89, R109).
-/
namespace Sys2Proof.Machine

/-! ## The requester's act on the answer (R87 to R89, R109) -/

/-- The completion of the command in hand of Command Unit `c`. -/
def answeredHand (c : CommandUnit) (st : Status) (v : Int) (u : State) : State :=
  match c.inHand with
  | some h => completedWith h st v u
  | none => u

theorem complete_answeredHand {c : CommandUnit} {u : State} (same : u.command = c) (hand : c.inHand ≠ none)
    (st : Status) (v : Int) :
    complete st v u = answeredHand c st v u := by
  cases h : c.inHand with
  | none => exact absurd h hand
  | some h' => rw [complete_of_inHand (by rw [same, h]), answeredHand, h]

/-- The requester's act on a refused target request. -/
def targetRefused (q : Requester) (c : CommandUnit) (w : RequestPurpose) (u : State) : State :=
  match w with
  | .zoomTo before _ => answeredHand c .notReady 0 { u with zoom := { u.zoom with target := before } }
  | .moveFocus .. => answeredHand c .notReady 0 { u with focus := { u.focus with moveMark := false } }
  | .camCommit => { u with zoom := { u.zoom with target := none } }
  | .plain => if q = .focus then { u with focus := { u.focus with moveMark := false } } else u
  | .zoomStop => u

/-- MOVE FOCUS's target has been taken: the fraction is set from the position, and a lock or failure is left (R109). -/
def focusMoved (c : Nat) (before : SearchState) (u : State) : State :=
  let v := { u with zoom := { u.zoom with fromFocus := u.zoom.fromFocus ++ [.position c] } }
  if before = .locked ∨ before = .monitor ∨ before = .failed then
    reportFocus before { cause := .moved }
      { v with
          focus := { v.focus with
            search := .idle, aeHold := false, samples := [], best := none, plan := [], moveMark := false,
            lockFigure := 0, baselinePending := false, baselineSet := 0, zoomPause := false, dropRun := 0 },
          exposure := { v.exposure with messages := v.exposure.messages ++ [.drop] } }
  else v

/-- The requester's act on a target request that was taken. -/
def targetTaken (c : CommandUnit) (before : SearchState) (w : RequestPurpose) (p : Nat) (u : State) : State :=
  match w with
  | .zoomTo _ clamped => answeredHand c (if clamped then .clamped else .done) (if clamped then (p : Int) else 0) u
  | .moveFocus f clamped =>
    answeredHand c (if clamped then .clamped else .done) (if clamped then (f : Int) else 0) (focusMoved f before u)
  | _ => u

theorem completes_clamped (clamped : Bool) (p : Nat) (u : State) : (if clamped then complete .clamped p u else completeDone u) =
    complete (if clamped then .clamped else .done) (if clamped then (p : Int) else 0) u := by cases clamped <;> rfl

theorem moveFocusTaken_eq (f : Nat) (clamped : Bool) (u : State) : moveFocusTaken f clamped u =
    complete (if clamped then .clamped else .done) (if clamped then (f : Int) else 0) (focusMoved f u.focus.search u) := by
  rw [moveFocusTaken, completes_clamped]
  congr 1
  cases h : u.focus.search <;> simp only [focusMoved, focusAsksZoom, h] <;> simp only [leaveLock, reduceCtorEq, or_false,
    or_true, if_true, if_false] <;> simp only [State.onFocus, FocusController.clearLock, h] <;> rfl

theorem focusMoved_command (f : Nat) (before : SearchState) (u : State) : (focusMoved f before u).command = u.command := by
  simp only [focusMoved]
  split <;> simp

section
variable {c : CommandUnit} {u : State} {m : Motor} {p : Nat} {w : RequestPurpose}

theorem targetAnswered_refused (same : u.command = c) (q : Requester)
    (owes : (LensMessage.target m p w).completes = false ∨ c.inHand ≠ none) :
    targetAnswered q p w false u = targetRefused q c w u := by
  cases w with
  | zoomTo => exact complete_answeredHand (u := u.onZoom _) same (owes.resolve_left (by simp [LensMessage.completes])) _ _
  | moveFocus => exact complete_answeredHand (u := u.onFocus _) same (owes.resolve_left (by simp [LensMessage.completes])) _ _
  | plain | zoomStop | camCommit => rfl

theorem targetAnswered_taken (same : u.command = c) (q : Requester)
    (owes : (LensMessage.target m p w).completes = false ∨ c.inHand ≠ none) :
    targetAnswered q p w true u = targetTaken c u.focus.search w p u := by
  cases w with
  | zoomTo =>
    exact (completes_clamped ..).trans
      (complete_answeredHand same (owes.resolve_left (by simp [LensMessage.completes])) _ _)
  | moveFocus =>
    exact (moveFocusTaken_eq ..).trans (complete_answeredHand ((focusMoved_command ..).trans same)
      (owes.resolve_left (by simp [LensMessage.completes])) _ _)
  | plain | zoomStop | camCommit => rfl

end

/-! ## The Lens Drive's act on a target (R70 to R72) -/

theorem popChannel_motor (q : Requester) (l : LensDrive) (m : Motor) : (popChannel q l).motor m = l.motor m := by
  cases q <;> cases m <;> rfl
@[simp] theorem popChannel_frame (q : Requester) (l : LensDrive) : (popChannel q l).mode = l.mode ∧
    (popChannel q l).segment = l.segment ∧ (popChannel q l).awaiting = l.awaiting ∧ (popChannel q l).stack = l.stack ∧
    (popChannel q l).current = l.current := by
  cases q <;> exact ⟨rfl, rfl, rfl, rfl, rfl⟩
theorem LensDrive.setMotor_setMotor (l : LensDrive) (m : Motor) (a b : MotorRecord) :
    (l.setMotor m a).setMotor m b = l.setMotor m b := by cases m <;> rfl

/-- The Zoom Controller is told when its motor leaves IDLE (R73). -/
def zoomBegins (m : Motor) (z : ZoomController) : ZoomController :=
  if m = .zoom then { z with fromLens := z.fromLens ++ [.start] } else z

theorem setMotorState_begins {m : Motor} {s : State} (idle : (s.lens.motor m).state = .idle) {st : MotorState}
    (moves : st ≠ .idle) :
    setMotorState m st s = { s with
      zoom := zoomBegins m s.zoom, lens := s.lens.setMotor m { s.lens.motor m with state := st } } := by
  cases m <;> simp only [setMotorState, zoomBegins, idle, reduceCtorEq, if_true, if_false]
  · simp only [ne_eq, moves, not_false_eq_true, and_self, if_true]; rfl
  · rfl
  · rfl

/-- A motor that goes from one state other than IDLE to another tells nobody. -/
theorem setMotorState_goesOn {m : Motor} {s : State} (moving : (s.lens.motor m).state ≠ .idle) {st : MotorState}
    (moves : st ≠ .idle) :
    setMotorState m st s = { s with lens := s.lens.setMotor m { s.lens.motor m with state := st } } := by
  cases m <;> simp only [setMotorState, reduceCtorEq, if_true, if_false]
  · simp only [moving, moves, false_and, and_false, if_false]; rfl
  · rfl
  · rfl

/-- REACHED is told to requester `q` of the move of motor `m`, which stands at `p` (R70). -/
def toldReached (q : Requester) (m : Motor) (p : Nat) (u : State) : State :=
  match m, q with
  | .iris, _ => { u with exposure := { u.exposure with irisReached := some p } }
  | .focus, .focus => { u with focus := { u.focus with fromLens := u.focus.fromLens ++ [.moveEnd true p] } }
  | _, _ => { u with zoom := { u.zoom with fromLens := u.zoom.fromLens ++ [.moveEnd m true p] } }

theorem noticeEnd_reached {q : Requester} {m : Motor} {p : Nat} {u : State} (owner : (u.lens.motor m).owner = q)
    (position : (u.lens.motor m).position = p) : noticeEnd m true u = toldReached q m p u := by
  subst owner position
  cases m with
  | zoom | iris => rfl
  | focus => cases h : u.lens.focus.owner <;> simp only [noticeEnd, toldReached, LensDrive.motor, h] <;> rfl

/-- The lens with requester `q`'s oldest request taken and motor `m`'s record changed. -/
def poppedWith (q : Requester) (m : Motor) (r : MotorRecord) (s : State) : State :=
  { s with lens := (popChannel q s.lens).setMotor m r }

section
variable {q : Requester} {m : Motor} {t : Nat} {s : State}

theorem setTarget_popped (owner : Requester) : setTarget m t owner { s with lens := popChannel q s.lens } =
    poppedWith q m { s.lens.motor m with target := t, owner := owner } s := by
  simp only [setTarget, State.onLens, popChannel_motor]
  rfl

theorem poppedWith_motor (r : MotorRecord) : (poppedWith q m r s).lens.motor m = r := LensDrive.motor_setMotor ..

theorem setStackTarget_popped (r : MotorRecord) : setStackTarget m t (poppedWith q m r s) = { s with
    lens := { (popChannel q s.lens).setMotor m r with
              stack := s.lens.stack.map (fun e => if e.motor = m then { e with target := t } else e) } } := by
  simp only [setStackTarget, State.onLens, poppedWith, LensDrive.setMotor_frame, popChannel_frame]

theorem takeTarget_moving (h : (s.lens.motor m).state = .pending ∨ (s.lens.motor m).state = .running) :
    takeTarget m t q { s with lens := popChannel q s.lens } =
      poppedWith q m { s.lens.motor m with target := t, owner := q } s := by
  rw [takeTarget]
  rcases h with h | h <;> simp only [popChannel_motor, h, setTarget_popped]

theorem takeTarget_preempted (h : (s.lens.motor m).state = .preempted) :
    takeTarget m t q { s with lens := popChannel q s.lens } = { s with
      lens := { (popChannel q s.lens).setMotor m { s.lens.motor m with target := t, owner := q } with
                stack := s.lens.stack.map (fun e => if e.motor = m then { e with target := t } else e) } } := by
  simp only [takeTarget, popChannel_motor, h, setTarget_popped, setStackTarget_popped]

theorem takeTarget_reached (idle : (s.lens.motor m).state = .idle) (there : t = (s.lens.motor m).position) :
    takeTarget m t q { s with lens := popChannel q s.lens } =
      toldReached q m t (poppedWith q m { s.lens.motor m with target := t, owner := q } s) := by
  simp only [takeTarget, popChannel_motor, idle, setTarget_popped, poppedWith_motor, if_pos there]
  exact noticeEnd_reached (by rw [poppedWith_motor]) (by rw [poppedWith_motor, there])

/-- The state in which an IDLE motor has become PENDING with its new target. -/
def pendingWith (q : Requester) (m : Motor) (t : Nat) (s : State) : State :=
  { poppedWith q m { s.lens.motor m with target := t, owner := q, state := .pending } s with zoom := zoomBegins m s.zoom }

theorem takeTarget_pending (idle : (s.lens.motor m).state = .idle) (apart : t ≠ (s.lens.motor m).position) :
    takeTarget m t q { s with lens := popChannel q s.lens } =
      if busFree (pendingWith q m t s).lens then grant (pendingWith q m t s) else pendingWith q m t s := by
  have begins : setMotorState m .pending (poppedWith q m { s.lens.motor m with target := t, owner := q } s) =
      pendingWith q m t s := by
    rw [setMotorState_begins (by rw [poppedWith_motor]; exact idle) (by decide), poppedWith_motor]
    simp only [poppedWith, LensDrive.setMotor_setMotor]
    rfl
  simp only [takeTarget, popChannel_motor, setTarget_popped, poppedWith_motor, begins, if_neg apart]
  simp only [idle]

theorem pendingWith_busFree : busFree (pendingWith q m t s).lens = (s.lens.segment.isNone && !s.lens.awaiting) := by
  simp [busFree, pendingWith, poppedWith]

theorem pendingWith_motor : (pendingWith q m t s).lens.motor m =
    { s.lens.motor m with target := t, owner := q, state := .pending } := poppedWith_motor _

end

/-- With one move waiting and no other, that move is chosen (R72). -/
theorem choiceMade_only {v u : State} {m : Motor} (made : ChoiceMade v u) (pending : (v.lens.motor m).state = .pending)
    (only : ∀ k, (v.lens.motor k).state = .pending → k = m) (stack : v.lens.stack = [])
    (apart : (v.lens.motor m).target ≠ (v.lens.motor m).position) : u = moveRuns m v := by
  cases made with
  | free _ none_pending => exact absurd pending (none_pending m)
  | granted _ k best => rw [only k best.1]
  | grantedEnds _ _ k best _ there => exact absurd (only k best.1 ▸ there) apart
  | resumed _ e rest top => rw [stack] at top; cases top
  | resumedEnds _ _ e rest top => rw [stack] at top; cases top

/-! ## The Lens Drive's act on a stop (R70) -/

section
variable {q : Requester} {m : Motor} {s : State}

theorem takeStop_pending (h : (s.lens.motor m).state = .pending) : takeStop m s = endMove m true s := by
  simp only [takeStop, h]
theorem takeStop_running (h : (s.lens.motor m).state = .running) :
    takeStop m { s with lens := popChannel q s.lens } =
      poppedWith q m { s.lens.motor m with target := restingPosition s.lens m } s := by
  have rests : restingPosition (popChannel q s.lens) m = restingPosition s.lens m := by
    simp only [restingPosition, popChannel_frame, popChannel_motor]
  simp only [takeStop, popChannel_motor, h, rests, setTarget_popped]
theorem takeStop_preempted (h : (s.lens.motor m).state = .preempted) :
    takeStop m { s with lens := popChannel q s.lens } = { s with
      lens := { (popChannel q s.lens).setMotor m { s.lens.motor m with target := (s.lens.motor m).position } with
                stack := s.lens.stack.map
                  (fun e => if e.motor = m then { e with target := (s.lens.motor m).position } else e) } } := by
  simp only [takeStop, popChannel_motor, h, setTarget_popped, setStackTarget_popped]
theorem takeStop_idle (h : (s.lens.motor m).state = .idle) : takeStop m s = s := by simp only [takeStop, h]

/-- Where the segment in flight leaves its motor (R70). -/
theorem restingPosition_of_flight {g : Segment} {l : LensDrive} (flies : l.segment = some g) (own : g.motor = m) :
    restingPosition l m = if g.up then (l.motor m).position + g.steps else (l.motor m).position - g.steps := by
  simp only [restingPosition, flies, own, if_true, movedPosition]
theorem restingPosition_of_rest {l : LensDrive} (other : ∀ g, l.segment = some g → g.motor ≠ m) :
    restingPosition l m = (l.motor m).position := by
  rw [restingPosition]
  split
  next g flies => rw [if_neg (other g flies)]
  next => rfl

/-- The requester's act on a stop request that was taken: ZOOM STOP completes, with the zoom target at `x` (R89). -/
def stopTaken (c : CommandUnit) (w : RequestPurpose) (u : State) (x : Option Nat) : State :=
  if w = .zoomStop then answeredHand c .done 0 { u with zoom := { u.zoom with target := x } } else u

theorem stopAnswered_taken {c : CommandUnit} {u : State} {w : RequestPurpose} {x y : Option Nat} (same : u.command = c)
    (owes : w = .plain ∨ (w = .zoomStop ∧ m = .zoom ∧ c.inHand ≠ none)) (target : m = .zoom → x = y) :
    stopAnswered w x true u = stopTaken c w u y := by
  rcases owes with rfl | ⟨rfl, zoom, hand⟩
  · rfl
  · rw [← target zoom]
    exact complete_answeredHand (u := u.onZoom _) same hand _ _

end

end Sys2Proof.Machine
end

section
/-!
TARGET_REQUEST and STOP_REQUEST (O48).
-/
namespace Sys2Proof.Machine
section
variable {q : Requester} {s : State} {m : Motor} {p : Nat} {w : RequestPurpose} {rest : List LensMessage}

theorem targetRequest_notDue (other : ∀ m p w rest, s.lens.channel q ≠ .target m p w :: rest) :
    exec (.targetRequest q) s = .next s := by
  simp only [exec, execTargetRequest]
  rfl
theorem stopRequest_notDue (other : ∀ m w rest, s.lens.channel q ≠ .stop m w :: rest) :
    exec (.stopRequest q) s = .next s := by
  simp only [exec, execStopRequest]
  rfl

/-- Outside READY a target is refused (R70). -/
theorem targetRequest_refused (head : s.lens.channel q = .target m p w :: rest)
    (owes : (LensMessage.target m p w).completes = false ∨ s.command.inHand ≠ none) (away : s.lens.mode ≠ .ready) :
    exec (.targetRequest q) s =
      .next (settle s (targetRefused q s.command w { s with lens := popChannel q s.lens })) := by
  have notReady : ¬ lensReady (s.onLens (popChannel q)) = true := by simpa [lensReady_iff] using away
  simp only [exec, execTargetRequest, head, finish, targetRequest, if_neg notReady]
  rw [targetAnswered_refused (u := s.onLens (popChannel q)) rfl q owes]
  rfl

/-- In READY the Lens Drive takes the target, and the requester the answer (R70). -/
theorem targetRequest_taken (head : s.lens.channel q = .target m p w :: rest)
    (owes : (LensMessage.target m p w).completes = false ∨ s.command.inHand ≠ none) (ready : s.lens.mode = .ready) :
    exec (.targetRequest q) s = .next (settle s (targetTaken s.command s.focus.search w p
      (takeTarget m (min p (motorTop m)) q { s with lens := popChannel q s.lens }))) := by
  have isReady : lensReady (s.onLens (popChannel q)) = true := by simpa [lensReady_iff] using ready
  have search : (takeTarget m (min p (motorTop m)) q (s.onLens (popChannel q))).focus.search = s.focus.search :=
    (takeTarget_sweep ..).1
  simp only [exec, execTargetRequest, head, finish, targetRequest, if_pos isReady]
  rw [targetAnswered_taken (c := s.command) (by simp) q owes, search]
  rfl

/-- Outside READY a stop is refused (R70). -/
theorem stopRequest_refused (head : s.lens.channel q = .stop m w :: rest)
    (owes : w = .plain ∨ (w = .zoomStop ∧ m = .zoom ∧ s.command.inHand ≠ none)) (away : s.lens.mode ≠ .ready) :
    exec (.stopRequest q) s = .next (settle s (if w = .zoomStop
      then answeredHand s.command .notReady 0 { s with lens := popChannel q s.lens }
      else { s with lens := popChannel q s.lens })) := by
  have notReady : ¬ lensReady (s.onLens (popChannel q)) = true := by simpa [lensReady_iff] using away
  simp only [exec, execStopRequest, head, finish, stopRequest, if_neg notReady]
  rcases owes with rfl | ⟨rfl, -, hand⟩
  · rfl
  · rw [if_pos rfl]
    exact congrArg (fun u => Host.Outcome.next (settle s u)) (complete_answeredHand (u := s.onLens (popChannel q)) rfl hand _ _)

/-- In READY the Lens Drive takes the stop, and ZOOM STOP the answer (R70, R89). -/
theorem stopRequest_taken (head : s.lens.channel q = .stop m w :: rest)
    (owes : w = .plain ∨ (w = .zoomStop ∧ m = .zoom ∧ s.command.inHand ≠ none)) (ready : s.lens.mode = .ready)
    {x : Option Nat} (target : m = .zoom → stoppedTarget s.lens s.zoom.target = x) :
    exec (.stopRequest q) s = .next (settle s (stopTaken s.command w
      (takeStop m { s with lens := popChannel q s.lens }) x)) := by
  have isReady : lensReady (s.onLens (popChannel q)) = true := by simpa [lensReady_iff] using ready
  have popped : stoppedTarget (s.onLens (popChannel q)).lens (s.onLens (popChannel q)).zoom.target =
      stoppedTarget s.lens s.zoom.target := by cases q <;> rfl
  simp only [exec, execStopRequest, head, finish, stopRequest, if_pos isReady]
  rw [stopAnswered_taken (c := s.command) (by simp) owes fun zoom => popped.trans (target zoom)]
  rfl

theorem stopTaken_plain {c : CommandUnit} {u : State} {x : Option Nat}
    (owes : w = .plain ∨ (w = .zoomStop ∧ m = .zoom ∧ c.inHand ≠ none)) (other : m ≠ .zoom) :
    stopTaken c w u x = u := by
  have plain : w = .plain := owes.resolve_right fun h => other h.2.1
  rw [stopTaken, plain]
  rfl

/-- Where ZOOM STOP leaves the zoom target: where the move ends, or as it was with no move (R89). -/
theorem stoppedTarget_idle {l : LensDrive} {x : Option Nat} (idle : (l.motor m).state = .idle) (zoom : m = .zoom) :
    stoppedTarget l x = x := by
  subst zoom
  rw [stoppedTarget, show l.zoom.state = .idle from idle]
theorem stoppedTarget_running {l : LensDrive} {x : Option Nat} (running : (l.motor m).state = .running) (zoom : m = .zoom) :
    stoppedTarget l x = some (restingPosition l m) := by
  subst zoom
  rw [stoppedTarget, show l.zoom.state = .running from running]
theorem stoppedTarget_waits {l : LensDrive} {x : Option Nat}
    (waits : (l.motor m).state = .pending ∨ (l.motor m).state = .preempted) (zoom : m = .zoom) :
    stoppedTarget l x = some (l.motor m).position := by
  subst zoom
  rcases waits with h | h <;> rw [stoppedTarget, show l.zoom.state = _ from h] <;> rfl

/-- An IDLE motor elsewhere has its move granted at once while the bus is free (R71, R72). -/
theorem targetRequest_granted (head : s.lens.channel q = .target m p w :: rest)
    (owes : (LensMessage.target m p w).completes = false ∨ s.command.inHand ≠ none) (ready : s.lens.mode = .ready)
    (idle : (s.lens.motor m).state = .idle) (apart : min p (motorTop m) ≠ (s.lens.motor m).position)
    (free : s.lens.segment = none) (answered : s.lens.awaiting = false) :
    exec (.targetRequest q) s = .next (settle s (targetTaken s.command s.focus.search w p
      (grant (pendingWith q m (min p (motorTop m)) s)))) := by
  have busFree : busFree (pendingWith q m (min p (motorTop m)) s).lens = true := by
    rw [pendingWith_busFree, free, answered]; rfl
  rw [targetRequest_taken head owes ready, takeTarget_pending idle apart, if_pos busFree]

theorem pendingWith_frame {t : Nat} : (pendingWith q m t s).lens.mode = s.lens.mode ∧
    (pendingWith q m t s).lens.stack = s.lens.stack ∧ (pendingWith q m t s).lens.current = s.lens.current := by
  simp [pendingWith, poppedWith]

theorem pendingWith_motor_other {k : Motor} (ne : k ≠ m) {t : Nat} :
    (pendingWith q m t s).lens.motor k = s.lens.motor k := by
  rw [← popChannel_motor q s.lens k]
  exact LensDrive.motor_setMotor_ne _ _ ne

/-- The move of the pending motor starts (R71): it is RUNNING with its first segment sent. -/
theorem pendingWith_runs {t : Nat} (ready : s.lens.mode = .ready) : moveRuns m (pendingWith q m t s) = { s with
    zoom := zoomBegins m s.zoom,
    lens := { (popChannel q s.lens).setMotor m
                { s.lens.motor m with target := t, owner := q, state := .running, moved := true } with
              current := some m,
              segment := some { motor := m, up := decide ((s.lens.motor m).position < t),
                                steps := min 16 (natDist t (s.lens.motor m).position), period := (s.lens.motor m).period,
                                timeout := min 16 (natDist t (s.lens.motor m).position) * (s.lens.motor m).period + 5000,
                                homing := false } } } := by
  have runs : setMotorState m .running (pendingWith q m t s) = { pendingWith q m t s with
      lens := (popChannel q s.lens).setMotor m { s.lens.motor m with target := t, owner := q, state := .running } } := by
    rw [setMotorState_goesOn (by rw [pendingWith_motor]; intro h; cases h) (by decide), pendingWith_motor]
    simp only [pendingWith, poppedWith, LensDrive.setMotor_setMotor]
  rw [moveRuns, runs]
  cases m <;> cases q <;> simp only [segmentSent, LensDrive.motor, LensDrive.setMotor, popChannel, ready] <;> rfl

end

/-- Settles O48: a target and a stop by the state of the motor, in READY and outside it. -/
theorem lensTakesTargetAndStopRequests : Obligations.LensTakesTargetAndStopRequests := by
  refine fun q s => ⟨targetRequest_notDue, stopRequest_notDue, fun m p w rest head owes =>
    ⟨targetRequest_refused head owes, fun ready moving => ?_, fun ready preempted => ?_, fun ready idle there => ?_,
      fun ready idle apart busy => ?_, fun ready idle apart free answered => ?_,
      fun ready idle apart free answered current stack none_pending => ?_⟩, fun m w rest head owes =>
    ⟨stopRequest_refused head owes, fun ready idle => ?_, fun ready pending focus own => ?_,
      fun ready pending focus other => ?_,
      fun ready pending iris => ?_, fun ready pending zoom => ?_, fun ready running other => ?_,
      fun g ready running flies own => ?_, fun ready preempted => ?_⟩⟩
  · rw [targetRequest_taken head owes ready, takeTarget_moving moving]; rfl
  · rw [targetRequest_taken head owes ready, takeTarget_preempted preempted]; rfl
  · rw [targetRequest_taken head owes ready, takeTarget_reached (t := min p (motorTop m)) idle (by exact there)]; rfl
  · have held : ¬ busFree (pendingWith q m (min p (motorTop m)) s).lens = true := by
      rw [pendingWith_busFree]
      rcases busy with flies | awaits
      · cases h : s.lens.segment <;> simp_all
      · simp [awaits]
    rw [targetRequest_taken head owes ready, takeTarget_pending (t := min p (motorTop m)) idle (by exact apart), if_neg held]
    rfl
  · refine ⟨_, ?_, grant_made (pendingWith q m (min p (motorTop m)) s)⟩
    rw [targetRequest_granted head owes ready idle (by exact apart) free answered]
    rfl
  · have only : ∀ k, ((pendingWith q m (min p (motorTop m)) s).lens.motor k).state = .pending → k = m := fun k pending =>
      Classical.byContradiction fun ne => none_pending k (by rwa [pendingWith_motor_other ne] at pending)
    have made := (grant_made (pendingWith q m (min p (motorTop m)) s)).free (by rw [pendingWith_frame.2.2, current])
    have runs := choiceMade_only made (by rw [pendingWith_motor]) only (by rw [pendingWith_frame.2.1, stack])
      (by rw [pendingWith_motor]; exact apart)
    rw [targetRequest_granted head owes ready idle (by exact apart) free answered, runs, pendingWith_runs ready]
    rfl
  · rw [stopRequest_taken head owes ready (stoppedTarget_idle idle),
      takeStop_idle (by rw [popChannel_motor]; exact idle)]
    rfl
  · subst focus
    rw [stopRequest_taken (x := none) head owes ready (by intro h; cases h), stopTaken_plain owes (by decide),
      takeStop_pending (by rw [popChannel_motor]; exact pending), endMove_focus]
    cases q <;> simp only [popChannel, show s.lens.focus.owner = .focus from own, if_true, List.append_nil] <;> rfl
  · subst focus
    rw [stopRequest_taken (x := none) head owes ready (by intro h; cases h), stopTaken_plain owes (by decide),
      takeStop_pending (by rw [popChannel_motor]; exact pending), endMove_focus]
    cases q <;> simp only [popChannel, show ¬ s.lens.focus.owner = .focus from other, if_false, List.append_nil] <;> rfl
  · subst iris
    rw [stopRequest_taken (x := none) head owes ready (by intro h; cases h), stopTaken_plain owes (by decide),
      takeStop_pending (by rw [popChannel_motor]; exact pending), endMove_iris_reached]
    cases q <;> rfl
  · subst zoom
    rw [stopRequest_taken head owes ready (stoppedTarget_waits (.inl pending)),
      takeStop_pending (by rw [popChannel_motor]; exact pending)]
    rw [endMove_zoom (by rw [show (popChannel q s.lens).zoom = s.lens.zoom from popChannel_motor q s.lens .zoom]
                         exact pending ▸ by decide)]
    cases q <;> rfl
  · rw [stopRequest_taken head owes ready (stoppedTarget_running running), takeStop_running running,
      restingPosition_of_rest other]
    rfl
  · rw [stopRequest_taken head owes ready (stoppedTarget_running running), takeStop_running running,
      restingPosition_of_flight flies own]
    rfl
  · rw [stopRequest_taken head owes ready (stoppedTarget_waits (.inr preempted)),
      takeStop_preempted preempted]
    rfl

end Sys2Proof.Machine
end

section
/-!
SUPPORT. How the Lens Drive takes the end of a segment: the position and its edge check, and the faults (R68, R69, R74).
-/
namespace Sys2Proof.Machine

/-! ## The end of a segment (R68, R74) -/

/-- The Lens Drive once segment `g` has ended and both sensor levels are taken. -/
def segmentEnded (g : Segment) (zb fb : Bool) (now : Nat) (l : LensDrive) : LensDrive :=
  { l with segment := none, zoomBlocked := zb, focusBlocked := fb,
           lastFocusEnd := if g.motor = .focus then some now else l.lastFocusEnd }

/-- The state once segment `g` has ended. -/
def endedOn (g : Segment) (zb fb : Bool) (now : Nat) (s : State) : State := { s with lens := segmentEnded g zb fb now s.lens }

theorem noteFocusEnd_eq (g : Segment) (now : Nat) (s : State) : noteFocusEnd g now s =
    { s with lens := { s.lens with lastFocusEnd := if g.motor = .focus then some now else s.lens.lastFocusEnd } } := by
  rw [noteFocusEnd]
  split <;> rfl

theorem segmentEnded_motor (g : Segment) (zb fb : Bool) (now : Nat) (l : LensDrive) (m : Motor) :
    (segmentEnded g zb fb now l).motor m = l.motor m := by cases m <;> rfl

/-- The position of the home edge as the edge check reads it (R66, R74). -/
def homeEdge (m : Motor) : Int := if m = .zoom then 64 else 1024

/-- How far segment `g`, with transition step `t`, is off the home edge from position `p` (R74). -/
def edgeOff (g : Segment) (t p : Nat) : Int :=
  if g.up then (p : Int) + t - homeEdge g.motor else (p : Int) - t - (homeEdge g.motor - 1)

/-- The edge check finds the motor more than 2 steps off (R74). -/
abbrev losesSteps (g : Segment) (t p : Nat) : Prop := g.motor ≠ .iris ∧ 0 < t ∧ 2 < (edgeOff g t p).natAbs

/-- The position that the edge found at transition step `t` shows (R74). -/
def edgePosition (g : Segment) (t : Nat) : Nat :=
  if g.up then (homeEdge g.motor).toNat + (g.steps - t) else (homeEdge g.motor).toNat - 1 - (g.steps - t)

theorem edgeDifference_of_sensor {g : Segment} (sensor : g.motor ≠ .iris) (t p : Nat) :
    edgeDifference g t p = edgeOff g t p := by
  cases h : g.motor with
  | iris => exact absurd h sensor
  | zoom | focus => simp only [edgeDifference, edgeOff, homeEdge, homeIndex, h]; rfl

theorem seekPosition_of_sensor {g : Segment} (sensor : g.motor ≠ .iris) (t : Nat) :
    seekPosition g.motor g.up (g.steps - t) = edgePosition g t := by
  cases h : g.motor with
  | iris => exact absurd h sensor
  | zoom | focus => simp only [seekPosition, edgePosition, homeEdge, homeIndex, h]; rfl

/-- Where segment `g`, with transition step `t`, leaves its motor from position `p` (R68, R74). -/
def endPosition (g : Segment) (t p : Nat) : Nat := if losesSteps g t p then edgePosition g t else movedPosition g p

/-- The event of the steps that segment `g` lost from position `p`. -/
def stepLossEvent (g : Segment) (t p : Nat) (mode : LensMode) : LensEvent :=
  { event := .stepLoss, motor := some g.motor, cause := none, before := none, after := mode, difference := edgeOff g t p,
    zoom := if g.motor = .zoom then edgePosition g t else 0, focus := if g.motor = .focus then edgePosition g t else 0,
    iris := 0 }

theorem stepLossEvent_position {g : Segment} (sensor : g.motor ≠ .iris) (t p : Nat) (mode : LensMode) :
    (if g.motor = .zoom then (stepLossEvent g t p mode).zoom else (stepLossEvent g t p mode).focus) = edgePosition g t := by
  cases h : g.motor with
  | iris => exact absurd h sensor
  | zoom | focus => simp [stepLossEvent, h]

theorem stepLossEvent_zoom {g : Segment} (zoom : g.motor = .zoom) (t p : Nat) (mode : LensMode) :
    ((stepLossEvent g t p mode).event, (stepLossEvent g t p mode).motor, (stepLossEvent g t p mode).difference,
      (stepLossEvent g t p mode).zoom) = (.stepLoss, some .zoom, edgeOff g t p, edgePosition g t) := by
  simp [stepLossEvent, zoom]
theorem stepLossEvent_focus {g : Segment} (other : g.motor ≠ .zoom) (sensor : g.motor ≠ .iris) (t p : Nat) (mode : LensMode) :
    ((stepLossEvent g t p mode).event, (stepLossEvent g t p mode).motor, (stepLossEvent g t p mode).difference,
      (stepLossEvent g t p mode).focus) = (.stepLoss, some g.motor, edgeOff g t p, edgePosition g t) := by
  rw [← stepLossEvent_position sensor t p mode, if_neg other]
  rfl

/-- The lens with motor `m` at position `p`. -/
def standsAt (m : Motor) (p : Nat) (l : LensDrive) : LensDrive := l.setMotor m { l.motor m with position := p }

section
variable {g : Segment} {t : Nat} {u : State}

theorem losesSteps_iff : losesSteps g t (u.lens.motor g.motor).position ↔
    g.motor ≠ .iris ∧ 0 < t ∧ 2 < (edgeDifference g t (u.lens.motor g.motor).position).natAbs := by
  refine and_congr_right fun sensor => ?_
  rw [edgeDifference_of_sensor sensor]

theorem segmentMoved_plain (kept : ¬ losesSteps g t (u.lens.motor g.motor).position) : segmentMoved g t u =
    { u with lens := standsAt g.motor (movedPosition g (u.lens.motor g.motor).position) u.lens } := by
  rw [losesSteps_iff] at kept
  rw [segmentMoved, if_neg kept]
  rfl

/-- Lost steps correct the position; both controllers are told, and the event is given. -/
theorem segmentMoved_lost (loses : losesSteps g t (u.lens.motor g.motor).position) : segmentMoved g t u =
    tellFocus (.stepLoss g.motor) (tellZoom (.stepLoss g.motor)
      (giveLensEvent (stepLossEvent g t (u.lens.motor g.motor).position u.lens.mode)
        { u with lens := standsAt g.motor (edgePosition g t) u.lens })) := by
  have sensor : g.motor ≠ .iris := loses.1
  rw [losesSteps_iff] at loses
  rw [segmentMoved, if_pos loses]
  simp only [edgeDifference_of_sensor sensor, seekPosition_of_sensor sensor]
  simp only [stepLossEvent, standsAt, setPosition, State.onLens]

theorem segmentMoved_lost_told (hd : u.lens.draining = false) (loses : losesSteps g t (u.lens.motor g.motor).position) :
    segmentMoved g t u = { u with
      lens := standsAt g.motor (edgePosition g t) u.lens,
      zoom := { u.zoom with fromLens := u.zoom.fromLens ++ [.stepLoss g.motor] },
      focus := { u.focus with fromLens := u.focus.fromLens ++ [.stepLoss g.motor] },
      report := giveGeneral (.lensEvent (stepLossEvent g t (u.lens.motor g.motor).position u.lens.mode)) u.report } := by
  simp only [segmentMoved_lost loses, giveLensEvent, standsAt, LensDrive.setMotor_frame, hd]
  rfl

/-- Under a SOFT RESET the event waits for the completion (R82). -/
theorem segmentMoved_lost_held (hd : u.lens.draining = true) (loses : losesSteps g t (u.lens.motor g.motor).position) :
    segmentMoved g t u = { u with
      lens := { standsAt g.motor (edgePosition g t) u.lens with
                heldEvents := u.lens.heldEvents ++ [stepLossEvent g t (u.lens.motor g.motor).position u.lens.mode] },
      zoom := { u.zoom with fromLens := u.zoom.fromLens ++ [.stepLoss g.motor] },
      focus := { u.focus with fromLens := u.focus.fromLens ++ [.stepLoss g.motor] } } := by
  simp only [segmentMoved_lost loses, giveLensEvent, standsAt, LensDrive.setMotor_frame, hd, if_true, State.onLens, tellFocus,
    tellZoom]

theorem segmentMoved_keeps (g : Segment) (t : Nat) (u : State) : (segmentMoved g t u).lens.draining = u.lens.draining ∧
    (segmentMoved g t u).lens.mode = u.lens.mode ∧ (segmentMoved g t u).lens.current = u.lens.current := by
  by_cases loses : losesSteps g t (u.lens.motor g.motor).position
  · cases hd : u.lens.draining
    · simp [segmentMoved_lost_told hd loses, standsAt, hd]
    · simp [segmentMoved_lost_held hd loses, standsAt, hd]
  · simp [segmentMoved_plain loses, standsAt]

end

/-! ## What a DONE leads to (R68) -/

section
variable {g : Segment} {t now : Nat} {zb fb : Bool} {s : State}

theorem exec_lensSegmentDone (flies : s.lens.segment = some g) :
    exec (.lensSegmentDone zb fb t now) s = .next (settle s (segmentDone g zb fb t now s)) := by
  simp only [exec, execLensSegmentDone, flies]
  rfl

theorem noteFocusEnd_ended : noteFocusEnd g now
    (s.onLens (fun l => { l with segment := none, zoomBlocked := zb, focusBlocked := fb })) = endedOn g zb fb now s :=
  noteFocusEnd_eq ..

theorem segmentDone_draining (drains : s.lens.draining = true) : segmentDone g zb fb t now s =
    drainDone g (if g.homing then endedOn g zb fb now s else segmentMoved g t (endedOn g zb fb now s)) := by
  have still : (if g.homing then endedOn g zb fb now s else segmentMoved g t (endedOn g zb fb now s)).lens.draining = true := by
    split
    · exact drains
    · exact (segmentMoved_keeps ..).1.trans drains
  simp only [segmentDone, noteFocusEnd_ended, if_pos still]

section
variable (hd : s.lens.draining = false)
include hd

theorem segmentDone_homing (mode : s.lens.mode = .homing) (homes : g.homing = true) :
    segmentDone g zb fb t now s = homingDone g t (endedOn g zb fb now s) := by
  have mode' : (endedOn g zb fb now s).lens.mode = .homing := mode
  have hd' : ¬ (endedOn g zb fb now s).lens.draining = true := by simpa [endedOn, segmentEnded] using hd
  simp only [segmentDone, noteFocusEnd_ended, if_pos homes, if_neg hd', mode']

section
variable (moves : g.homing = false)
include moves

theorem segmentDone_ready (mode : s.lens.mode = .ready) : segmentDone g zb fb t now s =
    if g.motor = .zoom then handOver (segmentMoved g t (endedOn g zb fb now s))
    else grant (segmentMoved g t (endedOn g zb fb now s)) := by
  have mode' := (segmentMoved_keeps g t (endedOn g zb fb now s)).2.1.trans mode
  have hd' := (segmentMoved_keeps g t (endedOn g zb fb now s)).1.trans hd
  simp only [segmentDone, noteFocusEnd_ended, moves, hd', mode', Bool.false_eq_true, if_false]

theorem segmentDone_parks (mode : s.lens.mode = .parking) (none_current : s.lens.current = none) :
    segmentDone g zb fb t now s = parkNext (segmentMoved g t (endedOn g zb fb now s)) := by
  obtain ⟨drains, parks, current⟩ := segmentMoved_keeps g t (endedOn g zb fb now s)
  simp only [segmentDone, noteFocusEnd_ended, moves, drains.trans hd, parks.trans mode, current.trans none_current,
    Bool.false_eq_true, if_false]

theorem segmentDone_parksDropping {m : Motor} (mode : s.lens.mode = .parking) (current_m : s.lens.current = some m) :
    segmentDone g zb fb t now s = parkNext
      ((endMove m false (segmentMoved g t (endedOn g zb fb now s))).onLens (fun l => { l with current := none })) := by
  obtain ⟨drains, parks, current⟩ := segmentMoved_keeps g t (endedOn g zb fb now s)
  simp only [segmentDone, noteFocusEnd_ended, moves, drains.trans hd, parks.trans mode, current.trans current_m,
    Bool.false_eq_true, if_false]

end

end

end

/-! ## Faults (R69, R76) -/

/-- The event of a fault of motor `m`. -/
def faultEvent (m : Motor) (cause : LensFaultCause) (before : LensMode) : LensEvent :=
  { event := .fault, motor := some m, cause := some cause, before := some before, after := .fault,
    difference := 0, zoom := 0, focus := 0, iris := 0 }

/-- The Lens Drive in FAULT: every motor is IDLE and stays where it is. -/
def lensFaulted (held : List LensEvent) (l : LensDrive) : LensDrive :=
  { l with mode := .fault, segment := none, current := none, stack := [], awaiting := false, homing := none,
           draining := false, heldEvents := held, zoom := idled l.zoom, focus := idled l.focus, iris := idled l.iris }

theorem idledIf_moving (r : MotorRecord) : idledIf (r.state != .idle) r = idled r := by
  by_cases idle : r.state = .idle
  · rw [idled_of_idle idle, idledIf, if_neg (by simp [idle])]
  · rw [idledIf, if_pos (by simpa using idle), idled]

theorem changeLens_fault (s : State) : changeLens .fault s = { s with
    lens := { s.lens with mode := .fault }, zoom := { s.zoom with fromLens := s.zoom.fromLens ++ [.lensState .fault] },
    focus := { s.focus with lensTold := .fault, fromLens := s.focus.fromLens ++ [.fault] } } := rfl

section
variable {s : State} (m : Motor) (cause : LensFaultCause)

theorem failLens_told (hd : s.lens.draining = false) : failLens m cause s = { s with
    lens := lensFaulted s.lens.heldEvents s.lens,
    zoom := { s.zoom with
      fromLens := s.zoom.fromLens ++ dropsTellZoom (movingMotors s.lens) s.lens ++ [.lensState .fault] },
    focus := { s.focus with
      lensTold := .fault,
      fromLens := s.focus.fromLens ++ dropsTellFocus (movingMotors s.lens) s.lens ++ [.fault] },
    report := giveGeneral (.lensEvent (faultEvent m cause s.lens.mode)) s.report } := by
  rw [failLens, dropAllMoves_noticed (by exact hd), changeLens_fault]
  simp only [giveLensEvent, State.onLens, movesDropped, hd, Bool.false_eq_true, if_false]
  simp only [movingMotors, LensDrive.motor, idledIf_moving]
  rfl

/-- Under a SOFT RESET the owners are not told, and the event waits for the completion (R82). -/
theorem failLens_held (hd : s.lens.draining = true) : failLens m cause s = { s with
    lens := lensFaulted (s.lens.heldEvents ++ [faultEvent m cause s.lens.mode]) s.lens,
    zoom := { s.zoom with fromLens := s.zoom.fromLens ++ motorStop s.lens.zoom ++ [.lensState .fault] },
    focus := { s.focus with lensTold := .fault, fromLens := s.focus.fromLens ++ [.fault] } } := by
  rw [failLens, dropAllMoves_eq (by exact hd), changeLens_fault]
  simp only [giveLensEvent, State.onLens, hd, if_true]
  rfl

end

end Sys2Proof.Machine
end

section
/-!
The faults of the Lens Drive, and its answers that end a segment in READY and in HOMING (O49; R69 to R76).
-/
namespace Sys2Proof.Machine

/-! ## Faults (R69, R76) -/

/-- The lens of `s` goes to FAULT in the outcome `out`, for the segment `g` and the cause, with the sensor levels `levels`. -/
def FaultTaken (now : Nat) (s : State) (out : Host.Outcome State Fault Refusal) (g : Segment) (cause : LensFaultCause)
    (levels : Bool × Bool) : Prop :=
  ∃ (u : State) (e : LensEvent), out = .next (settle s u) ∧
    u = { s with
      lens := { s.lens with
        mode := .fault, segment := none, current := none, stack := [], awaiting := false, homing := none,
        draining := false, zoomBlocked := levels.1, focusBlocked := levels.2,
        lastFocusEnd := if g.motor = .focus then some now else s.lens.lastFocusEnd, heldEvents := u.lens.heldEvents,
        zoom := { s.lens.zoom with state := .idle }, focus := { s.lens.focus with state := .idle },
        iris := { s.lens.iris with state := .idle } },
      report := u.report, zoom := { s.zoom with fromLens := u.zoom.fromLens },
      focus := { s.focus with fromLens := u.focus.fromLens, lensTold := .fault } } ∧
    u.zoom.fromLens = s.zoom.fromLens ++
      (if s.lens.draining = false ∧ s.lens.focus.state ≠ .idle ∧ s.lens.focus.owner ≠ .focus
        then [.moveEnd .focus false s.lens.focus.position] else []) ++
      (if s.lens.draining = false ∧ s.lens.zoom.state ≠ .idle then [.moveEnd .zoom false s.lens.zoom.position] else []) ++
      (if s.lens.zoom.state ≠ .idle then [.finish] else []) ++ [.lensState .fault] ∧
    u.focus.fromLens = s.focus.fromLens ++
      (if s.lens.draining = false ∧ s.lens.focus.state ≠ .idle ∧ s.lens.focus.owner = .focus
        then [.moveEnd false s.lens.focus.position] else []) ++ [.fault] ∧
    (e.event, e.motor, e.cause, e.before, e.after) = (.fault, some g.motor, some cause, some s.lens.mode, .fault) ∧
    (s.lens.draining = false → u.report = giveGeneral (.lensEvent e) s.report ∧ u.lens.heldEvents = s.lens.heldEvents) ∧
    (s.lens.draining = true → u.report = s.report ∧ u.lens.heldEvents = s.lens.heldEvents ++ [e])

section
variable {s : State} {g : Segment} {now : Nat}

/-- The notices of a fault, motor by motor. -/
theorem dropsTellZoom_moving (l : LensDrive) : dropsTellZoom (movingMotors l) l =
    (if l.focus.state ≠ .idle ∧ l.focus.owner ≠ .focus then [.moveEnd .focus false l.focus.position] else []) ++
    ((if l.zoom.state ≠ .idle then [.moveEnd .zoom false l.zoom.position] else []) ++
      (if l.zoom.state ≠ .idle then [.finish] else [])) := by
  by_cases focus : l.focus.state = .idle <;> by_cases zoom : l.zoom.state = .idle <;>
    simp [dropsTellZoom, movingMotors, LensDrive.motor, focus, zoom]
theorem dropsTellFocus_moving (l : LensDrive) : dropsTellFocus (movingMotors l) l =
    if l.focus.state ≠ .idle ∧ l.focus.owner = .focus then [.moveEnd false l.focus.position] else [] := by
  by_cases focus : l.focus.state = .idle <;> simp [dropsTellFocus, movingMotors, LensDrive.motor, focus]

theorem failLens_faultTaken (x : Option Segment) (cause : LensFaultCause) (levels : Bool × Bool) : FaultTaken now s
    (.next (settle s (failLens g.motor cause { s with
      lens := { s.lens with segment := x, zoomBlocked := levels.1, focusBlocked := levels.2,
                            lastFocusEnd := if g.motor = .focus then some now else s.lens.lastFocusEnd } })))
    g cause levels := by
  refine ⟨_, faultEvent g.motor cause s.lens.mode, rfl, ?_⟩
  cases hd : s.lens.draining
  · rw [failLens_told _ _ (by exact hd)]
    refine ⟨rfl, ?_, ?_, rfl, fun _ => ⟨rfl, rfl⟩, nofun⟩
    · refine (congrArg (fun notices => s.zoom.fromLens ++ notices ++ [.lensState .fault]) (dropsTellZoom_moving s.lens)).trans ?_
      simp only [true_and, List.append_assoc]
    · simp only [true_and]
      exact congrArg (fun notices => s.focus.fromLens ++ notices ++ [.fault]) (dropsTellFocus_moving s.lens)
  · rw [failLens_held _ _ (by exact hd)]
    refine ⟨rfl, ?_, ?_, rfl, nofun, fun _ => ⟨rfl, rfl⟩⟩
    · simp only [motorStop, ite_not, Bool.true_eq_false, false_and, if_false, List.append_nil]
    · simp only [Bool.true_eq_false, false_and, if_false, List.append_nil]

theorem failSegment_faultTaken (flies : s.lens.segment = some g) (cause : LensFaultCause) :
    FaultTaken now s (finishIf s (failSegment cause now s)) g cause (s.lens.zoomBlocked, s.lens.focusBlocked) := by
  simp only [failSegment, flies, Option.map, finishIf, noteFocusEnd_eq]
  exact failLens_faultTaken s.lens.segment cause (s.lens.zoomBlocked, s.lens.focusBlocked)

/-- NO_HOME and a DONE without a transition end the last segment of a seek alike (R76). -/
theorem segmentDone_atLimit (zb fb : Bool) {up : Bool} {m : Motor} (mode : s.lens.mode = .homing) (hd : s.lens.draining = false)
    (homes : g.homing = true) (own : g.motor = m) (last : s.lens.homing = some (.seek m up (seekLimit m))) :
    FaultTaken now s (.next (settle s (segmentDone g zb fb 0 now s))) g .noHome (zb, fb) := by
  have last' : (endedOn g zb fb now s).lens.homing = some (.seek m up (seekLimit m)) := last
  simp only [segmentDone_homing hd mode homes, homingDone, last', Nat.lt_irrefl, if_false]
  rw [← own]
  exact failLens_faultTaken none .noHome (zb, fb)

theorem noHome_notDue (zb fb : Bool) (other : ¬ ∃ m up sent, s.lens.mode = .homing ∧ s.lens.draining = false ∧
    s.lens.homing = some (.seek m up sent) ∧ sent = seekLimit m) : exec (.noHome zb fb now) s = .next s := by
  have notLast : ¬ seekAtLimit s.lens = true := by
    intro last
    rw [seekAtLimit] at last
    split at last
    next m up sent seeks =>
      simp only [Bool.and_eq_true, beq_iff_eq, Bool.not_eq_true'] at last
      exact other ⟨m, up, sent, last.1.1, last.1.2, seeks, last.2⟩
    next => cases last
  simp only [exec, execNoHome, if_neg notLast]
  rfl

theorem exec_noHome (zb fb : Bool) {up : Bool} {m : Motor} (mode : s.lens.mode = .homing) (hd : s.lens.draining = false)
    (flies : s.lens.segment = some g) (last : s.lens.homing = some (.seek m up (seekLimit m))) :
    exec (.noHome zb fb now) s = .next (settle s (segmentDone g zb fb 0 now s)) := by
  have atLimit : seekAtLimit s.lens = true := by simp [seekAtLimit, last, mode, hd]
  simp only [exec, execNoHome, if_pos atLimit, flies]
  rfl

end

end Sys2Proof.Machine
end

section
/-!
The end of a segment in READY (O49; R68, R71 to R74).
-/
namespace Sys2Proof.Machine

/-- The Lens Drive once segment `g` has ended with its motor at position `p`. -/
def movedLens (g : Segment) (zb fb : Bool) (now p : Nat) (l : LensDrive) : LensDrive :=
  (segmentEnded g zb fb now l).setMotor g.motor { l.motor g.motor with position := p }

/-- With no move that waits, none is chosen (R72). -/
theorem choiceMade_rests {v u : State} (made : ChoiceMade v u) (none_pending : ∀ m, (v.lens.motor m).state ≠ .pending)
    (stack : v.lens.stack = []) : u = v := by
  cases made with
  | free => rfl
  | granted _ k best => exact absurd best.1 (none_pending k)
  | grantedEnds _ _ k best => exact absurd best.1 (none_pending k)
  | resumed _ e rest top => rw [stack] at top; cases top
  | resumedEnds _ _ e rest top => rw [stack] at top; cases top

section
variable {g : Segment} {t now : Nat} {zb fb : Bool} {s : State}

theorem endedMoved_plain (kept : ¬ losesSteps g t (s.lens.motor g.motor).position) : segmentMoved g t (endedOn g zb fb now s) =
    { s with lens := movedLens g zb fb now (movedPosition g (s.lens.motor g.motor).position) s.lens } := by
  have same : (endedOn g zb fb now s).lens.motor g.motor = s.lens.motor g.motor := segmentEnded_motor ..
  rw [segmentMoved_plain (by rw [same]; exact kept)]
  simp only [standsAt, same]
  rfl

theorem endedMoved_lost (hd : s.lens.draining = false) (loses : losesSteps g t (s.lens.motor g.motor).position) :
    segmentMoved g t (endedOn g zb fb now s) = { s with
      lens := movedLens g zb fb now (edgePosition g t) s.lens,
      zoom := { s.zoom with fromLens := s.zoom.fromLens ++ [.stepLoss g.motor] },
      focus := { s.focus with fromLens := s.focus.fromLens ++ [.stepLoss g.motor] },
      report := giveGeneral (.lensEvent (stepLossEvent g t (s.lens.motor g.motor).position s.lens.mode)) s.report } := by
  have same : (endedOn g zb fb now s).lens.motor g.motor = s.lens.motor g.motor := segmentEnded_motor ..
  rw [segmentMoved_lost_told (by exact hd) (by rw [same]; exact loses)]
  simp only [standsAt, same]
  rfl

theorem setMotor_none_pending {l : LensDrive} {m : Motor} {r : MotorRecord} (none_pending : ∀ k, (l.motor k).state ≠ .pending)
    (new : r.state ≠ .pending) (k : Motor) : ((l.setMotor m r).motor k).state ≠ .pending := by
  by_cases own : k = m
  · rw [own, LensDrive.motor_setMotor]
    exact new
  · rw [LensDrive.motor_setMotor_ne _ _ own]
    exact none_pending k

theorem movedLens_none_pending {p : Nat} {l : LensDrive} (none_pending : ∀ k, (l.motor k).state ≠ .pending) (k : Motor) :
    ((movedLens g zb fb now p l).motor k).state ≠ .pending :=
  setMotor_none_pending (r := { l.motor g.motor with position := p })
    (fun k => by rw [segmentEnded_motor]; exact none_pending k) (none_pending g.motor) k

theorem endMove_none_pending {u : State} (m : Motor) (reached : Bool) (none_pending : ∀ k, (u.lens.motor k).state ≠ .pending)
    (k : Motor) : ((endMove m reached u).lens.motor k).state ≠ .pending := by
  rw [endMove_lens]
  exact setMotor_none_pending none_pending (by simp) k

theorem movedLens_zoom (zoom : g.motor = .zoom) (p : Nat) (l : LensDrive) : movedLens g zb fb now p l =
    { segmentEnded g zb fb now l with zoom := { l.zoom with position := p } } := by
  simp only [movedLens, zoom]
  rfl

/-- The next segment of a move that goes on from position `p` (R71). -/
theorem segmentSent_moved (ready : s.lens.mode = .ready) (p : Nat) :
    segmentSent g.motor { s with lens := movedLens g zb fb now p s.lens } = { s with
      lens := { (segmentEnded g zb fb now s.lens).setMotor g.motor
                  { s.lens.motor g.motor with position := p, moved := true } with
                segment := some { motor := g.motor, up := decide (p < (s.lens.motor g.motor).target),
                                  steps := min 16 (natDist (s.lens.motor g.motor).target p),
                                  period := (s.lens.motor g.motor).period,
                                  timeout := min 16 (natDist (s.lens.motor g.motor).target p) *
                                    (s.lens.motor g.motor).period + 5000, homing := false } } } := by
  have mode : (movedLens g zb fb now p s.lens).mode = .ready := by simpa [movedLens, segmentEnded] using ready
  have motor : (movedLens g zb fb now p s.lens).motor g.motor = { s.lens.motor g.motor with position := p } :=
    LensDrive.motor_setMotor ..
  simp only [segmentSent, motor, mode]
  rw [movedLens, LensDrive.setMotor_setMotor]
  rfl

theorem endMove_moved_focus (focus : g.motor = .focus) (own : (s.lens.motor g.motor).owner = .focus) (p : Nat) :
    endMove g.motor true { s with lens := movedLens g zb fb now p s.lens } = { s with
      lens := (segmentEnded g zb fb now s.lens).setMotor g.motor { s.lens.motor g.motor with position := p, state := .idle },
      focus := { s.focus with fromLens := s.focus.fromLens ++ [.moveEnd true p] } } := by
  have own' : (movedLens g zb fb now p s.lens).focus.owner = .focus := by
    simpa only [movedLens, focus, LensDrive.setMotor] using own
  simp only [focus, endMove_focus, if_pos own', List.append_nil]
  simp only [movedLens, focus]
  rfl

theorem endMove_moved_iris (iris : g.motor = .iris) (p : Nat) :
    endMove g.motor true { s with lens := movedLens g zb fb now p s.lens } = { s with
      lens := (segmentEnded g zb fb now s.lens).setMotor g.motor { s.lens.motor g.motor with position := p, state := .idle },
      exposure := { s.exposure with irisReached := some p } } := by
  simp only [movedLens, iris, endMove_iris_reached]
  rfl

section
variable (flies : s.lens.segment = some g)
    (quiet : s.lens.mode = .ready ∧ s.lens.draining = false ∧ g.homing = false)
include flies quiet

theorem exec_segmentDone_zoom (zoom : g.motor = .zoom) : exec (.lensSegmentDone zb fb t now) s =
    .next (settle s (handOver (segmentMoved g t (endedOn g zb fb now s)))) := by
  obtain ⟨ready, hd, moves⟩ := quiet
  rw [exec_lensSegmentDone flies, segmentDone_ready hd moves ready, if_pos zoom]

theorem exec_segmentDone_other (other : g.motor ≠ .zoom) : exec (.lensSegmentDone zb fb t now) s =
    .next (settle s (grant (segmentMoved g t (endedOn g zb fb now s)))) := by
  obtain ⟨ready, hd, moves⟩ := quiet
  rw [exec_lensSegmentDone flies, segmentDone_ready hd moves ready, if_neg other]

/-- After a segment without step loss the grant decision runs (R71). -/
theorem exec_segmentDone_grants (other : g.motor ≠ .zoom) (kept : ¬ losesSteps g t (s.lens.motor g.motor).position) :
    ∃ u, exec (.lensSegmentDone zb fb t now) s = .next (settle s u) ∧ GrantMade { s with
      lens := movedLens g zb fb now (movedPosition g (s.lens.motor g.motor).position) s.lens } u :=
  ⟨_, by rw [exec_segmentDone_other flies quiet other, endedMoved_plain kept], grant_made _⟩

theorem exec_segmentDone_goesOn (other : g.motor ≠ .zoom) (kept : ¬ losesSteps g t (s.lens.motor g.motor).position)
    (current : s.lens.current = some g.motor)
    (apart : (s.lens.motor g.motor).target ≠ movedPosition g (s.lens.motor g.motor).position)
    (sequential : s.lens.arbitration = .sequential) :
    exec (.lensSegmentDone zb fb t now) s = .next (settle s (segmentSent g.motor { s with
      lens := movedLens g zb fb now (movedPosition g (s.lens.motor g.motor).position) s.lens })) := by
  obtain ⟨u, out, made⟩ := exec_segmentDone_grants (zb := zb) (fb := fb) (now := now) flies quiet other kept
  rw [out, made.kept g.motor (by simpa [movedLens, segmentEnded] using current) (by simpa [movedLens] using apart.symm)
    (.inl (by simpa [movedLens, segmentEnded] using sequential))]

/-- At its target the move ends, and with none that waits the bus stays free (R71, R72). -/
theorem exec_segmentDone_ends (other : g.motor ≠ .zoom) (kept : ¬ losesSteps g t (s.lens.motor g.motor).position)
    (current : s.lens.current = some g.motor)
    (there : (s.lens.motor g.motor).target = movedPosition g (s.lens.motor g.motor).position)
    (stack : s.lens.stack = []) (none_pending : ∀ m, (s.lens.motor m).state ≠ .pending) :
    exec (.lensSegmentDone zb fb t now) s = .next (settle s
      ((endMove g.motor true { s with
        lens := movedLens g zb fb now (movedPosition g (s.lens.motor g.motor).position) s.lens }).onLens
        (fun l => { l with current := none }))) := by
  obtain ⟨u, out, made⟩ := exec_segmentDone_grants (zb := zb) (fb := fb) (now := now) flies quiet other kept
  have ended := made.ended g.motor (by simpa [movedLens, segmentEnded] using current) (by simpa [movedLens] using there.symm)
  have rests := endMove_none_pending g.motor true (u := { s with
      lens := movedLens g zb fb now (movedPosition g (s.lens.motor g.motor).position) s.lens })
    (movedLens_none_pending none_pending)
  rw [out, choiceMade_rests ended rests (by simpa [movedLens, segmentEnded] using stack)]
  rfl

end

end

end Sys2Proof.Machine
end

section
/-!
The end of a segment in HOMING and in PARKING (O49; R75 to R77).
-/
namespace Sys2Proof.Machine

/-! ## HOMING (R75, R76) -/

/-- A segment of homing. -/
def homingSegment (m : Motor) (up : Bool) (steps period : Nat) : Segment :=
  { motor := m, up := up, steps := steps, period := period, timeout := steps * period + 5000, homing := true }

theorem sendSegment_homing {u : State} (mode : u.lens.mode = .homing) (m : Motor) (up : Bool) (n : Nat) :
    sendSegment m up n u = { u with
      lens := { u.lens.setMotor m { u.lens.motor m with moved := true } with
                segment := some (homingSegment m up n (u.lens.motor m).period) } } := by
  simp only [sendSegment, State.onLens, mode]
  rfl

theorem sendSeek_homing {u : State} (mode : u.lens.mode = .homing) (m : Motor) (up : Bool) (sent : Nat) :
    sendSeek m up sent u = { u with
      lens := { u.lens.setMotor m { u.lens.motor m with moved := true } with
                homing := some (.seek m up (sent + min 16 (seekLimit m - sent))),
                segment := some (homingSegment m up (min 16 (seekLimit m - sent)) (u.lens.motor m).period) } } := by
  rw [sendSeek, sendSegment_homing (by exact mode)]
  cases m <;> rfl

section
variable {g : Segment} {t : Nat} {u : State}

theorem homingDone_iris (mode : u.lens.mode = .homing) {k : Nat} (homes : u.lens.homing = some (.iris k)) (more : k < 2) :
    homingDone g t u = { u with
      lens := { u.lens with homing := some (.iris (k + 1)), iris := { u.lens.iris with moved := true },
                            segment := some (homingSegment .iris false 16 u.lens.iris.period) } } := by
  simp only [homingDone, homes, if_pos (show k + 1 < 3 by omega)]
  exact sendSegment_homing (by exact mode) ..

/-- After the third iris segment the iris stands at 0, and the zoom seek begins. -/
theorem homingDone_irisLast (mode : u.lens.mode = .homing) (homes : u.lens.homing = some (.iris 2)) :
    homingDone g t u = { u with
      lens := { u.lens with
        homing := some (.seek .zoom (!u.lens.zoomBlocked) 16), iris := { u.lens.iris with position := 0 },
        zoom := { u.lens.zoom with moved := true },
        segment := some (homingSegment .zoom (!u.lens.zoomBlocked) 16 u.lens.zoom.period) } } := by
  simp only [homingDone, homes]
  exact sendSeek_homing (by exact mode) ..

/-- The zoom's edge found, the focus seek begins. -/
theorem homingDone_zoomFound (mode : u.lens.mode = .homing) {up : Bool} {sent : Nat}
    (homes : u.lens.homing = some (.seek .zoom up sent)) (found : 0 < t) : homingDone g t u = { u with
      lens := { u.lens with
        homing := some (.seek .focus (!u.lens.focusBlocked) 16),
        zoom := { u.lens.zoom with position := seekPosition .zoom up (g.steps - t) },
        focus := { u.lens.focus with moved := true },
        segment := some (homingSegment .focus (!u.lens.focusBlocked) 16 u.lens.focus.period) } } := by
  simp only [homingDone, homes, if_pos found, if_true]
  exact sendSeek_homing (by exact mode) ..

/-- The focus's edge found, the lens is READY, with its event. -/
theorem homingDone_focusFound (hd : u.lens.draining = false) {up : Bool} {sent : Nat}
    (homes : u.lens.homing = some (.seek .focus up sent)) (found : 0 < t) : ∃ e : LensEvent,
    (e.event, e.zoom, e.focus, e.iris) =
      (.homed, u.lens.zoom.position, seekPosition .focus up (g.steps - t), u.lens.iris.position) ∧
    homingDone g t u = { u with
      lens := { u.lens with
        mode := .ready, homing := none, focus := { u.lens.focus with position := seekPosition .focus up (g.steps - t) } },
      zoom := { u.zoom with fromLens := u.zoom.fromLens ++ [.lensState .ready] },
      focus := { u.focus with lensTold := .ready }, report := giveGeneral (.lensEvent e) u.report } := by
  refine ⟨positionsEvent .homed (changeLens .ready
    ((setPosition .focus (seekPosition .focus up (g.steps - t)) u).onLens (fun l => { l with homing := none }))), rfl, ?_⟩
  simp only [homingDone, homes, if_pos found, reduceCtorEq, if_false, endHoming, giveLensEvent, changeLens_told (m := .ready)
    (by decide), setPosition, State.onLens, LensDrive.setMotor, hd]
  rfl

theorem homingDone_goesOn (mode : u.lens.mode = .homing) {m : Motor} {up : Bool} {sent : Nat}
    (homes : u.lens.homing = some (.seek m up sent)) (more : sent < seekLimit m) : homingDone g 0 u = { u with
      lens := { u.lens.setMotor m { u.lens.motor m with moved := true } with
                homing := some (.seek m up (sent + min 16 (seekLimit m - sent))),
                segment := some (homingSegment m up (min 16 (seekLimit m - sent)) (u.lens.motor m).period) } } := by
  simp only [homingDone, homes, Nat.lt_irrefl, if_false, if_pos more]
  exact sendSeek_homing (by exact mode) ..

end

theorem exec_segmentDone_homing {g : Segment} {t now : Nat} {zb fb : Bool} {s : State} (flies : s.lens.segment = some g)
    (mode : s.lens.mode = .homing) (hd : s.lens.draining = false) (homes : g.homing = true) :
    exec (.lensSegmentDone zb fb t now) s = .next (settle s (homingDone g t (endedOn g zb fb now s))) := by
  rw [exec_lensSegmentDone flies, segmentDone_homing hd mode homes]

end Sys2Proof.Machine
end

section
/-!
The end of a segment in PARKING and under a SOFT RESET (O49; R74, R77, R82).
-/
namespace Sys2Proof.Machine

/-! ## PARKING (R77) -/

/-- What the Zoom Controller is told of the current move as it is dropped at position `p`. -/
def parkTellsZoom (g : Segment) (p : Nat) (l : LensDrive) : List ZoomNotice :=
  if l.current = some g.motor ∧ g.motor = .zoom then [.moveEnd .zoom false p, .finish]
  else if l.current = some g.motor ∧ g.motor = .focus ∧ (l.motor g.motor).owner ≠ .focus then [.moveEnd .focus false p]
  else []

/-- What the Focus Controller is told of the current move as it is dropped at position `p`. -/
def parkTellsFocus (g : Segment) (p : Nat) (l : LensDrive) : List FocusLensNotice :=
  if l.current = some g.motor ∧ g.motor = .focus ∧ (l.motor g.motor).owner = .focus then [.moveEnd false p] else []

/-- The lens after a segment in PARKING: its motor at position `p`, the current move dropped. -/
def parkedLens (g : Segment) (zb fb : Bool) (now p : Nat) (l : LensDrive) : LensDrive :=
  (segmentEnded g zb fb now l).setMotor g.motor
    { l.motor g.motor with position := p, state := if l.current = some g.motor then .idle else (l.motor g.motor).state }

/-- State `v` with the current move of lens `l` dropped and its owner told. -/
def parkedWith (g : Segment) (p : Nat) (l : LensDrive) (v : State) : State :=
  { v with zoom := { v.zoom with fromLens := v.zoom.fromLens ++ parkTellsZoom g p l },
           focus := { v.focus with fromLens := v.focus.fromLens ++ parkTellsFocus g p l } }

/-- From a lens that parks, with `k` the motor that goes to 0. -/
def parksOn (k : Motor) (l : LensDrive) : LensDrive :=
  { l.setMotor k { l.motor k with moved := true } with current := none, segment := some (parkingSegment k (l.motor k)) }

theorem LensDrive.current_none {l : LensDrive} (h : l.current = none) : { l with current := none } = l := by
  cases l
  cases h
  rfl

section
variable {g : Segment} {t now : Nat} {zb fb : Bool} {s : State}

/-- Where the end of a segment leaves the motor, with lost steps told. -/
theorem endedMoved_told (hd : s.lens.draining = false) : ∃ v : State,
    (¬ losesSteps g t (s.lens.motor g.motor).position → v = s) ∧
    (losesSteps g t (s.lens.motor g.motor).position → ∃ e : LensEvent, v = { s with
        zoom := { s.zoom with fromLens := s.zoom.fromLens ++ [.stepLoss g.motor] },
        focus := { s.focus with fromLens := s.focus.fromLens ++ [.stepLoss g.motor] },
        report := giveGeneral (.lensEvent e) s.report } ∧
      (e.event, e.motor, e.difference) = (.stepLoss, some g.motor, edgeOff g t (s.lens.motor g.motor).position) ∧
      (if g.motor = .zoom then e.zoom else e.focus) = edgePosition g t) ∧
    segmentMoved g t (endedOn g zb fb now s) =
      { v with lens := movedLens g zb fb now (endPosition g t (s.lens.motor g.motor).position) s.lens } := by
  by_cases loses : losesSteps g t (s.lens.motor g.motor).position
  · refine ⟨_, fun kept => absurd loses kept, fun _ => ⟨stepLossEvent g t (s.lens.motor g.motor).position s.lens.mode, rfl,
      rfl, ?_⟩, ?_⟩
    · exact stepLossEvent_position loses.1 ..
    · rw [endedMoved_lost hd loses, endPosition, if_pos loses]
  · exact ⟨s, fun _ => rfl, fun lost => absurd lost loses, by rw [endedMoved_plain loses, endPosition, if_neg loses]⟩

/-- The drop of the current move that ran tells its owner. -/
theorem endMove_parks {v : State} {p : Nat} (current : s.lens.current = some g.motor)
    (running : (s.lens.motor g.motor).state = .running) :
    endMove g.motor false { v with lens := movedLens g zb fb now p s.lens } =
      { parkedWith g p s.lens v with lens := parkedLens g zb fb now p s.lens } := by
  cases m : g.motor with
  | zoom =>
    have moves : (movedLens g zb fb now p s.lens).zoom.state ≠ .idle := by
      rw [m] at running
      simp only [movedLens, m, LensDrive.setMotor, running, ne_eq, reduceCtorEq, not_false_eq_true]
    have zoomTold : parkTellsZoom g p s.lens = [.moveEnd .zoom false p, .finish] := if_pos ⟨current, m⟩
    have focusTold : parkTellsFocus g p s.lens = [] := if_neg fun h => by simp [m] at h
    rw [endMove_zoom (by exact moves)]
    simp only [parkedWith, zoomTold, focusTold, parkedLens, if_pos current, List.append_nil]
    simp only [movedLens, m]
    rfl
  | focus =>
    have owner : (movedLens g zb fb now p s.lens).focus.owner = (s.lens.motor g.motor).owner := by
      simp only [movedLens, m, LensDrive.setMotor]
    have zoomTold : parkTellsZoom g p s.lens =
        if (s.lens.motor g.motor).owner = .focus then [] else [.moveEnd .focus false p] := by
      simp [parkTellsZoom, current, m]
    have focusTold : parkTellsFocus g p s.lens =
        if (s.lens.motor g.motor).owner = .focus then [.moveEnd false p] else [] := by
      simp [parkTellsFocus, current, m]
    rw [endMove_focus]
    simp only [owner, parkedWith, zoomTold, focusTold, parkedLens, if_pos current]
    simp only [movedLens, m]
    rfl
  | iris =>
    have zoomTold : parkTellsZoom g p s.lens = [] := by simp [parkTellsZoom, m]
    have focusTold : parkTellsFocus g p s.lens = [] := by simp [parkTellsFocus, m]
    rw [endMove_iris_dropped]
    simp only [parkedWith, zoomTold, focusTold, parkedLens, if_pos current, List.append_nil]
    simp only [movedLens, m]
    rfl

/-- With no current move, none is dropped. -/
theorem moved_parks {v : State} {p : Nat} (rests : s.lens.current = none) :
    { v with lens := movedLens g zb fb now p s.lens } =
      { parkedWith g p s.lens v with lens := { parkedLens g zb fb now p s.lens with current := none } } := by
  have notOwn : ¬ s.lens.current = some g.motor := by simp [rests]
  have zoomTold : parkTellsZoom g p s.lens = [] := by simp [parkTellsZoom, rests]
  have focusTold : parkTellsFocus g p s.lens = [] := by simp [parkTellsFocus, rests]
  have current : (movedLens g zb fb now p s.lens).current = none := by simp [movedLens, segmentEnded, rests]
  have same : parkedLens g zb fb now p s.lens = movedLens g zb fb now p s.lens := by
    simp only [parkedLens, movedLens, if_neg notOwn]
  simp only [parkedWith, zoomTold, focusTold, List.append_nil, same]
  rw [LensDrive.current_none current]

/-- A segment in PARKING: its motor has moved, the current move is dropped, and parking goes on. -/
theorem exec_segmentDone_parks {v : State} {p : Nat} (flies : s.lens.segment = some g)
    (parks : s.lens.mode = .parking ∧ s.lens.draining = false ∧ g.homing = false)
    (current : s.lens.current = none ∨ (s.lens.current = some g.motor ∧ (s.lens.motor g.motor).state = .running))
    (moved : segmentMoved g t (endedOn g zb fb now s) = { v with lens := movedLens g zb fb now p s.lens }) :
    exec (.lensSegmentDone zb fb t now) s = .next (settle s (parkNext
      { parkedWith g p s.lens v with lens := { parkedLens g zb fb now p s.lens with current := none } })) := by
  obtain ⟨mode, hd, moves⟩ := parks
  rw [exec_lensSegmentDone flies]
  rcases current with rests | ⟨own, running⟩
  · rw [segmentDone_parks hd moves mode rests, moved, moved_parks rests]
  · rw [segmentDone_parksDropping hd moves mode own, moved, endMove_parks own running]
    rfl

theorem parkedLens_frame (p : Nat) (l : LensDrive) :
    (parkedLens g zb fb now p l).mode = l.mode ∧ (parkedLens g zb fb now p l).draining = l.draining := by
  simp [parkedLens, segmentEnded]

/-- How parking goes on from lens `l` (R77). -/
theorem parkNext_from {w : State} {l : LensDrive} (mode : l.mode = .parking) (hd : l.draining = false) :
    let next := parkNext { w with lens := { l with current := none } }
    (l.focus.position ≠ 0 → next = { w with lens := parksOn .focus l }) ∧
    (l.focus.position = 0 → l.zoom.position ≠ 0 → next = { w with lens := parksOn .zoom l }) ∧
    (l.focus.position = 0 → l.zoom.position = 0 → ∃ e : LensEvent,
      (e.event, e.after, e.zoom, e.focus, e.iris) = (.parked, .parked, 0, 0, l.iris.position) ∧
      next = { w with
        lens := { l with mode := .parked, current := none },
        zoom := { w.zoom with fromLens := w.zoom.fromLens ++ [.lensState .parked] },
        focus := { w.focus with lensTold := .parked }, report := giveGeneral (.lensEvent e) w.report }) :=
  ⟨fun apart => parkNext_focus (by exact apart) (by exact mode),
    fun focus apart => parkNext_zoom (by exact focus) (by exact apart) (by exact mode),
    fun focus zoom => parkNext_parked (s := { w with lens := { l with current := none } }) focus zoom hd⟩

/-! ## Under a SOFT RESET (R82) -/

/-- The drained segment lost steps. -/
abbrev drainLoses (g : Segment) (t : Nat) (l : LensDrive) : Prop :=
  g.homing = false ∧ losesSteps g t (l.motor g.motor).position

/-- Where the drained segment leaves its motor; a segment of homing leaves it where it stood. -/
def drainPosition (g : Segment) (t : Nat) (l : LensDrive) : Nat :=
  if g.homing then (l.motor g.motor).position else endPosition g t (l.motor g.motor).position

theorem movedLens_rests (l : LensDrive) : movedLens g zb fb now (l.motor g.motor).position l = segmentEnded g zb fb now l := by
  rw [movedLens]
  cases g.motor <;> rfl

/-- The last segment's position change, its event held for the completion. -/
theorem endedMoved_drains (drains : s.lens.draining = true) : ∃ events : List LensEvent,
    (¬ drainLoses g t s.lens → events = []) ∧
    (drainLoses g t s.lens → ∃ e : LensEvent, events = [e] ∧
      (e.event, e.motor, e.difference) = (.stepLoss, some g.motor, edgeOff g t (s.lens.motor g.motor).position) ∧
      (if g.motor = .zoom then e.zoom else e.focus) = edgePosition g t) ∧
    (if g.homing then endedOn g zb fb now s else segmentMoved g t (endedOn g zb fb now s)) = { s with
      lens := { movedLens g zb fb now (drainPosition g t s.lens) s.lens with heldEvents := s.lens.heldEvents ++ events },
      zoom := { s.zoom with fromLens := s.zoom.fromLens ++ if drainLoses g t s.lens then [.stepLoss g.motor] else [] },
      focus := { s.focus with fromLens := s.focus.fromLens ++ if drainLoses g t s.lens then [.stepLoss g.motor] else [] } } := by
  have held (p : Nat) : { movedLens g zb fb now p s.lens with heldEvents := s.lens.heldEvents } =
      movedLens g zb fb now p s.lens := by
    rw [movedLens]
    cases g.motor <;> rfl
  by_cases loses : drainLoses g t s.lens
  · obtain ⟨moves, lost⟩ := loses
    have same : (endedOn g zb fb now s).lens.motor g.motor = s.lens.motor g.motor := segmentEnded_motor ..
    refine ⟨_, fun kept => absurd ⟨moves, lost⟩ kept,
      fun _ => ⟨stepLossEvent g t (s.lens.motor g.motor).position s.lens.mode, rfl, rfl,
        stepLossEvent_position lost.1 ..⟩, ?_⟩
    rw [if_neg (by simp [moves]), segmentMoved_lost_held (by exact drains) (by rw [same]; exact lost), if_pos ⟨moves, lost⟩,
      if_pos ⟨moves, lost⟩, drainPosition, if_neg (by simp [moves]), endPosition, if_pos lost]
    simp only [same, standsAt]
    rfl
  · refine ⟨[], fun _ => rfl, fun lost => absurd lost loses, ?_⟩
    rw [if_neg loses, if_neg loses]
    simp only [List.append_nil, held]
    cases homes : g.homing
    · have kept : ¬ losesSteps g t (s.lens.motor g.motor).position := fun lost => loses ⟨homes, lost⟩
      rw [if_neg (by simp), endedMoved_plain kept, drainPosition, if_neg (by simp [homes]), endPosition, if_neg kept]
    · rw [if_pos rfl, drainPosition, if_pos homes, movedLens_rests]
      rfl

theorem movedLens_frame (p : Nat) (l : LensDrive) : (movedLens g zb fb now p l).mode = l.mode ∧
    (movedLens g zb fb now p l).draining = l.draining ∧ (movedLens g zb fb now p l).awaiting = l.awaiting ∧
    (movedLens g zb fb now p l).zoom.state = l.zoom.state := by
  rw [movedLens]
  cases g.motor <;> exact ⟨rfl, rfl, rfl, rfl⟩

theorem drainedMode_eq (m : LensMode) :
    drainedMode m = if m = .homing then .unhomed else if m = .parking then .ready else m := by cases m <;> rfl

/-- The zoom position is handed over as the drain ends. -/
abbrev drainHands (g : Segment) (l : LensDrive) : Prop := g.motor = .zoom ∧ l.mode = .ready

/-- The state as the last segment `g` under a SOFT RESET has ended, with `events` held for the completion. -/
def drainedBy (g : Segment) (zb fb : Bool) (t now : Nat) (events : List LensEvent) (s : State) : State :=
  let l := s.lens
  let moved := movedLens g zb fb now (drainPosition g t l) l
  let mode : LensMode := if l.mode = .homing then .unhomed else if l.mode = .parking then .ready else l.mode
  { s with
    lens := { moved with
      mode := mode, draining := false, homing := none, current := none, stack := [],
      awaiting := if drainHands g l then true else l.awaiting, heldEvents := l.heldEvents ++ events,
      zoom := { moved.zoom with state := .idle }, focus := { moved.focus with state := .idle },
      iris := { moved.iris with state := .idle } },
    zoom := { s.zoom with
      fromLens := s.zoom.fromLens ++ (if drainLoses g t l then [.stepLoss g.motor] else []) ++
        (if drainHands g l then [ZoomNotice.handover moved.zoom.position] else []) ++
        (if l.zoom.state ≠ .idle then [.finish] else []) ++ (if mode = l.mode then [] else [.lensState mode]),
      silent := if drainHands g l then s.zoom.silent + 1 else s.zoom.silent,
      derived := if mode = .ready then derive moved.zoom.position s.zoom.cam else s.zoom.derived },
    focus := { s.focus with
      lensTold := if mode = l.mode then s.focus.lensTold else mode,
      fromLens := s.focus.fromLens ++ (if drainLoses g t l then [.stepLoss g.motor] else []) } }

theorem drainDone_drainedBy (drains : s.lens.draining = true) (events : List LensEvent) : drainDone g { s with
      lens := { movedLens g zb fb now (drainPosition g t s.lens) s.lens with heldEvents := s.lens.heldEvents ++ events },
      zoom := { s.zoom with fromLens := s.zoom.fromLens ++ if drainLoses g t s.lens then [.stepLoss g.motor] else [] },
      focus := { s.focus with fromLens := s.focus.fromLens ++ if drainLoses g t s.lens then [.stepLoss g.motor] else [] } } =
    drainedBy g zb fb t now events s := by
  obtain ⟨mode, draining, awaiting, zoomState⟩ := movedLens_frame (g := g) (zb := zb) (fb := fb) (now := now)
    (drainPosition g t s.lens) s.lens
  by_cases hands : drainHands g s.lens
  · rw [drainDone_hands hands.1 (by exact mode.trans hands.2), handOver_eq, endDrain_eq (by exact draining.trans drains)]
    simp only [drainedBy, ← drainedMode_eq, if_pos hands, mode, motorStop, modeSettles, zoomState, ite_not]
    rfl
  · rw [drainDone_plain (by exact fun h => hands ⟨h.1, mode.symm.trans h.2⟩), endDrain_eq (by exact draining.trans drains)]
    simp only [drainedBy, ← drainedMode_eq, if_neg hands, mode, awaiting, motorStop, modeSettles, zoomState, ite_not,
      List.append_nil]
    rfl

end

end Sys2Proof.Machine
end

section
/-!
The end of a segment by the lens state, and the faults (O49).
-/
namespace Sys2Proof.Machine

/-- Settles O49: a segment's end by the lens state, and the faults. -/
theorem segmentsEndInAMoveOrAFault : Obligations.SegmentsEndInAMoveOrAFault := by
  refine ⟨fun zb fb t now s => ⟨fun none_flies => ?_, fun g flies => ⟨fun quiet zoom kept => ?_,
    fun quiet zoom lost => ?_, fun quiet other kept => ?_, fun quiet other lost => ?_,
    fun quiet other kept current apart sequential => ?_,
    fun quiet focus kept current there owner running stack none_pending => ?_,
    fun k mode hd homes iris more => ?_, fun mode hd homes iris => ?_, fun up sent mode hd homes seeks found => ?_,
    fun quiet iris current there running stack none_pending => ?_, fun up sent mode hd homes seeks found => ?_,
    fun k up sent mode hd homes seeks none_found sensor more => ?_, fun mode hd moves current => ?_, fun drains => ?_⟩⟩,
    fun zb fb now s => ⟨fun none_flies => ?_, fun g flies => ⟨?_, ?_⟩, fun other => noHome_notDue zb fb other,
      fun g up m mode hd flies homes own last => ?_⟩⟩
  · simp only [exec, execLensSegmentDone, none_flies]
    rfl
  · rw [exec_segmentDone_zoom flies quiet zoom, endedMoved_plain kept, handOver_eq, movedLens_zoom zoom]
    rfl
  · refine ⟨stepLossEvent g t (s.lens.motor g.motor).position s.lens.mode, stepLossEvent_zoom zoom .., ?_⟩
    rw [exec_segmentDone_zoom flies quiet zoom, endedMoved_lost quiet.2.1 lost, handOver_eq, movedLens_zoom zoom]
    have zoomTold : ZoomNotice.stepLoss g.motor = .stepLoss .zoom := by rw [zoom]
    have focusTold : FocusLensNotice.stepLoss g.motor = .stepLoss .zoom := by rw [zoom]
    simp only [zoomTold, focusTold, List.append_assoc]
    rfl
  · exact exec_segmentDone_grants flies quiet other kept
  · refine ⟨_, _, stepLossEvent g t (s.lens.motor g.motor).position s.lens.mode, ?_, grant_made _, rfl,
      stepLossEvent_focus other lost.1 ..⟩
    rw [exec_segmentDone_other flies quiet other, endedMoved_lost quiet.2.1 lost]
    rfl
  · rw [exec_segmentDone_goesOn flies quiet other kept current apart sequential, segmentSent_moved quiet.1]
    rfl
  · rw [exec_segmentDone_ends flies quiet (by rw [show g.motor = .focus from focus]; decide) kept current there
      stack none_pending, endMove_moved_focus focus owner]
    rfl
  · rw [exec_segmentDone_homing flies mode hd homes, homingDone_iris (by exact mode) (by exact iris) more]
    rfl
  · rw [exec_segmentDone_homing flies mode hd homes, homingDone_irisLast (by exact mode) (by exact iris)]
    rfl
  · obtain ⟨e, fields, ends⟩ := homingDone_focusFound (g := g) (u := endedOn g zb fb now s) hd seeks found
    exact ⟨e, fields, by rw [exec_segmentDone_homing flies mode hd homes, ends]; rfl⟩
  · have own : (s.lens.motor g.motor).target = s.lens.iris.target := by rw [show g.motor = .iris from iris]; rfl
    rw [exec_segmentDone_ends flies quiet (by rw [show g.motor = .iris from iris]; decide) (fun lost => lost.1 iris)
      (current.trans (congrArg some iris.symm)) (own.trans there) stack none_pending, endMove_moved_iris iris]
    rfl
  · rw [exec_segmentDone_homing flies mode hd homes, homingDone_zoomFound (by exact mode) (by exact seeks) found]
    rfl
  · have limit : seekLimit k = if k = .zoom then 1088 else 2112 := by
      cases k with
      | iris => exact absurd rfl sensor
      | zoom | focus => rfl
    rw [none_found, exec_segmentDone_homing flies mode hd homes,
      homingDone_goesOn (by exact mode) (by exact seeks) (by rw [limit]; exact more), limit]
    cases k <;> rfl
  · obtain ⟨v, kept, lost, moved⟩ := endedMoved_told (g := g) (t := t) (now := now) (zb := zb) (fb := fb) hd
    have out := exec_segmentDone_parks flies ⟨mode, hd, moves⟩ current moved
    obtain ⟨mode', hd'⟩ := parkedLens_frame (g := g) (zb := zb) (fb := fb) (now := now)
      (endPosition g t (s.lens.motor g.motor).position) s.lens
    obtain ⟨focus, zoom, parked⟩ := parkNext_from
      (w := parkedWith g (endPosition g t (s.lens.motor g.motor).position) s.lens v) (mode'.trans mode) (hd'.trans hd)
    refine ⟨v, kept, lost, fun apart => ?_, fun there apart => ?_, fun focusThere zoomThere => ?_⟩
    · rw [out, focus apart]
      rfl
    · rw [out, zoom there apart]
      rfl
    · obtain ⟨e, fields, ends⟩ := parked focusThere zoomThere
      exact ⟨e, fields, by rw [out, ends]; rfl⟩
  · obtain ⟨events, kept, lost, moved⟩ := endedMoved_drains (g := g) (t := t) (now := now) (zb := zb) (fb := fb) drains
    refine ⟨drainedBy g zb fb t now events s, events, ?_, kept, lost, rfl⟩
    rw [exec_lensSegmentDone flies, segmentDone_draining drains, moved, drainDone_drainedBy drains]
  · simp only [exec, execFaultAnswer, execSegmentTimeout, failSegment, none_flies]
    exact ⟨rfl, rfl⟩
  · exact failSegment_faultTaken flies .driverFault
  · exact failSegment_faultTaken flies .timeout
  · have seeks : s.lens.homing = some (.seek m up (seekLimit m)) := by
      rcases last with ⟨rfl, seeks⟩ | ⟨rfl, seeks⟩ <;> exact seeks
    have fails := segmentDone_atLimit (now := now) zb fb mode hd homes own seeks
    rw [exec_noHome zb fb mode hd flies seeks, exec_lensSegmentDone flies]
    exact ⟨fails, fails⟩

end Sys2Proof.Machine
end

section
/-!
LOAD TABLE: the request, the returns of the fetches of an image, and the checks and the commit of the whole image
(O17; R84, R87, R159, R160).
-/
namespace Sys2Proof.Machine

/-! ## The request of the header (R159) -/

theorem tableKindOf_known {kind : BitVec 8} (known : kind = 1 ∨ kind = 2 ∨ kind = 3) :
    tableKindOf kind.toNat = some (if kind = 1 then .cam else if kind = 2 then .program else .weights) := by
  rcases known with rfl | rfl | rfl <;> rfl

theorem tableKindOf_unknown {kind : BitVec 8} (unknown : ¬ (kind = 1 ∨ kind = 2 ∨ kind = 3)) :
    tableKindOf kind.toNat = none := by
  obtain ⟨n1, n2, n3⟩ := not_or.mp unknown |>.imp id not_or.mp
  unfold tableKindOf
  split
  next h => exact absurd (BitVec.eq_of_toNat_eq h) n1
  next h => exact absurd (BitVec.eq_of_toNat_eq h) n2
  next h => exact absurd (BitVec.eq_of_toNat_eq h) n3
  next => rfl

/-- Only kind 1 names the cam table. -/
theorem kind_cam_iff (kind : BitVec 8) :
    (if kind = 1 then TableKind.cam else if kind = 2 then .program else .weights) = .cam ↔ kind = 1 := by
  split
  · simp_all
  · split <;> simp_all

theorem exec_loadTable {s : State} (tag : BitVec 16) (kind : BitVec 8) (a : BitVec 32) (arrives : CommandArrives s) :
    exec (.loadTable tag kind a) s = .next (settle s (loadTableWork kind a (executing 0x0A03 tag s))) :=
  runCommand_of_arrives codeLoadTable tag (loadTableWork kind a) arrives

theorem exec_loadTable_unknown {s : State} {kind : BitVec 8} (tag : BitVec 16) (a : BitVec 32) (arrives : CommandArrives s)
    (unknown : ¬ (kind = 1 ∨ kind = 2 ∨ kind = 3)) :
    exec (.loadTable tag kind a) s = .next (settle s (answered 0x0A03 tag .badParameter 0 s)) := by
  rw [exec_loadTable tag kind a arrives, loadTableWork, tableKindOf_unknown unknown]
  rfl

/-- The tests of the mode and of the address in their order, and the fetch of the header. -/
theorem exec_loadTable_known {s : State} {kind : BitVec 8} (tag : BitVec 16) (a : BitVec 32) (arrives : CommandArrives s)
    (known : kind = 1 ∨ kind = 2 ∨ kind = 3) :
    exec (.loadTable tag kind a) s = .next (settle s (
      if kind = 1 ∧ s.command.mode = .view then answered 0x0A03 tag .notReady 0 s
      else if a.toNat % 16 ≠ 0 then answered 0x0A03 tag .badParameter 0 s
      else executing 0x0A03 tag (s.onCommand (fun c => { c with
        staging := some (newStaging (if kind = 1 then .cam else if kind = 2 then .program else .weights) a.toNat),
        waitingReads := c.waitingReads ++ [tableFetch a.toNat 0 1] })))) := by
  simp only [exec_loadTable tag kind a arrives, loadTableWork, tableKindOf_known known, kind_cam_iff]
  rfl

/-! ## A whole image (R84, R87, R159, R160) -/

section
variable {t : Staging} {k : TableKind} {s : State} {h : InHand}

/-- The Command Unit's staging buffer is empty. -/
def unstaged (s : State) : State := { s with command := { s.command with staging := none } }

theorem endLoad_of_inHand (hand : s.command.inHand = some h) (st : Status) :
    endLoad st s = completedWith h st 0 (unstaged s) :=
  complete_of_inHand (s := unstaged s) hand st 0

/-- An image whose sum is not 0 is refused. -/
theorem finishImage_unsound (hand : s.command.inHand = some h) (unsound : ¬ sumWords t.image % 2 ^ 32 = 0) :
    finishImage t s = completedWith h .badParameter 0 (unstaged s) := by
  simp only [finishImage, unsound, decide_false]
  exact endLoad_of_inHand hand _

/-- An image that fails a test of its kind is refused. -/
theorem finishImage_illegal (kind : t.kind = k) (illegal : commitImage k t.image s = none)
    (hand : s.command.inHand = some h) : finishImage t s = completedWith h .badParameter 0 (unstaged s) := by
  simp only [finishImage, kind, illegal]
  cases decide (sumWords t.image % 2 ^ 32 = 0) <;> exact endLoad_of_inHand hand _

/-- An image that passes every test is committed, and the command is done. -/
theorem finishImage_committed {u : State} (sound : sumWords t.image % 2 ^ 32 = 0)
    (kind : t.kind = k) (committed : commitImage k t.image s = some u) (hand : u.command.inHand = some h) :
    finishImage t s = completedWith h .done 0 (unstaged u) := by
  simp only [finishImage, sound, kind, committed, decide_true]
  exact complete_of_inHand (s := unstaged u) hand .done 0

end

/-! ### PROGRAM (R159) -/

theorem programLegal_iff (p : ProgramTable) : programLegal p = true ↔
    190 ≤ p.tlMin ∧ p.tlMin ≤ p.tlMax ∧ p.tlMax ≤ 793 ∧ p.glMax ≤ 192 ∧ p.credit ≤ 96 ∧ 16 ≤ p.crop ∧ p.crop ≤ 160 := by
  simp only [programLegal, Bool.and_eq_true, decide_eq_true_eq]
  omega

theorem commitImage_program_legal {b : List Byte} {s : State} (legal : programLegal (programOf b) = true) :
    commitImage .program b s = some { s with
      command := { s.command with programMark := true }, exposure := { s.exposure with program := programOf b } } := by
  simp only [commitImage, legal, if_true]
  rfl

theorem commitImage_program_illegal {b : List Byte} {s : State} (illegal : ¬ programLegal (programOf b) = true) :
    commitImage .program b s = none := by
  simp only [commitImage, illegal]
  rfl

/-! ### WEIGHTS (R159) -/

/-- Every weight of every pattern of a WEIGHTS image is at most 15. -/
theorem patternsLegal_iff (b : List Byte) (n : Nat) :
    (patternsOf b n).all (fun p => p.all (fun w => decide (w ≤ 15))) = true ↔
      ∀ j < n, ∀ w ∈ ((b.drop (16 + 192 * j)).take 192).map BitVec.toNat, w ≤ 15 := by
  simp [patternsOf]

theorem commitImage_weights_legal {b : List Byte} {s : State}
    (legal : ∀ j < imageField b 1 1, ∀ w ∈ ((b.drop (16 + 192 * j)).take 192).map BitVec.toNat, w ≤ 15) :
    commitImage .weights b s = some { s with
      command := { s.command with weightsMark := true },
      stats := { s.stats with patterns := patternsOf b (imageField b 1 1) } } := by
  simp only [commitImage, (patternsLegal_iff ..).mpr legal, if_true]
  rfl

theorem commitImage_weights_illegal {b : List Byte} {s : State}
    (illegal : ¬ ∀ j < imageField b 1 1, ∀ w ∈ ((b.drop (16 + 192 * j)).take 192).map BitVec.toNat, w ≤ 15) :
    commitImage .weights b s = none := by
  simp only [commitImage, mt (patternsLegal_iff ..).mp illegal]
  rfl

/-! ### The cam table (R84, R87) -/

theorem camNodeLegal_iff (n : CamNode) : camNodeLegal n = true ↔
    n.zoom ≤ 1023 ∧ 1 ≤ n.focal ∧ n.focal ≤ 65535 ∧ 64 ≤ n.alOpen ∧ n.alOpen ≤ 320 ∧ 1 ≤ n.stops ∧ n.stops ≤ 6 ∧
    8 ≤ n.stepAl ∧ n.stepAl ≤ 64 ∧ n.pInf ≤ 2046 ∧ n.pInf + 1 ≤ n.pNear ∧ n.pNear ≤ 2047 ∧ 8 ≤ n.coarse ∧
    n.coarse ≤ 128 := by
  simp only [camNodeLegal, Bool.and_eq_true, decide_eq_true_eq, and_assoc]

/-- Increasing zoom positions, by the places in the list. -/
theorem zoomsIncrease_iff (l : List CamNode) : zoomsIncrease l = true ↔
    ∀ j (inside : j + 1 < l.length), l[j].zoom < l[j + 1].zoom := by
  induction l with
  | nil => simp [zoomsIncrease]
  | cons a l ih =>
    cases l with
    | nil => simp [zoomsIncrease]
    | cons b l =>
      simp only [zoomsIncrease, Bool.and_eq_true, decide_eq_true_eq, ih]
      constructor
      · rintro ⟨first, rest⟩ (_ | j) inside
        · exact first
        · exact rest j (Nat.lt_of_succ_lt_succ inside)
      · exact fun all => ⟨all 0 (by simp), fun j inside => all (j + 1) (Nat.succ_lt_succ inside)⟩

/-- The test of a cam table of `n` nodes, by the places of the nodes (R84). -/
theorem camLegal_range (node : Nat → CamNode) (n : Nat) : camLegal ((List.range n).map node) = true ↔
    2 ≤ n ∧ n ≤ 24 ∧ (node 0).zoom = 0 ∧ (∀ j < n - 1, (node j).zoom < (node (j + 1)).zoom) ∧
      ∀ j < n, camNodeLegal (node j) = true := by
  have increase : zoomsIncrease ((List.range n).map node) = true ↔
      ∀ j < n - 1, (node j).zoom < (node (j + 1)).zoom := by
    simp only [zoomsIncrease_iff, List.length_map, List.length_range, List.getElem_map, List.getElem_range,
      ← Nat.lt_sub_iff_add_lt]
  have first : 2 ≤ n → (startsAtZero ((List.range n).map node) = true ↔ (node 0).zoom = 0) := fun two => by
    obtain ⟨m, rfl⟩ := Nat.exists_eq_add_of_le' two
    simp [List.range_succ_eq_map, startsAtZero]
  simp only [camLegal, Bool.and_eq_true, decide_eq_true_eq, List.length_map, List.length_range, increase, List.all_eq_true,
    List.mem_map, List.mem_range, forall_exists_index, and_imp, forall_apply_eq_imp_iff₂, and_assoc]
  exact and_congr_right fun two => and_congr_right fun _ => and_congr_left fun _ => first two

/-- z_max of a cam table with nodes is the zoom position of its last one. -/
theorem zMax_range (node : Nat → CamNode) {n : Nat} (some_node : 0 < n) :
    zMax ((List.range n).map node) = (node (n - 1)).zoom := by
  obtain ⟨m, rfl⟩ := Nat.exists_eq_add_of_le' some_node
  simp [zMax, List.range_succ]

/-- The Zoom Controller once a cam table has been formed (R87). -/
def camFormed (l : List CamNode) (s : State) : ZoomController :=
  { s.zoom with cam := l, derived := derive s.lens.zoom.position l, fresh := false }

/-- No zoom target above z_max: nothing is asked of the Lens Drive. -/
theorem commitCam_within {l : List CamNode} {s : State} {top : Nat} (last : zMax l = top)
    (within : ¬ ∃ z, s.zoom.target = some z ∧ top < z) : commitCam l s = { s with zoom := camFormed l s } := by
  subst last
  simp only [commitCam]
  split
  next z target => rw [if_neg fun above => within ⟨z, target, above⟩]; rfl
  next => rfl

/-- A zoom target above z_max is brought down to it. -/
theorem commitCam_above {l : List CamNode} {s : State} {top : Nat} (last : zMax l = top)
    (above : ∃ z, s.zoom.target = some z ∧ top < z) : commitCam l s = { s with
      zoom := { camFormed l s with target := some top },
      lens := { s.lens with fromZoom := s.lens.fromZoom ++ [.target .zoom top .camCommit] } } := by
  subst last
  obtain ⟨z, target, above⟩ := above
  simp only [commitCam, State.onZoom, ZoomController.reform, target, if_pos above]
  rfl

section
variable {b : List Byte} {s : State} {l : List CamNode} (nodes : l = (List.range (imageField b 1 1)).map (camNode b))
include nodes

theorem commitImage_cam_illegal (illegal : ¬ camLegal l = true) : commitImage .cam b s = none := by
  simp only [commitImage, ← nodes, illegal]
  rfl

variable (legal : camLegal l = true) {top : Nat} (last : zMax l = top)
include legal last

theorem commitImage_cam_within (within : ¬ ∃ z, s.zoom.target = some z ∧ top < z) : commitImage .cam b s =
    some { s with command := { s.command with camMark := true }, zoom := camFormed l s } := by
  simp only [commitImage, ← nodes, legal, if_true, commitCam_within last within]
  rfl

theorem commitImage_cam_above (above : ∃ z, s.zoom.target = some z ∧ top < z) : commitImage .cam b s = some { s with
    command := { s.command with camMark := true }, zoom := { camFormed l s with target := some top },
    lens := { s.lens with fromZoom := s.lens.fromZoom ++ [.target .zoom top .camCommit] } } := by
  simp only [commitImage, ← nodes, legal, if_true, commitCam_above last above]
  rfl

end

/-! ### The staging buffer is no part of the outcome -/

theorem commitCam_unstaged (l : List CamNode) (s : State) : commitCam l (unstaged s) = unstaged (commitCam l s) := by
  by_cases above : ∃ z, s.zoom.target = some z ∧ zMax l < z
  · rw [commitCam_above rfl above, commitCam_above (s := unstaged s) rfl above]
    rfl
  · rw [commitCam_within rfl above, commitCam_within (s := unstaged s) rfl above]
    rfl

theorem commitImage_unstaged (k : TableKind) (b : List Byte) (s : State) :
    commitImage k b (unstaged s) = (commitImage k b s).map unstaged := by
  cases k <;> simp only [commitImage, commitCam_unstaged, apply_ite (Option.map unstaged)] <;> rfl

/-- The image that ends is the one given, whatever the staging buffer holds. -/
theorem finishImage_unstaged (t : Staging) (s : State) : finishImage t (unstaged s) = finishImage t s := by
  simp only [finishImage, commitImage_unstaged]
  cases decide (sumWords t.image % 2 ^ 32 = 0) <;> cases commitImage t.kind t.image s <;> rfl

/-! ## The returns (R159) -/

/-- The own read under a tag has returned. -/
def tagFreed (tag : Nat) (s : State) : State :=
  { s with link := { s.link with ownReads := s.link.ownReads.filter (fun o => o.dtag != tag) } }

/-- A return under a tag that carries no table fetch. -/
theorem exec_tableFetchReturn_other {tag : Nat} {s : State}
    (none_carried : ∀ off, { dtag := tag, purpose := .tableFetch off } ∉ s.link.ownReads) (error : Bool)
    (data : List LinkWord) : exec (.tableFetchReturn tag error data) s = .next s := by
  simp only [exec, execTableFetchReturn]
  split
  next off _ read _ =>
    obtain ⟨⟨d, p⟩, found, rfl⟩ := Option.map_eq_some_iff.mp read
    obtain rfl : d = tag := by simpa using List.find?_some found
    exact absurd (List.mem_of_find?_eq_some found) (none_carried off)
  next => rfl

/-- The return of a table fetch while an image is staged. -/
theorem exec_tableFetchReturn_staged {tag off : Nat} {t : Staging} {s : State}
    (read : s.link.ownReads.find? (fun o => o.dtag == tag) = some { dtag := tag, purpose := .tableFetch off })
    (staged : s.command.staging = some t) (error : Bool) (data : List LinkWord) :
    exec (.tableFetchReturn tag error data) s = .next (settle s (tableReturned off error data t (tagFreed tag s))) := by
  simp only [exec, execTableFetchReturn, ownReadOf, read, staged, Option.map_some]
  rfl

/-! ### A failed image -/

/-- The reads of the image that have not been issued are dropped. -/
def readsDropped (s : State) : State :=
  { s with command := { s.command with waitingReads := s.command.waitingReads.filter (fun o => (tableOffset o).isNone) } }

/-- The reads of a failed image that are still in flight when the one at byte `off` has returned. -/
def stillInFlight (t : Staging) (off : Nat) (s : State) : List Nat :=
  t.outstanding.filter (fun x => x != off && !(s.command.waitingReads.filterMap tableOffset).contains x)

section
variable {t : Staging} {off : Nat} {error : Bool} {data : List LinkWord} {s : State}

theorem tableReturned_failed (failed : error = true ∨ t.failed = true) : tableReturned off error data t s =
    if stillInFlight t off s = [] then endLoad .memoryError (readsDropped s)
    else { readsDropped s with command := { (readsDropped s).command with
      staging := some { t with outstanding := stillInFlight t off s, failed := true } } } := by
  have fails : (error || t.failed) = true := by simpa using failed
  have same : (t.outstanding.filter (· != off)).filter
      (fun x => !(s.command.waitingReads.filterMap tableOffset).contains x) = stillInFlight t off s := by
    rw [List.filter_filter]
    exact List.filter_congr fun x _ => Bool.and_comm ..
  simp only [tableReturned, fails, if_true, failedReturn, same, List.isEmpty_iff]
  rfl

/-- The header is the only read outstanding: none is in flight when it has returned. -/
theorem stillInFlight_header (k : TableKind) (a : Nat) (s : State) : stillInFlight (newStaging k a) 0 s = [] := rfl

theorem readsDropped_idle (idle : s.command.waitingReads = []) : readsDropped s = s := by
  simp only [readsDropped, idle, List.filter_nil]
  rw [← idle]

/-! ### The rest of an image in order -/

theorem tableReturned_rest {n : Nat} (known : t.length = some n) (intact : t.failed = false) :
    tableReturned off false data t s = restReturned { t with
      outstanding := t.outstanding.filter (· != off), image := spliceAt t.image off (dataBytes data) } s := by
  simp only [tableReturned, intact, known, Bool.or_self, Bool.false_eq_true, if_false]

theorem restReturned_last (last : t.outstanding = []) : restReturned t s = finishImage t s := by
  simp [restReturned, last]

theorem restReturned_more (more : t.outstanding ≠ []) :
    restReturned t s = { s with command := { s.command with staging := some t } } := by
  rw [restReturned, if_neg (by simpa using more)]
  rfl

end

/-! ### The header -/

/-- Byte 0 or 1 of a header. -/
theorem imageField_header (l : List Byte) (i : Nat) (inside : i < 16) :
    imageField (l.take 16) i 1 = (l[i]?.getD 0).toNat := by
  rw [imageField, List.take_one, List.head?_drop, List.getElem?_take_of_lt inside]
  cases l[i]? <;> rfl

/-- The count of a header is in range for its kind (R159). -/
def CountLegal (k : TableKind) (n : Nat) : Prop :=
  match k with
  | .cam => 2 ≤ n ∧ n ≤ 24
  | .program => n = 1
  | .weights => 1 ≤ n ∧ n ≤ 4

/-- The bytes of a table's entries (section 12.6). -/
def entryBytes (k : TableKind) (n : Nat) : Nat :=
  match k with
  | .cam => 16 * n
  | .program => 16
  | .weights => 192 * n

theorem imageLength_legal {k : TableKind} {n : Nat} (legal : CountLegal k n) :
    imageLength k n = some (16 + entryBytes k n) := by
  cases k <;> simp only [CountLegal] at legal <;> simp [imageLength, entryBytes, legal]

theorem imageLength_illegal {k : TableKind} {n : Nat} (illegal : ¬ CountLegal k n) : imageLength k n = none := by
  cases k <;> simp only [CountLegal] at illegal <;> simp_all [imageLength]

/-- An image is of whole words, and its rest of at most 48. -/
theorem entryBytes_words {k : TableKind} {n : Nat} (legal : CountLegal k n) :
    ∃ w ≤ 48, entryBytes k n = 16 * w := by
  cases k <;> simp only [CountLegal] at legal
  case cam => exact ⟨n, by omega, rfl⟩
  case program => exact ⟨1, by omega, rfl⟩
  case weights => exact ⟨12 * n, by omega, by simp only [entryBytes]; omega⟩

section
variable {t : Staging} {header : List Byte} {s : State}

/-- A header of another kind, or with a count out of range. -/
theorem headerReturned_wrong
    (wrong : ¬ (imageField header 0 1 = tableKindCode t.kind ∧ CountLegal t.kind (imageField header 1 1))) :
    headerReturned t header s = endLoad .badParameter s := by
  by_cases kind : imageField header 0 1 = tableKindCode t.kind
  · simp only [headerReturned, imageLength_illegal fun legal => wrong ⟨kind, legal⟩]
    cases decide (imageField header 0 1 = tableKindCode t.kind) <;> rfl
  · simp only [headerReturned, kind, decide_false]

/-- The image as it is staged when its header, of `n` entries, is in order. -/
def headedBy (header : List Byte) (n : Nat) (fetches : List (Nat × Nat)) (t : Staging) : Staging :=
  { t with
    length := some (16 + entryBytes t.kind n), image := header ++ List.replicate (entryBytes t.kind n) 0,
    outstanding := fetches.map (·.1) }

variable {n : Nat} {fetches : List (Nat × Nat)} (kind : imageField header 0 1 = tableKindCode t.kind)
  (count : imageField header 1 1 = n) (legal : CountLegal t.kind n)
  (rest : restFetches t.address (16 + entryBytes t.kind n) 4 16 = fetches)
include kind count legal rest

/-- A header in order: the rest of the image is asked for, or nothing of it lies in the address space. -/
theorem headerReturned_inOrder : headerReturned t header s =
    if fetches = [] then finishImage (headedBy header n fetches t) s
    else s.onCommand (fun c => { c with
      staging := some (headedBy header n fetches t),
      waitingReads := c.waitingReads ++ fetches.map (fun f => tableFetch t.address f.1 f.2) }) := by
  simp only [headerReturned, kind, decide_true, count, imageLength_legal legal, rest, List.isEmpty_iff,
    Nat.add_sub_cancel_left, headedBy]

end

/-- The words of an image from byte `off` on, up to the top of the address space (R141). -/
def wordsFrom (address length off : Nat) : Nat := min ((length - off) / 16) ((2 ^ 32 - (address + off)) / 16)

theorem wordsFrom_after (a l off n : Nat) : wordsFrom a l (off + 16 * n) = wordsFrom a l off - n := by
  simp only [wordsFrom]
  omega

theorem restFetches_nil {a l off : Nat} (nothing : wordsFrom a l off = 0) (fuel : Nat) : restFetches a l fuel off = [] := by
  cases fuel with
  | zero => rfl
  | succ fuel =>
    simp only [restFetches]
    exact if_pos (by rw [Nat.min_assoc]; exact (congrArg (min 32) nothing).trans (Nat.min_zero 32))

theorem restFetches_cons {a l off w : Nat} (words : min 32 (wordsFrom a l off) = w) (more : w ≠ 0) (fuel : Nat) :
    restFetches a l (fuel + 1) off = (off, w) :: restFetches a l fuel (off + 16 * w) := by
  have least : min (min Config.maxWords ((l - off) / 16)) ((Config.addressSpace - (a + off)) / 16) = w := by
    rw [Nat.min_assoc]; exact words
  simp only [restFetches, least, more, if_false]

/-- The reads of up to 48 words of an image: at most two, the first of 32 words. -/
theorem restFetches_from16 {a l w : Nat} (words : wordsFrom a l 16 = w) (few : w ≤ 48) (fuel : Nat) :
    restFetches a l (fuel + 2) 16 =
      if w = 0 then [] else if w ≤ 32 then [(16, w)] else [(16, 32), (528, w - 32)] := by
  split
  next nothing => exact restFetches_nil (words.trans nothing) _
  next some_words =>
    split
    next one_read =>
      rw [restFetches_cons (w := w) (by omega) some_words, restFetches_nil (by rw [wordsFrom_after]; omega)]
    next two_reads =>
      have second : wordsFrom a l 528 = w - 32 := by rw [← words]; exact wordsFrom_after a l 16 32
      rw [restFetches_cons (w := 32) (by omega) (by decide), show 16 + 16 * 32 = 528 from rfl,
        restFetches_cons (w := w - 32) (by omega) (by omega), restFetches_nil (by rw [wordsFrom_after]; omega)]

/-- The reads of an image's rest, by the image's length in words. -/
theorem restFetches_legal {k : TableKind} {n : Nat} (legal : CountLegal k n) {a l w : Nat}
    (length : l = 16 + entryBytes k n) (words : w = min (l / 16 - 1) ((2 ^ 32 - (a + 16)) / 16)) :
    restFetches a (16 + entryBytes k n) 4 16 =
      if w = 0 then [] else if w ≤ 32 then [(16, w)] else [(16, 32), (528, w - 32)] := by
  obtain ⟨m, few, whole⟩ := entryBytes_words legal
  rw [whole] at length ⊢
  exact restFetches_from16 (by rw [wordsFrom]; omega) (by omega) 2

/-! ### The header's return -/

section
variable {tag a : Nat} {k : TableKind} {data : List LinkWord} {s : State}
  (read : s.link.ownReads.find? (fun o => o.dtag == tag) = some { dtag := tag, purpose := .tableFetch 0 })
  (staged : s.command.staging = some (newStaging k a))
include read staged

theorem exec_tableFetchReturn_header : exec (.tableFetchReturn tag false data) s = .next (settle s
    (headerReturned { newStaging k a with outstanding := [] } ((dataBytes data).take 16) (tagFreed tag s))) :=
  exec_tableFetchReturn_staged read staged false data

theorem exec_tableFetchReturn_headerFailed {h : InHand} (hand : s.command.inHand = some h)
    (idle : s.command.waitingReads = []) : exec (.tableFetchReturn tag true data) s =
      .next (settle s (completedWith h .memoryError 0 (unstaged (tagFreed tag s)))) := by
  rw [exec_tableFetchReturn_staged read staged true data, tableReturned_failed (.inl rfl), stillInFlight_header, if_pos rfl,
    readsDropped_idle (by exact idle), endLoad_of_inHand (by exact hand)]

theorem exec_tableFetchReturn_headerWrong {h : InHand} (hand : s.command.inHand = some h)
    (wrong : ¬ (((dataBytes data)[0]?.getD 0).toNat = tableKindCode k ∧ CountLegal k ((dataBytes data)[1]?.getD 0).toNat)) :
    exec (.tableFetchReturn tag false data) s =
      .next (settle s (completedWith h .badParameter 0 (unstaged (tagFreed tag s)))) := by
  rw [exec_tableFetchReturn_header read staged, headerReturned_wrong, endLoad_of_inHand (by exact hand)]
  rwa [imageField_header _ 0 (by decide), imageField_header _ 1 (by decide)]

variable (kind : ((dataBytes data)[0]?.getD 0).toNat = tableKindCode k)
  (legal : CountLegal k ((dataBytes data)[1]?.getD 0).toNat) {t : Staging} {fetches : List (Nat × Nat)}
  (rest : restFetches a (16 + entryBytes k ((dataBytes data)[1]?.getD 0).toNat) 4 16 = fetches)
  (headed : t = headedBy ((dataBytes data).take 16) ((dataBytes data)[1]?.getD 0).toNat fetches (newStaging k a))
include kind legal rest headed

/-- What a header in order does, by the reads that are left. -/
theorem exec_tableFetchReturn_headerInOrder : exec (.tableFetchReturn tag false data) s = .next (settle s (
    if fetches = [] then finishImage t (tagFreed tag s)
    else (tagFreed tag s).onCommand (fun c => { c with
      staging := some t, waitingReads := c.waitingReads ++ fetches.map (fun f => tableFetch a f.1 f.2) }))) := by
  have outcome := headerReturned_inOrder (t := { newStaging k a with outstanding := [] }) (s := tagFreed tag s)
    ((imageField_header (dataBytes data) 0 (by decide)).trans kind) (imageField_header (dataBytes data) 1 (by decide))
    legal rest
  rw [exec_tableFetchReturn_header read staged, outcome, headed]
  rfl

theorem exec_tableFetchReturn_headerAlone (none_left : fetches = []) : exec (.tableFetchReturn tag false data) s =
    .next (settle s (finishImage t (unstaged (tagFreed tag s)))) := by
  rw [exec_tableFetchReturn_headerInOrder read staged kind legal rest headed, if_pos none_left, finishImage_unstaged]

theorem exec_tableFetchReturn_headerAsks (idle : s.command.waitingReads = []) (some_left : fetches ≠ []) :
    exec (.tableFetchReturn tag false data) s = .next (settle s ((unstaged (tagFreed tag s)).onCommand (fun c => { c with
      staging := some t, waitingReads := fetches.map (fun f => tableFetch a f.1 f.2) }))) := by
  rw [exec_tableFetchReturn_headerInOrder read staged kind legal rest headed, if_neg some_left]
  simp only [State.onCommand, tagFreed, unstaged, idle, List.nil_append]

end

/-- Settles O17: the request, the header's return, the failed and the sound returns of the rest, and the whole image by its
kind. -/
theorem loadTableFetchesChecksAndCommits : Obligations.LoadTableFetchesChecksAndCommits := by
  refine ⟨fun tag kind a s arrives => ?_, fun tag error data s => ⟨fun none_carried =>
    exec_tableFetchReturn_other none_carried error data, fun k a h hand read staged idle => ?_⟩,
    fun tag off error data t s read staged failed => ?_, fun tag off n data t s read staged known intact => ?_,
    fun t h s hand => ?_⟩
  · refine ⟨exec_loadTable_unknown tag a arrives, fun cam view => ?_, fun known free odd => ?_, fun known free even => ?_⟩
    · rw [exec_loadTable_known tag a arrives (.inl cam), if_pos ⟨cam, view⟩]
    · rw [exec_loadTable_known tag a arrives known, if_neg free, if_pos odd]
    · rw [exec_loadTable_known tag a arrives known, if_neg free, if_neg (not_not.mpr even)]
      rfl
  · intro u byte counts
    refine ⟨fun failed => ?_, fun ok wrong => ?_, fun ok program kind count aligned fits long => ?_,
      fun ok kind legal aligned below long => ?_⟩
    · rw [failed]
      exact exec_tableFetchReturn_headerFailed read staged hand idle
    · rw [ok]
      exact exec_tableFetchReturn_headerWrong read staged hand wrong
    · subst ok program
      have rest : restFetches a (16 + entryBytes .program (byte 1)) 4 16 = [(16, 1)] :=
        restFetches_legal (k := .program) (w := 1) (l := 32) count rfl (by omega)
      exact exec_tableFetchReturn_headerAsks read staged kind count rest rfl idle (List.cons_ne_nil _ _)
    · subst ok
      intro length words reads t
      have rest : restFetches a (16 + entryBytes k (byte 1)) 4 16 = reads := restFetches_legal legal rfl rfl
      have cut : length - 16 = entryBytes k (byte 1) := Nat.add_sub_cancel_left ..
      have headed : t = headedBy ((dataBytes data).take 16) (byte 1) reads (newStaging k a) := by
        simp only [t, cut]
        rfl
      exact ⟨exec_tableFetchReturn_headerAlone read staged kind legal rest headed,
        exec_tableFetchReturn_headerAsks read staged kind legal rest headed idle⟩
  · intro offset dropped left u
    have returns := exec_tableFetchReturn_staged read staged error data
    rw [tableReturned_failed failed] at returns
    refine ⟨fun h hand none_left => ?_, fun some_left => ?_⟩
    · rw [returns, if_pos (by exact none_left), endLoad_of_inHand (by exact hand)]
      rfl
    · rw [returns, if_neg (by exact some_left)]
      rfl
  · intro u bytes t'
    have returns := exec_tableFetchReturn_staged read staged false data
    rw [tableReturned_rest known intact] at returns
    refine ⟨fun last => ?_, fun more => ?_⟩
    · rw [returns, restReturned_last (by simp [last])]
      rfl
    · rw [returns, restReturned_more (by exact more)]
      rfl
  · intro image field count done refused sound
    refine ⟨fun unsound => finishImage_unsound hand unsound, ?_, ?_, ?_⟩
    · intro kind p legal
      have legal_iff : programLegal p = true ↔ legal := programLegal_iff p
      refine ⟨fun illegal => finishImage_illegal kind (commitImage_program_illegal (mt legal_iff.mp illegal)) hand,
        fun sum ok => ?_⟩
      rw [finishImage_committed sum kind (commitImage_program_legal (legal_iff.mpr ok)) hand]
      rfl
    · intro kind node inRange nodes legal zTop formed above
      have legal_iff : camLegal nodes = true ↔ legal :=
        (camLegal_range node count).trans (by simp only [camNodeLegal_iff]; rfl)
      have last : legal → zMax nodes = zTop := fun ok => zMax_range node (Nat.lt_of_lt_of_le Nat.two_pos ok.1)
      refine ⟨fun illegal => finishImage_illegal kind (commitImage_cam_illegal rfl (mt legal_iff.mp illegal)) hand,
        fun sum ok within => ?_, fun sum ok exceeds => ?_⟩
      · rw [finishImage_committed sum kind (commitImage_cam_within rfl (legal_iff.mpr ok) (last ok) within) hand]
        rfl
      · rw [finishImage_committed sum kind (commitImage_cam_above rfl (legal_iff.mpr ok) (last ok) exceeds) hand]
        rfl
    · intro kind pattern legal
      refine ⟨fun illegal => finishImage_illegal kind (commitImage_weights_illegal illegal) hand, fun sum ok => ?_⟩
      rw [finishImage_committed sum kind (commitImage_weights_legal ok) hand]
      rfl

end Sys2Proof.Machine
end

section
/-!
Move ends, step losses, lens faults and zoom notices in the Focus Controller (O45; R99, R103, R106, R108).
-/
namespace Sys2Proof.Machine
variable {s : State}

/-! ## The notice at the head of its channel -/

theorem popFocusLens_eq {n : FocusLensNotice} {rest : List FocusLensNotice} (head : s.focus.fromLens = n :: rest) :
    popFocusLens s = { s with focus := { s.focus with fromLens := rest } } := by
  simp [popFocusLens, State.onFocus, head]

theorem popFocusZoom_eq {n : FocusZoomNotice} {rest : List FocusZoomNotice} (head : s.focus.fromZoom = n :: rest) :
    popFocusZoom s = { s with focus := { s.focus with fromZoom := rest } } := by
  simp [popFocusZoom, State.onFocus, head]

theorem focusMoveEnd_notDue (h : ∀ reached p rest, s.focus.fromLens ≠ .moveEnd reached p :: rest) :
    exec .focusMoveEnd s = .next s := by
  simp only [exec, execFocusMoveEnd]; rfl

theorem focusStepLoss_notDue (h : ∀ m rest, s.focus.fromLens ≠ .stepLoss m :: rest) :
    exec .focusStepLoss s = .next s := by
  simp only [exec, execFocusStepLoss]; rfl

theorem lensFault_notDue (h : ∀ rest, s.focus.fromLens ≠ .fault :: rest) : exec .lensFault s = .next s := by
  simp only [exec, execLensFault]; rfl

theorem zoomStarted_notDue (h : ∀ rest, s.focus.fromZoom ≠ .started :: rest) : exec .zoomStarted s = .next s := by
  simp only [exec, execZoomStarted]; rfl

theorem zoomStopped_notDue (h : ∀ rest, s.focus.fromZoom ≠ .stopped :: rest) : exec .zoomStopped s = .next s := by
  simp only [exec, execZoomStopped]; rfl

/-- The move end at the head is taken, and acts on the state without it. -/
theorem focusMoveEnd_due {reached : Bool} {p : Nat} {rest : List FocusLensNotice} {u : State}
    (head : s.focus.fromLens = .moveEnd reached p :: rest)
    (acts : focusMoveEndWork reached { s with focus := { s.focus with fromLens := rest } } = u) :
    exec .focusMoveEnd s = .next (settle s u) := by
  simp only [exec, execFocusMoveEnd, head, popFocusLens_eq head, acts, finish]

/-- The step loss at the head is taken, and abandons a sweeping search (R106). -/
theorem focusStepLoss_due {m : Motor} {rest : List FocusLensNotice} (head : s.focus.fromLens = .stepLoss m :: rest) :
    let taken := { s with focus := { s.focus with fromLens := rest } }
    exec .focusStepLoss s = .next (settle s
      (if s.focus.search.sweeping then abandonSearch true { cause := .stepLoss } taken else taken)) := by
  simp only [exec, execFocusStepLoss, head, popFocusLens_eq head, finish]

/-- The lens fault at the head is taken, and acts on the state without it. -/
theorem lensFault_due {rest : List FocusLensNotice} {u : State} (head : s.focus.fromLens = .fault :: rest)
    (acts : lensFaultWork { s with focus := { s.focus with fromLens := rest } } = u) :
    exec .lensFault s = .next (settle s u) := by
  simp only [exec, execLensFault, head, popFocusLens_eq head, acts, finish]

/-- The zoom start at the head is taken, and acts on the state without it. -/
theorem zoomStarted_due {rest : List FocusZoomNotice} {u : State} (head : s.focus.fromZoom = .started :: rest)
    (acts : zoomStartedWork { s with focus := { s.focus with fromZoom := rest } } = u) :
    exec .zoomStarted s = .next (settle s u) := by
  simp only [exec, execZoomStarted, head, popFocusZoom_eq head, acts, finish]

/-- The zoom end at the head is taken, and acts on the state without it. -/
theorem zoomStopped_due {rest : List FocusZoomNotice} {u : State} (head : s.focus.fromZoom = .stopped :: rest)
    (acts : zoomStoppedWork { s with focus := { s.focus with fromZoom := rest } } = u) :
    exec .zoomStopped s = .next (settle s u) := by
  simp only [exec, execZoomStopped, head, popFocusZoom_eq head, acts, finish]

/-! ## What each notice does (R99, R103, R106, R108) -/

theorem holding_iff {x : SearchState} : x.holding = true ↔ x = .locked ∨ x = .monitor := by
  cases x <;> simp [SearchState.holding]

/-- A search state neither sweeps nor holds exactly in IDLE and FAILED (R95). -/
theorem resting_iff {x : SearchState} : x.sweeping = false ∧ x.holding = false ↔ x = .idle ∨ x = .failed := by
  cases x <;> simp [SearchState.sweeping, SearchState.holding]

theorem holding_not_sweeping {x : SearchState} (h : x.holding = true) : x.sweeping = false := by
  rcases holding_iff.mp h with rfl | rfl <;> rfl

/-- A move end clears the move mark and does nothing more, unless the own move has reached its target in PEAK (R99). -/
theorem focusMoveEndWork_clears {reached : Bool}
    (h : ¬ (s.focus.moveMark = true ∧ reached = true ∧ s.focus.search = .peak)) :
    focusMoveEndWork reached s = s.onFocus (fun f => { f with moveMark := false }) := by
  cases marked : s.focus.moveMark with
  | false =>
    have same : { s.focus with moveMark := false } = s.focus := by rw [← marked]
    simp [focusMoveEndWork, marked, State.onFocus, same]
  | true =>
    have stays : ¬ (reached = true ∧ s.focus.search = .peak) := fun locks => h ⟨marked, locks⟩
    simp [focusMoveEndWork, marked, stays]

/-- The own move that reaches its target in PEAK ends the search (R103). -/
theorem focusMoveEndWork_locks (marked : s.focus.moveMark = true) (peak : s.focus.search = .peak) :
    focusMoveEndWork true s = reportFocus .peak { cause := .locked, peakOrStep := s.focus.peakTarget } { s with
      zoom := { s.zoom with fromFocus := s.zoom.fromFocus ++ [.position s.focus.peakTarget] },
      focus := { s.focus with
        moveMark := false, search := if s.focus.mode = .continuous then .monitor else .locked, aeHold := false,
        baselinePending := true, zoomPause := false, dropRun := 0, samples := [], plan := [] } } := by
  have ends : focusMoveEndWork true s = lockFocus (s.onFocus (fun f => { f with moveMark := false })) := by
    simp [focusMoveEndWork, marked, peak]
  rw [ends, ← peak]
  rfl

theorem lensFaultWork_idle (idle : s.focus.search = .idle) : lensFaultWork s = s := if_pos idle

theorem lensFaultWork_fails (h : s.focus.search ≠ .idle) : lensFaultWork s =
    reportFocus s.focus.search { cause := .lensFault } { s with focus := s.focus.settleIn .failed } := if_neg h

/-- The zoom's start abandons a sweeping search; its own move is not stopped (R106). -/
theorem zoomStartedWork_sweeping (sweeps : s.focus.search.sweeping = true) : zoomStartedWork s =
    reportFocus s.focus.search { cause := .zoom } { s with focus := s.focus.settleIn .idle } := if_pos sweeps

/-- The zoom's start pauses LOCKED and MONITOR and drops the reference (R108). -/
theorem zoomStartedWork_holding (holds : s.focus.search.holding = true) : zoomStartedWork s =
    focusAsksExposure .drop (s.onFocus (fun f => { f with moveMark := false, zoomPause := true, dropRun := 0 })) := by
  simp [zoomStartedWork, holding_not_sweeping holds, holds]

theorem zoomStartedWork_resting (rests : s.focus.search = .idle ∨ s.focus.search = .failed) : zoomStartedWork s =
    s.onFocus (fun f => { f with moveMark := false }) := by
  obtain ⟨still, free⟩ := resting_iff.mpr rests
  simp [zoomStartedWork, still, free]

/-- Settles O45: each row by the kind of the oldest notice, and each notice by the search state. -/
theorem focusActsOnLensAndZoomNotices : Obligations.FocusActsOnLensAndZoomNotices := by
  intro s f sweeping holding resting stopped
  have sweeps_iff : f.search.sweeping = true ↔ sweeping := sweeping_iff
  have holds_iff : f.search.holding = true ↔ holding := holding_iff
  refine ⟨focusMoveEnd_notDue, fun reached p rest head => ?_, focusStepLoss_notDue, fun m rest head => ?_,
    lensFault_notDue, fun rest head => ?_, zoomStarted_notDue, fun rest head => ?_, zoomStopped_notDue,
    fun rest head => ?_⟩
  · intro g locks
    refine ⟨fun clears => focusMoveEnd_due head (focusMoveEndWork_clears clears), fun ⟨marked, reaches, peak⟩ => ?_⟩
    subst reaches
    exact focusMoveEnd_due head (focusMoveEndWork_locks (s := { s with focus := g }) marked peak)
  · intro g
    rw [focusStepLoss_due head]
    refine ⟨fun sweeps => ?_, fun still => ?_⟩
    · rw [if_pos (sweeps_iff.mpr sweeps), abandonSearch_eq]
      rfl
    · rw [if_neg (mt sweeps_iff.mp still)]
  · intro g
    exact ⟨fun idle => lensFault_due head (lensFaultWork_idle idle),
      fun acts => lensFault_due head (lensFaultWork_fails acts)⟩
  · intro g
    exact ⟨fun sweeps => zoomStarted_due head (zoomStartedWork_sweeping (sweeps_iff.mpr sweeps)),
      fun holds => zoomStarted_due head (zoomStartedWork_holding (holds_iff.mpr holds)),
      fun rests => zoomStarted_due head (zoomStartedWork_resting rests)⟩
  · intro g
    exact ⟨fun holds => zoomStopped_due head (if_pos (holds_iff.mpr holds)),
      fun free => zoomStopped_due head (if_neg (mt holds_iff.mp free))⟩

end Sys2Proof.Machine
end

section
/-!
START FOCUS, CANCEL FOCUS and MOVE FOCUS (O12; R99, R100, R109).
-/
namespace Sys2Proof.Machine
variable {s : State}

/-- A host command whose record arrives has its work's effect on the state with the command in hand (R152). -/
theorem runCommand_leaves {code tag : BitVec 16} {work : State → State} {u : State} (arrives : CommandArrives s)
    (acts : work (executing code tag s) = u) : runCommand code tag work s = .next (settle s u) := by
  rw [runCommand_of_arrives code tag work arrives, acts]

/-! ## START FOCUS (R100) -/

theorem searchReady_iff : searchReady s = true ↔
    s.command.mode = .view ∧ s.lens.mode = .ready ∧ s.zoom.derived ≠ none ∧ s.focus.mode ≠ .manual := by
  simp [searchReady, lensReady, Option.isSome_iff_ne_none, and_assoc]

/-- What the steps of START FOCUS leave (R100). -/
theorem startSearch_eq (n : FocusNote) {d : Derived} (derived : s.zoom.derived = some d) :
    startSearch n s = reportFocus s.focus.search n { s with focus := { s.focus with
      samples := [], best := none, plan := [], framesUsed := 0, farRun := 0, lastFailure := .noReason,
      forward := decide (s.zoom.u ≤ 512), coarseStep := d.coarse, sweep := 1, startPosition := s.lens.focus.position,
      lockFigure := 0, baselinePending := false, baselineSet := 0, zoomPause := false, dropRun := 0, aeHold := true,
      search := .coarse } } := by
  simp [startSearch, State.onFocus, derived]

theorem startFocusWork_refused (h : searchReady s = false) : startFocusWork s = refuse .notReady s := by
  simp [startFocusWork, h]

theorem startFocusWork_conflict (h : searchReady s = true) (moves : s.zoom.moving = true) :
    startFocusWork s = refuse .conflict s := by
  simp [startFocusWork, h, moves]

theorem startFocusWork_starts (h : searchReady s = true) (still : s.zoom.moving = false) :
    startFocusWork s = completeDone (startSearch { cause := .start } s) := by
  simp [startFocusWork, h, still]

/-! ## CANCEL FOCUS (R109) -/

/-- The own move is asked to stop if its move mark is set, and the mark is clear then (R99). -/
theorem stopOwnMove_eq (s : State) : stopOwnMove s = { s with
    lens := if s.focus.moveMark then { s.lens with fromFocus := s.lens.fromFocus ++ [.stop .focus .plain] } else s.lens,
    focus := { s.focus with moveMark := false } } := by
  cases marked : s.focus.moveMark with
  | true => simp [stopOwnMove, marked, focusAsksLens, State.onFocus]
  | false =>
    have same : { s.focus with moveMark := false } = s.focus := by rw [← marked]
    simp [stopOwnMove, marked, same]

/-- What leaving LOCKED, MONITOR or FAILED for IDLE leaves: the reference is dropped (R106, R109). -/
theorem leaveLock_eq (n : FocusNote) (s : State) : leaveLock n s = reportFocus s.focus.search n { s with
    focus := s.focus.settleIn .idle,
    exposure := { s.exposure with messages := s.exposure.messages ++ [.drop] } } := rfl

theorem cancelFocusWork_idle (idle : s.focus.search = .idle) : cancelFocusWork s = completeDone s := by
  simp [cancelFocusWork, idle, SearchState.sweeping]

theorem cancelFocusWork_sweeping (sweeps : s.focus.search.sweeping = true) :
    cancelFocusWork s = completeDone (abandonSearch true { cause := .cancelled } s) := by
  simp [cancelFocusWork, sweeps]

theorem cancelFocusWork_leaves (still : s.focus.search.sweeping = false) (busy : s.focus.search ≠ .idle) :
    cancelFocusWork s = completeDone
      (leaveLock { cause := .cancelled } ((stopOwnMove s).onFocus FocusController.clearLock)) := by
  simp [cancelFocusWork, still, busy]

/-- CANCEL FOCUS from LOCKED, MONITOR or FAILED: the own move is stopped, and the lock values are cleared (R109). -/
theorem leaveLock_cancelled (s : State) :
    leaveLock { cause := .cancelled } ((stopOwnMove s).onFocus FocusController.clearLock) =
      reportFocus s.focus.search { cause := .cancelled } { s with
        lens := if s.focus.moveMark then { s.lens with fromFocus := s.lens.fromFocus ++ [.stop .focus .plain] } else s.lens,
        focus := (s.focus.settleIn .idle).clearLock,
        exposure := { s.exposure with messages := s.exposure.messages ++ [.drop] } } := by
  rw [leaveLock_eq, stopOwnMove_eq]
  rfl

theorem leaves_iff {x : SearchState} :
    x.sweeping = false ∧ x ≠ .idle ↔ x = .locked ∨ x = .monitor ∨ x = .failed := by
  cases x <;> simp [SearchState.sweeping]

/-! ## MOVE FOCUS (R109) -/

/-- A focus position clamped to the range in force (R99). -/
theorem clampFocus_eq {d : Derived} (derived : s.zoom.derived = some d) (range : d.pInf ≤ d.pNear) (p : Int) :
    clampFocus s p = (max (d.pInf : Int) (min p d.pNear)).toNat := by
  simp only [clampFocus, derived, clampInt_eq (Int.ofNat_le.mpr range), min_comm]

theorem clampFocus_natCast {d : Derived} (derived : s.zoom.derived = some d) (range : d.pInf ≤ d.pNear)
    (p : Nat) : clampFocus s p = max d.pInf (min p d.pNear) := by
  rw [clampFocus_eq derived range]
  omega

theorem moveReady_iff : (lensReady s && s.zoom.derived.isSome) = true ↔
    s.lens.mode = .ready ∧ s.zoom.derived ≠ none := by
  simp [lensReady, Option.isSome_iff_ne_none]

theorem moveFocusWork_refused (p : Nat) (h : ¬ (s.lens.mode = .ready ∧ s.zoom.derived ≠ none)) :
    moveFocusWork p s = refuse .notReady s := if_neg (mt moveReady_iff.mp h)

theorem moveFocusWork_conflict (p : Nat) (h : s.lens.mode = .ready ∧ s.zoom.derived ≠ none)
    (sweeps : s.focus.search.sweeping = true) : moveFocusWork p s = refuse .conflict s :=
  (if_pos (moveReady_iff.mpr h)).trans (if_pos sweeps)

theorem moveFocusWork_sends (p : Nat) {c : Nat} (clamped : clampFocus s p = c)
    (h : s.lens.mode = .ready ∧ s.zoom.derived ≠ none) (still : ¬ s.focus.search.sweeping = true) :
    moveFocusWork p s = sendFocus c (.moveFocus c (decide (c ≠ p))) s := by
  subst clamped
  exact (if_pos (moveReady_iff.mpr h)).trans (if_neg still)

/-- Settles O12: each command by its tests, and CANCEL FOCUS by the search state. -/
theorem focusCommandsStartCancelAndMove : Obligations.FocusCommandsStartCancelAndMove := by
  refine ⟨fun tag s arrives => ?_, fun tag s arrives => ?_, fun tag p s arrives => ?_⟩
  · intro ready
    let arrived : State := executing 0x0603 tag s
    have ready_iff : searchReady arrived = true ↔ ready := searchReady_iff
    exact ⟨fun refused => runCommand_leaves arrives
        (startFocusWork_refused (Bool.eq_false_iff.mpr (mt ready_iff.mp refused))),
      fun may moves => runCommand_leaves arrives (startFocusWork_conflict (ready_iff.mpr may) moves),
      fun d may derived still => runCommand_leaves arrives ((startFocusWork_starts (ready_iff.mpr may) still).trans
        (congrArg completeDone (startSearch_eq (s := arrived) _ derived)))⟩
  · intro f stopped idle
    let arrived : State := executing 0x0604 tag s
    refine ⟨fun rests => runCommand_leaves arrives (cancelFocusWork_idle rests), fun sweeps => ?_, fun leaves => ?_⟩
    · exact runCommand_leaves arrives ((cancelFocusWork_sweeping (s := arrived) (sweeping_iff.mpr sweeps)).trans
        (congrArg completeDone (abandonSearch_eq _)))
    · obtain ⟨still, busy⟩ := leaves_iff.mpr leaves
      exact runCommand_leaves arrives ((cancelFocusWork_leaves (s := arrived) still busy).trans
        (congrArg completeDone (leaveLock_cancelled arrived)))
  · intro ready sweeping
    exact ⟨fun refused => runCommand_leaves arrives (moveFocusWork_refused _ refused),
      fun may sweeps => runCommand_leaves arrives (moveFocusWork_conflict _ may (sweeping_iff.mpr sweeps)),
      fun d may still derived range => runCommand_leaves arrives (moveFocusWork_sends _
        (clampFocus_natCast derived range _) may (mt sweeping_iff.mp still))⟩

end Sys2Proof.Machine
end

section
/-!
SET FOCUS MODE and SET FOCUS WINDOWS (O7; R96, R110).
-/
namespace Sys2Proof.Machine
variable {s : State}

/-! ## SET FOCUS MODE (R110) -/

theorem focusModeOf_eq_none : ∀ {n : Nat}, 2 < n → focusModeOf n = none
  | _ + 3, _ => rfl

theorem focusModeOf_toNat {mode : BitVec 8} (h : mode.toNat ≤ 2) :
    focusModeOf mode.toNat = some (if mode = 0 then .single else if mode = 1 then .continuous else .manual) := by
  have cases : mode = 0 ∨ mode = 1 ∨ mode = 2 := by bv_omega
  rcases cases with rfl | rfl | rfl <;> rfl

theorem focusParamsLegal_iff {drop monitorDrop fallback : Nat} : focusParamsLegal drop monitorDrop fallback = true ↔
    1 ≤ drop ∧ drop ≤ 128 ∧ 1 ≤ monitorDrop ∧ monitorDrop ≤ 128 ∧ fallback ≤ 1024 := by
  simp only [focusParamsLegal, Bool.and_eq_true, decide_eq_true_eq, and_assoc]

section
variable {mode drop monitorDrop contrastFloor fallback : Nat}

theorem setFocusModeWork_conflict (sweeps : s.focus.search.sweeping = true) :
    setFocusModeWork mode drop monitorDrop contrastFloor fallback s = refuse .conflict s := if_pos sweeps

theorem setFocusModeWork_refused (still : s.focus.search.sweeping = false)
    (illegal : ¬ (mode ≤ 2 ∧ focusParamsLegal drop monitorDrop fallback = true)) :
    setFocusModeWork mode drop monitorDrop contrastFloor fallback s = refuse .badParameter s := by
  rcases Decidable.not_and_iff_or_not.mp illegal with above | illegal
  · simp [setFocusModeWork, still, focusModeOf_eq_none (Nat.lt_of_not_le above)]
  · simp [setFocusModeWork, still, illegal]

/-- Every value is written before the mode acts on the search state (R110). -/
theorem setFocusModeWork_applies {m : FocusMode} (still : s.focus.search.sweeping = false)
    (named : focusModeOf mode = some m) (legal : focusParamsLegal drop monitorDrop fallback = true) :
    setFocusModeWork mode drop monitorDrop contrastFloor fallback s = completeDone (applyFocusMode m { s with focus :=
      { s.focus with mode := m, drop := drop, monitorDrop := monitorDrop, contrastFloor := contrastFloor,
                     fallback := fallback } }) := by
  simp [setFocusModeWork, still, named, legal, State.onFocus]

end

section
variable {m : FocusMode}

/-- CONTINUOUS turns a lock into a monitor (R110). -/
theorem applyFocusMode_locked (locked : s.focus.search = .locked) (hm : m = .continuous) : applyFocusMode m s =
    reportFocus .locked { cause := .mode } { s with focus := { s.focus with search := .monitor, dropRun := 0 } } := by
  simp [applyFocusMode, locked, hm, State.onFocus]

/-- SINGLE turns a monitor into a lock (R110). -/
theorem applyFocusMode_monitor (monitor : s.focus.search = .monitor) (hm : m = .single) : applyFocusMode m s =
    reportFocus .monitor { cause := .mode } { s with focus := { s.focus with search := .locked } } := by
  simp [applyFocusMode, monitor, hm, State.onFocus]

/-- MANUAL leaves LOCKED and MONITOR (R110). -/
theorem applyFocusMode_leaves (holds : s.focus.search = .locked ∨ s.focus.search = .monitor) (hm : m = .manual) :
    applyFocusMode m s = leaveLock { cause := .mode } s := by
  rcases holds with held | held <;> simp [applyFocusMode, held, hm]

/-- MANUAL leaves FAILED (R110). -/
theorem applyFocusMode_failed (failed : s.focus.search = .failed) (hm : m = .manual) : applyFocusMode m s =
    reportFocus .failed { cause := .mode } { s with focus := s.focus.settleIn .idle } := by
  simp [applyFocusMode, failed, hm, State.onFocus]

/-- Every other mode leaves the search state alone (R110). -/
theorem applyFocusMode_keeps (h : s.focus.search = .idle ∨ (s.focus.search = .locked ∧ m = .single) ∨
      (s.focus.search = .monitor ∧ m = .continuous) ∨ (s.focus.search = .failed ∧ m ≠ .manual)) :
    applyFocusMode m s = s := by
  rcases h with idle | ⟨locked, rfl⟩ | ⟨monitor, rfl⟩ | ⟨failed, ne⟩
  · simp [applyFocusMode, idle]
  · simp [applyFocusMode, locked]
  · simp [applyFocusMode, monitor]
  · cases m with
    | manual => exact absurd rfl ne
    | single | continuous => simp [applyFocusMode, failed]

end

/-! ## SET FOCUS WINDOWS (R96) -/

/-- An entry is refused when it is enabled with a rectangle that is too small, or that a valid configuration does not hold
(R96). -/
theorem windowLegal_windowOf {w : WindowArg} : windowLegal s (windowOf w) = true ↔
    ¬ (w.enable ≠ 0 ∧ ¬ (w.width = 0 ∧ w.height = 0) ∧
      (w.width.toNat < 16 ∨ w.height.toNat < 16 ∨ s.command.valid = true ∧
        (s.command.config.width / 2 < w.x.toNat + w.width.toNat ∨
          s.command.config.height / 2 < w.y.toNat + w.height.toNat))) := by
  by_cases on : w.enable = 0
  · simp [windowLegal, windowOf, on]
  · by_cases auto : w.width = 0 ∧ w.height = 0
    · simp [windowLegal, windowOf, auto]
    · simp only [windowLegal, windowOf, auto, on, ne_eq, not_false_eq_true, decide_true, if_false, Rect.inside,
        Bool.and_eq_true, Bool.or_eq_true, Bool.not_eq_true', decide_eq_true_eq, true_and, not_or, not_and, not_lt]
      cases s.command.valid <;> simp [and_assoc]

section
variable {ws : List FocusWindow}

theorem setFocusWindowsWork_conflict (sweeps : s.focus.search.sweeping = true) :
    setFocusWindowsWork ws s = refuse .conflict s := if_pos sweeps

theorem setFocusWindowsWork_refused (still : s.focus.search.sweeping = false) (wrong : ¬ ws.all (windowLegal s) = true) :
    setFocusWindowsWork ws s = refuse .badParameter s := by
  simp only [setFocusWindowsWork, still, wrong]; rfl

/-- In LOCKED and MONITOR the new windows set the baseline-pending mark, for a sample measured with them (R96). -/
theorem setFocusWindowsWork_holding (holds : s.focus.search.holding = true) (legal : ws.all (windowLegal s) = true) :
    setFocusWindowsWork ws s = completeDone { s with focus := { s.focus with
      windows := ws, windowSet := s.focus.windowSet + 1, baselinePending := true,
      baselineSet := s.focus.windowSet + 1 } } := by
  simp [setFocusWindowsWork, holding_not_sweeping holds, legal, holds, State.onFocus]

theorem setFocusWindowsWork_free (still : s.focus.search.sweeping = false) (free : s.focus.search.holding = false)
    (legal : ws.all (windowLegal s) = true) : setFocusWindowsWork ws s = completeDone { s with focus :=
      { s.focus with windows := ws, windowSet := s.focus.windowSet + 1 } } := by
  simp [setFocusWindowsWork, still, legal, free, State.onFocus]

end

/-- Settles O7: the checks of each command, then the mode by the search state, and the windows by whether it holds. -/
theorem focusParametersActOnTheSearch : Obligations.FocusParametersActOnTheSearch := by
  refine ⟨fun tag mode drop mdrop floor fallback s arrives => ?_, fun tag w0 w1 w2 w3 w4 s arrives => ?_⟩
  · intro out legal m u sweeping idle
    let arrived : State := executing 0x0601 tag s
    let written : State := executing 0x0601 tag u
    have still_iff : s.focus.search.sweeping = false ↔ ¬ sweeping := Bool.eq_false_iff.trans sweeping_iff.not
    have legal_iff : (mode.toNat ≤ 2 ∧ focusParamsLegal drop.toNat mdrop.toNat fallback.toNat = true) ↔ legal :=
      and_congr_right' focusParamsLegal_iff
    refine ⟨fun sweeps => runCommand_leaves arrives (setFocusModeWork_conflict (sweeping_iff.mpr sweeps)),
      fun still illegal => runCommand_leaves arrives
        (setFocusModeWork_refused (still_iff.mpr still) (mt legal_iff.mp illegal)), fun still ok => ?_⟩
    obtain ⟨known, ranges⟩ := legal_iff.mpr ok
    have applies {v : State} (acts : applyFocusMode m written = executing 0x0601 tag v) :
        out = .next (settle s (answered 0x0601 tag .done 0 v)) :=
      runCommand_leaves arrives ((setFocusModeWork_applies (s := arrived) (still_iff.mpr still) (focusModeOf_toNat known)
        ranges).trans (congrArg completeDone acts))
    exact ⟨fun locked hm => applies (applyFocusMode_locked locked hm),
      fun monitor hm => applies (applyFocusMode_monitor monitor hm),
      fun holds hm => applies ((applyFocusMode_leaves (s := written) holds hm).trans (leaveLock_eq _ _)),
      fun failed hm => applies (applyFocusMode_failed failed hm), fun same => applies (applyFocusMode_keeps same)⟩
  · intro out args auto wrong rect entry sweeping holding
    let arrived : State := executing 0x0602 tag s
    have still_iff : s.focus.search.sweeping = false ↔ ¬ sweeping := Bool.eq_false_iff.trans sweeping_iff.not
    have legal_iff : (args.map windowOf).all (windowLegal arrived) = true ↔ ∀ w ∈ args, ¬ wrong w := by
      rw [List.all_map, List.all_eq_true]
      exact forall₂_congr fun _ _ => windowLegal_windowOf
    refine ⟨fun sweeps => runCommand_leaves arrives (setFocusWindowsWork_conflict (sweeping_iff.mpr sweeps)),
      fun still ⟨w, mem, bad⟩ => runCommand_leaves arrives
        (setFocusWindowsWork_refused (still_iff.mpr still) fun ok => legal_iff.mp ok w mem bad), fun still ok => ?_⟩
    exact ⟨fun holds => runCommand_leaves arrives
        (setFocusWindowsWork_holding (s := arrived) (holding_iff.mpr holds) (legal_iff.mpr ok)),
      fun free => runCommand_leaves arrives (setFocusWindowsWork_free (s := arrived) (still_iff.mpr still)
        (Bool.eq_false_iff.mpr (mt holding_iff.mp free)) (legal_iff.mpr ok))⟩

end Sys2Proof.Machine
end

section
/-!
A frame in the Focus Controller (R97, R98, R105): the validity chain, the count and the frame limit, and the failed search.
-/
namespace Sys2Proof.Machine

/-! ## The validity chain (R98) -/

/-- A window latched as enabled is as bright as the dark floor (R98). -/
abbrev Lit (r : StatRecord) : Prop := ∃ w ∈ r.windows, w.enabled = true ∧ r.darkFloor ≤ w.mean

/-- The focus motor stood still over the frame (R98). -/
abbrev FocusStill (a : Announcement) : Prop := a.moving.focus = false ∧ a.focusSettled = true

/-- The frame gives a valid sample (R98). -/
abbrev ValidSample (a : Announcement) (r : StatRecord) : Prop :=
  a.torn = false ∧ FocusStill a ∧ a.moving.zoom = false ∧ Lit r

/-- The brightest enabled window met so far. -/
def brighter (b : Option Nat) (w : WindowValue) : Option Nat :=
  if w.enabled then some (max (b.getD 0) w.mean) else b

theorem brightestWindow_eq (ws : List WindowValue) : brightestWindow ws = ws.foldl brighter none := rfl

theorem foldl_brighter_reaches (floor : Nat) (ws : List WindowValue) : ∀ b : Option Nat,
    (∃ m, ws.foldl brighter b = some m ∧ floor ≤ m) ↔
      (∃ m, b = some m ∧ floor ≤ m) ∨ ∃ w ∈ ws, w.enabled = true ∧ floor ≤ w.mean := by
  induction ws with
  | nil => simp
  | cons w ws ih =>
    intro b
    have step : (∃ m, brighter b w = some m ∧ floor ≤ m) ↔
        (∃ m, b = some m ∧ floor ≤ m) ∨ (w.enabled = true ∧ floor ≤ w.mean) := by
      cases b <;> by_cases on : w.enabled = true <;> simp [brighter, on]
    simp only [List.foldl_cons, ih, step, List.exists_mem_cons_iff, or_assoc]

/-- The brightest enabled window reaches the dark floor exactly when some enabled window does (R98). -/
theorem brightestWindow_reaches (r : StatRecord) :
    (∃ m, brightestWindow r.windows = some m ∧ r.darkFloor ≤ m) ↔ Lit r := by
  simp [brightestWindow_eq, foldl_brighter_reaches]

section
variable {a : Announcement} {r : StatRecord}

theorem focusFailure_torn (torn : a.torn = true) : focusFailure a r = .torn := by simp [focusFailure, torn]

theorem focusFailure_moving (intact : a.torn = false) (moves : ¬ FocusStill a) : focusFailure a r = .focusMoving := by
  have test : (a.moving.focus || !a.focusSettled) = true := by
    cases h : a.moving.focus <;> simp_all [FocusStill]
  simp [focusFailure, intact, test]

theorem focusFailure_still (intact : a.torn = false) (still : FocusStill a) : focusFailure a r =
    if a.moving.zoom then .zoomMoving else
      match brightestWindow r.windows with
      | some m => if m < r.darkFloor then .dark else .noReason
      | none => .dark := by
  obtain ⟨rests, settled⟩ := still
  simp only [focusFailure, intact, rests, settled]
  rfl

theorem focusFailure_zoom (intact : a.torn = false) (still : FocusStill a) (zooms : a.moving.zoom = true) :
    focusFailure a r = .zoomMoving := by
  rw [focusFailure_still intact still, if_pos zooms]

theorem focusFailure_dark (intact : a.torn = false) (still : FocusStill a) (steady : a.moving.zoom = false)
    (dark : ¬ Lit r) : focusFailure a r = .dark := by
  rw [focusFailure_still intact still, if_neg (by simp [steady])]
  have low := (brightestWindow_reaches r).not.mpr dark
  cases brightest : brightestWindow r.windows with
  | none => rfl
  | some m => exact if_pos (Nat.lt_of_not_le fun high => low ⟨m, brightest, high⟩)

theorem focusFailure_valid (valid : ValidSample a r) : focusFailure a r = .noReason := by
  obtain ⟨intact, still, steady, lit⟩ := valid
  obtain ⟨m, brightest, high⟩ := (brightestWindow_reaches r).mpr lit
  rw [focusFailure_still intact still, if_neg (by simp [steady]), brightest]
  exact if_neg (Nat.not_lt.mpr high)

/-- The chain names a reason exactly for a frame that gives no valid sample (R98). -/
theorem focusFailure_invalid (invalid : ¬ ValidSample a r) : focusFailure a r ≠ .noReason := by
  cases torn : a.torn with
  | true => simp [focusFailure_torn torn]
  | false =>
    by_cases still : FocusStill a
    · cases zooms : a.moving.zoom with
      | true => simp [focusFailure_zoom torn still zooms]
      | false =>
        have dark : ¬ Lit r := fun lit => invalid ⟨torn, still, zooms, lit⟩
        simp [focusFailure_dark torn still zooms dark]
    · simp [focusFailure_moving torn still]

end

/-! ## The oldest frame is taken (R97, R105) -/

section
variable {s u : State} {a : Announcement} {r : StatRecord} {rest : List WorkItem}

theorem focusWork_notDue (h : ∀ a r rest, s.focus.work ≠ { notice := a, stats := some r } :: rest) :
    exec .focusCompletionWork s = .next s ∧ exec .focusFrameLimit s = .next s := by
  simp only [exec, execFocusCompletionWork, execFocusFrameLimit]
  exact ⟨rfl, rfl⟩

theorem focusCompletionWork_due (head : s.focus.work = { notice := a, stats := some r } :: rest)
    (acts : focusWork a r { s with focus := { s.focus with work := rest } } = u) :
    exec .focusCompletionWork s = .next (settle s u) := by
  simp only [exec, execFocusCompletionWork, head, finish, ← acts]
  rfl

theorem focusFrameLimit_due (head : s.focus.work = { notice := a, stats := some r } :: rest)
    (view : s.command.mode = .view) (sweeps : s.focus.search.sweeping = true) (full : 96 ≤ s.focus.framesUsed)
    (acts : countFrame a r { s with focus := { s.focus with work := rest } } = u) :
    exec .focusFrameLimit s = .next (settle s u) := by
  have last : Config.frameLimit ≤ s.focus.framesUsed + 1 := Nat.succ_le_succ full
  simp only [exec, execFocusFrameLimit, head, view, sweeps, last, and_self, if_true, finish, ← acts]
  rfl

theorem focusFrameLimit_below (head : s.focus.work = { notice := a, stats := some r } :: rest)
    (below : ¬ ((s.command.mode = .view ∧ s.focus.search.sweeping = true) ∧ 96 ≤ s.focus.framesUsed)) :
    exec .focusFrameLimit s = .next s := by
  have test : ¬ (s.command.mode = .view ∧ s.focus.search.sweeping = true ∧
      Config.frameLimit ≤ s.focus.framesUsed + 1) :=
    fun ⟨view, sweeps, last⟩ => below ⟨⟨view, sweeps⟩, Nat.le_of_succ_le_succ last⟩
  simp only [exec, execFocusFrameLimit, head, if_neg test, notDue]

end

/-! ## What a frame does, by the search state (R97) -/

section
variable {s : State} {a : Announcement} {r : StatRecord}

theorem focusWork_ignored (h : s.command.mode ≠ .view ∨ s.focus.search = .idle ∨ s.focus.search = .failed) :
    focusWork a r s = s := by
  cases mode : s.command.mode with
  | standby => simp [focusWork, mode]
  | view =>
    obtain ⟨still, free⟩ := resting_iff.mpr (h.resolve_left (not_not.mpr mode))
    simp [focusWork, mode, still, free]

theorem focusWork_sweeping (view : s.command.mode = .view) (sweeps : s.focus.search.sweeping = true) :
    focusWork a r s = countFrame a r s := by
  simp [focusWork, view, sweeps]

/-- In LOCKED and MONITOR a frame while the own move runs, or one that gives no valid sample, does nothing (R104). -/
theorem focusWork_unusable (view : s.command.mode = .view) (holds : s.focus.search.holding = true)
    (h : s.focus.moveMark = true ∨ ¬ ValidSample a r) : focusWork a r s = s := by
  simp only [focusWork, view, holding_not_sweeping holds, holds]
  rcases h with marked | invalid
  · simp [marked]
  · have reason := focusFailure_invalid invalid
    cases s.focus.moveMark <;> simp

theorem focusWork_holding (view : s.command.mode = .view) (holds : s.focus.search.holding = true)
    (unmarked : s.focus.moveMark = false) (valid : ValidSample a r) :
    focusWork a r s = holdingSample (sampleOf s a r) r s := by
  simp [focusWork, view, holding_not_sweeping holds, holds, unmarked, focusFailure_valid valid]

/-- The 97th frame of a search ends it (R105). -/
theorem countFrame_full (full : 96 ≤ s.focus.framesUsed) : countFrame a r s =
    failSearch { cause := .timeout, reason := s.focus.lastFailure, frame := a.frame }
      (s.onFocus (fun f => { f with framesUsed := f.framesUsed + 1 })) :=
  if_pos (Nat.succ_le_succ full)

theorem countFrame_below (below : s.focus.framesUsed < 96) : countFrame a r s =
    sweepFrame a r (s.onFocus (fun f => { f with framesUsed := f.framesUsed + 1 })) :=
  if_neg (Nat.not_le.mpr (Nat.succ_lt_succ below))

theorem sweepFrame_marked (marked : s.focus.moveMark = true) : sweepFrame a r s = s := if_pos marked

theorem sweepFrame_invalid (unmarked : s.focus.moveMark = false) (invalid : ¬ ValidSample a r) :
    sweepFrame a r s = s.onFocus (fun f => { f with lastFailure := focusFailure a r }) := by
  have reason := focusFailure_invalid invalid
  simp only [sweepFrame, unmarked]
  cases h : focusFailure a r with
  | noReason => exact absurd h reason
  | torn | focusMoving | zoomMoving | dark => rfl

theorem sweepFrame_coarse (unmarked : s.focus.moveMark = false) (valid : ValidSample a r)
    (coarse : s.focus.search = .coarse) : sweepFrame a r s = coarseSample (sampleOf s a r) s := by
  simp [sweepFrame, unmarked, focusFailure_valid valid, coarse]

theorem sweepFrame_fine (unmarked : s.focus.moveMark = false) (valid : ValidSample a r)
    (fine : s.focus.search = .fine) : sweepFrame a r s = fineSample (sampleOf s a r) s := by
  simp [sweepFrame, unmarked, focusFailure_valid valid, fine]

theorem sweepFrame_peak (valid : ValidSample a r) (peak : s.focus.search = .peak) : sweepFrame a r s = s := by
  simp [sweepFrame, focusFailure_valid valid, peak]

end

/-! ## The failed search (R105) -/

/-- The fallback lies in the range of the zoom position, so the clamp of R99 keeps it (R91, R105). -/
theorem clampFocus_fallback {s : State} {d : Derived} (derived : s.zoom.derived = some d) (range : d.pInf ≤ d.pNear)
    (most : s.focus.fallback ≤ 1024) :
    clampFocus s ((s.zoom.derived.map (fun d => positionAt d s.focus.fallback)).getD 0 : Nat) =
      d.pInf + s.focus.fallback * (d.pNear - d.pInf) / 1024 := by
  have inside : s.focus.fallback * (d.pNear - d.pInf) / 1024 ≤ d.pNear - d.pInf :=
    Nat.div_le_of_le_mul (Nat.mul_le_mul_right _ most)
  rw [clampFocus_natCast derived range, derived]
  simp only [Option.map_some, Option.getD_some, positionAt]
  omega

/-- The fields of a FOCUS STATE report (R111). -/
theorem focusReport_eq (before : SearchState) (n : FocusNote) (best : Option BestRecord) (s : State) :
    ∃ rep : FocusReport, focusReport before n best s = .focusState rep ∧ rep.cause = n.cause ∧
      rep.state = s.focus.search ∧ rep.before = before ∧ rep.reason = n.reason ∧ rep.peakOrStep = n.peakOrStep ∧
      rep.best = best ∧ rep.frame = n.frame :=
  ⟨_, rfl, rfl, rfl, rfl, rfl, rfl, rfl, rfl⟩

/-- A failed search before its report: its own move stopped, and the target `p` and the fraction of the fallback sent
(R105). -/
def searchFailed (p : Nat) (s : State) : State :=
  { s with
    focus := { s.focus.settleIn .failed with moveMark := true },
    lens := { s.lens with fromFocus := s.lens.fromFocus ++
      ((if s.focus.moveMark then [.stop .focus .plain] else []) ++ [.target .focus p .plain]) },
    zoom := { s.zoom with fromFocus := s.zoom.fromFocus ++ [.fraction s.focus.fallback] } }

theorem searchFailed_unmarked {s : State} {fb : Nat} (p : Nat) (unmarked : s.focus.moveMark = false)
    (fallback : s.focus.fallback = fb) : searchFailed p s = { s with
      focus := { s.focus.settleIn .failed with moveMark := true },
      lens := { s.lens with fromFocus := s.lens.fromFocus ++ [.target .focus p .plain] },
      zoom := { s.zoom with fromFocus := s.zoom.fromFocus ++ [.fraction fb] } } := by
  subst fallback
  simp [searchFailed, unmarked]

/-- What a search that fails leaves (R105). -/
theorem failSearch_eq {s : State} {d : Derived} {fb : Nat} (n : FocusNote) (derived : s.zoom.derived = some d)
    (range : d.pInf ≤ d.pNear) (fallback : s.focus.fallback = fb) (most : fb ≤ 1024) :
    ∃ rep : FocusReport, failSearch n s =
        giveReport (.focusState rep) (searchFailed (d.pInf + fb * (d.pNear - d.pInf) / 1024) s) ∧
      rep.cause = n.cause ∧ rep.state = .failed ∧ rep.before = s.focus.search ∧ rep.reason = n.reason ∧
      rep.best = s.focus.best := by
  subst fallback
  let failed : State := (stopOwnMove s).onFocus (fun f => f.settleIn .failed)
  let asks : State := focusAsksZoom (.fraction failed.focus.fallback) (sendFocus (clampFocus failed
    ((failed.zoom.derived.map (fun d => positionAt d failed.focus.fallback)).getD 0 : Nat)) .plain failed)
  have failed_eq : failed = _ := congrArg (State.onFocus · (fun f => f.settleIn .failed)) (stopOwnMove_eq s)
  have asks_eq : asks = searchFailed (d.pInf + s.focus.fallback * (d.pNear - d.pInf) / 1024) s := by
    simp only [asks, failed_eq]
    rw [clampFocus_fallback (by exact derived) range (by exact most)]
    cases marked : s.focus.moveMark with
    | true =>
      simp [searchFailed, marked, sendFocus, focusAsksZoom, focusAsksLens, State.onFocus, FocusController.settleIn]
    | false =>
      rw [searchFailed_unmarked _ marked rfl]
      simp only [Bool.false_eq_true, if_false]
      rfl
  obtain ⟨rep, report, cause, state, before, reason, -, best, -⟩ := focusReport_eq s.focus.search n s.focus.best asks
  refine ⟨rep, ?_, cause, ?_, before, reason, best⟩
  · rw [← report, ← asks_eq]
    rfl
  · rw [state, asks_eq]
    rfl

end Sys2Proof.Machine
end

section
/-!
A valid sample in COARSE (R95, R98, R101, R102): the sample list and the best record, the peak, the turn, and the fine plan.
-/
namespace Sys2Proof.Machine

/-! ## The sample list and the best record (R95, R98) -/

/-- The sample list with `x` behind it, cut to its newest 64 (R95). -/
def samplesWith (x : FocusSample) (l : List FocusSample) : List FocusSample := (l ++ [x]).drop (l.length - 63)

/-- The best record once sample `x` has been taken: a higher figure replaces it (R98). -/
def bestWith (x : FocusSample) (best : Option BestRecord) : BestRecord :=
  match best with
  | some b => if b.figure < x.figure then { position := x.position, figure := x.figure, frame := x.frame } else b
  | none => { position := x.position, figure := x.figure, frame := x.frame }

theorem appendSample_eq (x : FocusSample) (f : FocusController) :
    appendSample x f = { f with samples := samplesWith x f.samples, best := some (bestWith x f.best) } := by
  have places : f.samples.length + 1 - Config.sampleListPlaces = f.samples.length - 63 := Nat.succ_sub_succ _ 63
  simp only [appendSample, places, samplesWith, bestWith]
  cases f.best with
  | none => rfl
  | some b => simp only [apply_ite some]

/-- The sample is taken: it joins the list, and may be the best (R95, R98). -/
def sampleTaken (x : FocusSample) (s : State) : State :=
  { s with focus := { s.focus with samples := samplesWith x s.focus.samples, best := some (bestWith x s.focus.best) } }

theorem sampleTaken_eq (x : FocusSample) (s : State) : sampleTaken x s = s.onFocus (appendSample x) := by
  rw [State.onFocus, appendSample_eq]
  rfl

/-- The newest sample stands last in its sweep. -/
theorem samplesWith_sweep (x : FocusSample) (l : List FocusSample) :
    ∃ older, (samplesWith x l).filter (fun y => y.sweep == x.sweep) = older ++ [x] := by
  refine ⟨(l.drop (l.length - 63)).filter (fun y => y.sweep == x.sweep), ?_⟩
  rw [samplesWith, List.drop_append_of_le_length (Nat.sub_le _ _), List.filter_append]
  simp

/-! ## Past the peak (R101) -/

theorem pastPeak_iff {f : FocusController} {b : BestRecord} {y : FocusSample} : pastPeak f b y = true ↔
    0 < ((y.position : Int) - b.position) * f.direction ∧ y.figure < b.figure * (256 - f.drop) / 256 := by
  simp only [pastPeak, Bool.and_eq_true, decide_eq_true_eq]

/-- The peak is passed when the newest sample of the sweep and the one before it are past it (R101). -/
theorem peakPassed_iff {f : FocusController} {b : BestRecord} {x : FocusSample} {older : List FocusSample}
    (best : f.best = some b) (newest : f.samples.filter (fun y => y.sweep == f.sweep) = older ++ [x]) :
    peakPassed f = true ↔ ∃ pre y, f.samples.filter (fun y => y.sweep == f.sweep) = pre ++ [y, x] ∧
      pastPeak f b y = true ∧ pastPeak f b x = true := by
  simp only [peakPassed, best, newest, List.reverse_append, List.reverse_singleton, List.singleton_append]
  rcases List.eq_nil_or_concat older with rfl | ⟨pre, y, rfl⟩
  · refine iff_of_false Bool.false_ne_true fun ⟨pre, y, two, _⟩ => ?_
    have lengths := congrArg List.length two
    simp at lengths
  · simp only [List.concat_eq_append, List.reverse_append, List.reverse_singleton, List.singleton_append,
      Bool.and_eq_true, List.append_assoc]
    refine ⟨fun ⟨px, py⟩ => ⟨pre, y, rfl, py, px⟩, fun ⟨pre', y', same, py, px⟩ => ?_⟩
    obtain ⟨-, last⟩ := List.append_inj' same rfl
    obtain ⟨rfl, -⟩ := List.cons_eq_cons.mp last
    exact ⟨px, py⟩

/-! ## The fine plan (R102) -/

/-- A position joins those to visit unless it is one of them (R102). -/
def visitOnce (acc : List Nat) (p : Nat) : List Nat := if acc.contains p then acc else acc ++ [p]

/-- The positions of a plan, each once, in the order of its first mention (R102). -/
def visitOrder (ps : List Nat) : List Nat := ps.foldl visitOnce []

theorem buildPlan_eq (ps : List Nat) :
    buildPlan ps = (visitOrder ps).map (fun q => { position := q, figure := none }) := rfl

theorem foldl_visitOnce_spec (ps : List Nat) : ∀ acc : List Nat, acc.Nodup → ∃ new : List Nat,
    ps.foldl visitOnce acc = acc ++ new ∧ new.Sublist ps ∧
    (acc ++ new).Nodup ∧ ∀ q, q ∈ acc ++ new ↔ q ∈ acc ∨ q ∈ ps := by
  induction ps with
  | nil => exact fun acc once => ⟨[], by simp, .slnil, by simpa using once, by simp⟩
  | cons p ps ih =>
    intro acc once
    by_cases known : p ∈ acc
    · obtain ⟨new, folds, sub, nodup, mem⟩ := ih acc once
      refine ⟨new, by simpa [visitOnce, known] using folds, sub.cons p, nodup, fun q => (mem q).trans ?_⟩
      simp only [List.mem_cons]
      refine ⟨fun h => h.imp_right .inr, fun h => ?_⟩
      rcases h with old | rfl | later
      · exact .inl old
      · exact .inl known
      · exact .inr later
    · obtain ⟨new, folds, sub, nodup, mem⟩ := ih (acc ++ [p]) (by simpa using List.Nodup.concat known once)
      refine ⟨p :: new, by simpa [visitOnce, known] using folds, sub.cons_cons p, by simpa using nodup, fun q => ?_⟩
      simpa [or_assoc] using mem q

/-- The plan visits exactly the given positions, each once, in their order (R102). -/
theorem visitOrder_spec (ps : List Nat) :
    (visitOrder ps).Nodup ∧ (∀ q, q ∈ visitOrder ps ↔ q ∈ ps) ∧ (visitOrder ps).Sublist ps := by
  obtain ⟨new, folds, sub, nodup, mem⟩ := foldl_visitOnce_spec ps [] .nil
  rw [List.nil_append] at folds nodup mem
  rw [visitOrder, folds]
  exact ⟨nodup, by simpa using mem, sub⟩

/-- The five positions about the best one, clamped to the range in force (R99, R102). -/
def finePositions (d : Derived) (b : Int) (sf : Nat) : List Nat :=
  [b - 2 * sf, b - sf, b, b + sf, b + 2 * sf].map (fun q => (max (d.pInf : Int) (min q d.pNear)).toNat)

section
variable {s : State} {d : Derived}

/-- FINE with step `sf` over the positions `first :: rest` is entered, and the first of them sent (R102). -/
def fineEntered (sf first : Nat) (rest : List Nat) (s : State) : State :=
  { s with
    lens := { s.lens with fromFocus := s.lens.fromFocus ++ [.target .focus first .plain] },
    focus := { s.focus with
      search := .fine, fineStep := sf, moveMark := true,
      plan := (first :: rest).map (fun q => { position := q, figure := none }) } }

/-- What entering FINE from COARSE leaves (R102). -/
theorem enterFine_eq {b : BestRecord} {step : Nat} (n : FocusNote) (coarse : s.focus.search = .coarse)
    (best : s.focus.best = some b) (steps : s.focus.coarseStep = step) (derived : s.zoom.derived = some d)
    (range : d.pInf ≤ d.pNear) :
    let sf := max 1 (step / 4)
    ∃ first rest, (first :: rest).Nodup ∧ (∀ q, q ∈ first :: rest ↔ q ∈ finePositions d b.position sf) ∧
      (first :: rest).Sublist (finePositions d b.position sf) ∧
      enterFine n s = reportFocus .coarse { n with peakOrStep := sf } (fineEntered sf first rest s) := by
  intro sf
  obtain ⟨nodup, mem, sub⟩ := visitOrder_spec (finePositions d b.position sf)
  have clamps : clampFocus s = fun q => (max (d.pInf : Int) (min q d.pNear)).toNat :=
    funext (clampFocus_eq derived range)
  have plan : buildPlan ([(b.position : Int) - 2 * sf, b.position - sf, b.position, b.position + sf,
      b.position + 2 * sf].map (clampFocus s)) =
        (visitOrder (finePositions d b.position sf)).map (fun q => { position := q, figure := none }) := by
    rw [buildPlan_eq, clamps]
    rfl
  cases order : visitOrder (finePositions d b.position sf) with
  | nil =>
    have first : finePositions d b.position sf ≠ [] := by simp [finePositions]
    obtain ⟨q, inside⟩ := List.exists_mem_of_ne_nil _ first
    exact absurd ((mem q).mpr inside) (by simp [order])
  | cons first rest =>
    rw [order] at nodup mem sub plan
    refine ⟨first, rest, nodup, mem, sub, ?_⟩
    simp only [enterFine, best, steps, coarse, Option.map_some, Option.getD_some]
    rw [plan]
    rfl

/-! ## The end of the second sweep (R101) -/

variable {b : BestRecord} {frame : BitVec 32}

theorem sweepEnded_sharp (best : s.focus.best = some b) (sharp : s.focus.contrastFloor ≤ b.figure) :
    sweepEnded frame s = enterFine { cause := .sweepEnd, frame := frame } s := by
  simp [sweepEnded, best, sharp]

theorem sweepEnded_flat (best : s.focus.best = some b) (flat : b.figure < s.focus.contrastFloor) :
    sweepEnded frame s = failSearch { cause := .lowContrast, frame := frame } s := by
  simp [sweepEnded, best, Nat.not_le.mpr flat]

/-! ## The sample (R101) -/

/-- The sweep turns at the range end: the second sweep, in the other direction (R101). -/
def turnSweep (f : FocusController) : FocusController := { f with sweep := 2, forward := !f.forward }

/-- Where the sweep ends it has turned, if it was the first (R101). -/
def endSweep (f : FocusController) : FocusController := if f.sweep = 1 then turnSweep f else f

theorem endSweep_frame (f : FocusController) :
    (endSweep f).search = f.search ∧ (endSweep f).best = f.best ∧ (endSweep f).coarseStep = f.coarseStep ∧
    (endSweep f).contrastFloor = f.contrastFloor ∧ (endSweep f).fallback = f.fallback ∧
    (endSweep f).moveMark = f.moveMark := by
  unfold endSweep
  split <;> exact ⟨rfl, rfl, rfl, rfl, rfl, rfl⟩

variable {x : FocusSample} {next back : Nat}

/-- The next coarse position from the sample (R101). -/
def coarseNext (x : FocusSample) (s : State) : Nat :=
  clampFocus s ((x.position : Int) + s.focus.direction * s.focus.coarseStep)

/-- The first position of the second sweep (R101). -/
def coarseBack (s : State) : Nat :=
  clampFocus s ((s.focus.startPosition : Int) - s.focus.direction * s.focus.coarseStep)

theorem direction_turnSweep (f : FocusController) : (turnSweep f).direction = -f.direction := by
  cases h : f.forward <;> simp [turnSweep, FocusController.direction, h]

/-- A coarse sample by the cases of R101: the peak passed, a next position, the turn, or the end of the second sweep. -/
theorem coarseSample_eq (x : FocusSample) (s : State) :
    let v := sampleTaken x s
    coarseSample x s =
      if peakPassed v.focus then enterFine { cause := .peakPassed, frame := x.frame } v
      else if coarseNext x s ≠ x.position then sendFocus (coarseNext x s) .plain v
      else if s.focus.sweep = 1 then
        if coarseBack s = x.position then sweepEnded x.frame (v.onFocus turnSweep)
        else sendFocus (coarseBack s) .plain (v.onFocus turnSweep)
      else sweepEnded x.frame v := by
  intro v
  have turned : (s.focus.startPosition : Int) + (turnSweep v.focus).direction * s.focus.coarseStep =
      s.focus.startPosition - s.focus.direction * s.focus.coarseStep := by
    rw [direction_turnSweep, neg_mul, ← sub_eq_add_neg]
    rfl
  rw [coarseBack, ← turned]
  simp only [v, coarseSample, sampleTaken_eq]
  rfl

theorem coarseSample_passed (passed : peakPassed (sampleTaken x s).focus = true) : coarseSample x s =
    enterFine { cause := .peakPassed, frame := x.frame } (sampleTaken x s) := by
  rw [coarseSample_eq, if_pos passed]

theorem coarseSample_sends (more : ¬ peakPassed (sampleTaken x s).focus = true) (found : coarseNext x s = next)
    (moves : next ≠ x.position) : coarseSample x s = sendFocus next .plain (sampleTaken x s) := by
  rw [coarseSample_eq, if_neg more, found, if_pos moves]

theorem coarseSample_turns (more : ¬ peakPassed (sampleTaken x s).focus = true) (stuck : coarseNext x s = x.position)
    (first : s.focus.sweep = 1) (found : coarseBack s = back) (moves : back ≠ x.position) :
    coarseSample x s = sendFocus back .plain ((sampleTaken x s).onFocus turnSweep) := by
  rw [coarseSample_eq, if_neg more, if_neg (not_not.mpr stuck), if_pos first, found, if_neg moves]

/-- At the range end with nowhere to turn the sweep has ended (R101). -/
theorem coarseSample_ends (more : ¬ peakPassed (sampleTaken x s).focus = true) (stuck : coarseNext x s = x.position)
    (last : s.focus.sweep ≠ 1 ∨ coarseBack s = x.position) :
    coarseSample x s = sweepEnded x.frame ((sampleTaken x s).onFocus endSweep) := by
  have ends {f : FocusController} (h : endSweep (sampleTaken x s).focus = f) :
      (sampleTaken x s).onFocus endSweep = (sampleTaken x s).onFocus (fun _ => f) := by rw [← h]; rfl
  rw [coarseSample_eq, if_neg more, if_neg (not_not.mpr stuck)]
  by_cases first : s.focus.sweep = 1
  · rw [if_pos first, if_pos (last.resolve_left (not_not.mpr first)), ends (if_pos first)]
    rfl
  · rw [if_neg first, ends (if_neg first)]
    rfl

end

end Sys2Proof.Machine
end

section
/-!
A valid sample in FINE (R102, R103): the plan, its best position, the vertex, and PEAK.
-/
namespace Sys2Proof.Machine

/-! ## The best position of the plan (R103) -/

/-- The better of the best position met so far and a plan entry: a higher figure replaces it (R103). -/
def betterEntry (b : Option (Nat × Nat)) (e : PlanEntry) : Option (Nat × Nat) :=
  match b, e.figure with
  | none, some g => some (e.position, g)
  | some b, some g => if b.2 < g then some (e.position, g) else some b
  | b, none => b

theorem planBest_eq (l : List PlanEntry) : planBest l = l.foldl betterEntry none := by
  unfold planBest
  congr 1

/-- Over lower figures only a lower one can be the best. -/
theorem foldl_betterEntry_below {fb : Nat} (l : List PlanEntry) :
    ∀ b : Option (Nat × Nat), (∀ c ∈ b, c.2 < fb) → (∀ y ∈ l, ∃ f, y.figure = some f ∧ f < fb) →
      ∀ c ∈ l.foldl betterEntry b, c.2 < fb := by
  induction l with
  | nil => exact fun b low _ => low
  | cons e l ih =>
    intro b low lower
    obtain ⟨f, figure, less⟩ := lower e (List.mem_cons_self ..)
    refine ih (betterEntry b e) (fun c mem => ?_) (fun y mem => lower y (List.mem_cons_of_mem _ mem))
    cases b with
    | none =>
      obtain rfl : (e.position, f) = c := by simpa [betterEntry, figure] using mem
      exact less
    | some b =>
      simp only [betterEntry, figure] at mem
      split at mem
      · obtain rfl : (e.position, f) = c := by simpa using mem
        exact less
      · exact low c mem

/-- Later figures that are not higher leave the best position. -/
theorem foldl_betterEntry_stays {b : Nat × Nat} (l : List PlanEntry)
    (h : ∀ y ∈ l, ∃ f, y.figure = some f ∧ f ≤ b.2) : l.foldl betterEntry (some b) = some b := by
  induction l with
  | nil => rfl
  | cons e l ih =>
    obtain ⟨f, figure, le⟩ := h e (List.mem_cons_self ..)
    have keeps : betterEntry (some b) e = some b := by simp [betterEntry, figure, Nat.not_lt.mpr le]
    rw [List.foldl_cons, keeps, ih fun y mem => h y (List.mem_cons_of_mem _ mem)]

/-- The earliest of the highest figures gives the best position (R103). -/
theorem planBest_of_split {pre post : List PlanEntry} {b fb : Nat}
    (lower : ∀ y ∈ pre, ∃ f, y.figure = some f ∧ f < fb)
    (upper : ∀ y ∈ post, ∃ f, y.figure = some f ∧ f ≤ fb) :
    planBest (pre ++ { position := b, figure := some fb } :: post) = some (b, fb) := by
  have below := foldl_betterEntry_below pre none (by simp) lower
  have takes : betterEntry (pre.foldl betterEntry none) { position := b, figure := some fb } = some (b, fb) := by
    cases best : pre.foldl betterEntry none with
    | none => rfl
    | some c => exact if_pos (below c best)
  rw [planBest_eq, List.foldl_append, List.foldl_cons, takes, foldl_betterEntry_stays post upper]

/-! ## The vertex (R103) -/

/-- The figure found at a position of a plan that holds each position once (R103). -/
theorem planFigure_eq_some {l : List PlanEntry} (once : (l.map (·.position)).Nodup) {q : Int} {f : Nat} :
    planFigure l q = some f ↔ ∃ y ∈ l, (y.position : Int) = q ∧ y.figure = some f := by
  induction l with
  | nil => simp [planFigure]
  | cons e l ih =>
    obtain ⟨fresh, once⟩ := List.nodup_cons.mp once
    by_cases here : (e.position : Int) = q
    · have others : ∀ y ∈ l, (y.position : Int) ≠ q := fun y mem same =>
        fresh (List.mem_map.mpr ⟨y, mem, Int.ofNat.inj (same.trans here.symm)⟩)
      have found : planFigure (e :: l) q = e.figure := by simp [planFigure, here]
      rw [found]
      simp only [List.exists_mem_cons_iff, here, true_and]
      exact ⟨.inl, fun h => h.resolve_right fun ⟨y, mem, same, _⟩ => others y mem same⟩
    · have skips : planFigure (e :: l) q = planFigure l q := by simp [planFigure, here]
      rw [skips, ih once]
      simp [here]

theorem planFigure_eq_none {l : List PlanEntry} (once : (l.map (·.position)).Nodup) {q : Int}
    (missing : ∀ f, ¬ ∃ y ∈ l, (y.position : Int) = q ∧ y.figure = some f) : planFigure l q = none :=
  Option.eq_none_iff_forall_ne_some.mpr fun f found => missing f ((planFigure_eq_some once).mp found)

section
variable {l : List PlanEntry} {sf b fb lo hi : Nat}

theorem vertex_curved (low : planFigure l ((b : Int) - sf) = some lo) (high : planFigure l ((b : Int) + sf) = some hi)
    (curved : (lo : Int) - 2 * fb + hi < 0) : vertex l sf b fb = max ((b : Int) - sf) (min (b + sf)
      (b + Int.tdiv (sf * ((lo : Int) - hi)) (2 * ((lo : Int) - 2 * fb + hi)))) := by
  simp only [vertex, low, high, if_pos curved]
  exact clampInt_eq (by omega) _

theorem vertex_flat (low : planFigure l ((b : Int) - sf) = some lo) (high : planFigure l ((b : Int) + sf) = some hi)
    (flat : 0 ≤ (lo : Int) - 2 * fb + hi) : vertex l sf b fb = b := by
  simp only [vertex, low, high, if_neg (Int.not_lt.mpr flat)]

/-- Without both neighbours the best position itself is the vertex (R103). -/
theorem vertex_edge (edge : planFigure l ((b : Int) - sf) = none ∨ planFigure l ((b : Int) + sf) = none) :
    vertex l sf b fb = b := by
  rcases edge with low | high
  · simp only [vertex, low]
  · simp only [vertex, high]
    cases planFigure l ((b : Int) - sf) <;> rfl

end

/-! ## PEAK is entered (R103) -/

/-- PEAK with target `p` before its report (R103). -/
def peakEntered (p : Nat) (s : State) : State :=
  { s with
    lens := { s.lens with fromFocus := s.lens.fromFocus ++ [.target .focus p .plain] },
    focus := { s.focus with search := .peak, peakTarget := p, moveMark := true } }

/-- What entering PEAK leaves (R103). -/
theorem enterPeak_eq {s : State} {d : Derived} {best : BestRecord} {q fb : Nat} {v : Int} (frame : BitVec 32)
    (derived : s.zoom.derived = some d) (range : d.pInf ≤ d.pNear) (record : s.focus.best = some best)
    (planned : planBest s.focus.plan = some (q, fb)) (top : vertex s.focus.plan s.focus.fineStep q fb = v) :
    let p := (max (d.pInf : Int) (min v d.pNear)).toNat
    ∃ rep : FocusReport, enterPeak frame s = giveReport (.focusState rep) (peakEntered p s) ∧
      rep.cause = .peakSet ∧ rep.state = .peak ∧ rep.before = s.focus.search ∧ rep.peakOrStep = p ∧
      rep.frame = frame ∧ rep.best = some { best with figure := fb } := by
  intro p
  have target : clampFocus s (vertex s.focus.plan s.focus.fineStep q fb) = p := by rw [top, clampFocus_eq derived range]
  obtain ⟨rep, report, cause, state, before, -, peak, figure, seen⟩ := focusReport_eq s.focus.search
    { cause := .peakSet, peakOrStep := p, frame := frame } (some { best with figure := fb }) (peakEntered p s)
  refine ⟨rep, ?_, cause, state, before, peak, seen, figure⟩
  simp only [enterPeak, planned, Option.getD_some, target, ← report]
  have sent : sendFocus p .plain (s.onFocus (fun f => { f with search := .peak, peakTarget := p })) = peakEntered p s := rfl
  rw [sent, show (peakEntered p s).focus.best = some best from record]
  rfl

/-! ## The sample (R102) -/

/-- The plan after a sample: the visited position takes its figure (R102). -/
def planWith (x : FocusSample) (l : List PlanEntry) : List PlanEntry :=
  if visiting l = some x.position then fillPlan x.position x.figure l else l

theorem visiting_eq_none {l : List PlanEntry} (filled : ∀ y ∈ l, ∃ f, y.figure = some f) : visiting l = none := by
  have found : l.find? (fun e => e.figure.isNone) = none := List.find?_eq_none.mpr fun y mem => by
    obtain ⟨f, figure⟩ := filled y mem
    simp [figure]
  rw [visiting, found]
  rfl

theorem visiting_eq_some {l : List PlanEntry} {v : PlanEntry} (found : l.find? (fun e => e.figure.isNone) = some v) :
    visiting l = some v.position := congrArg (Option.map PlanEntry.position) found

section
variable {s : State} {x : FocusSample}

/-- The sample is taken, and the visited position takes its figure (R98, R102). -/
def fineTaken (x : FocusSample) (s : State) : State :=
  (sampleTaken x s).onFocus (fun f => { f with plan := planWith x f.plan })

theorem fineSample_eq (x : FocusSample) (s : State) : fineSample x s =
    match visiting (planWith x s.focus.plan) with
    | some next => sendFocus next .plain (fineTaken x s)
    | none => enterPeak x.frame (fineTaken x s) := by
  have taken : fineTaken x s = if visiting s.focus.plan = some x.position then
      (sampleTaken x s).onFocus (fun f => { f with plan := fillPlan x.position x.figure f.plan }) else sampleTaken x s := by
    have planned {l : List PlanEntry} (h : planWith x s.focus.plan = l) :
        fineTaken x s = (sampleTaken x s).onFocus (fun f => { f with plan := l }) := by rw [← h]; rfl
    split
    next visited => exact planned (if_pos visited)
    next other => exact planned (if_neg other)
  have samePlan : (fineTaken x s).focus.plan = planWith x s.focus.plan := rfl
  rw [← samePlan, taken, sampleTaken_eq]
  rfl

theorem fineSample_sends {next : Nat} (more : visiting (planWith x s.focus.plan) = some next) :
    fineSample x s = sendFocus next .plain (fineTaken x s) := by
  rw [fineSample_eq, more]

theorem fineSample_peaks (done : visiting (planWith x s.focus.plan) = none) :
    fineSample x s = enterPeak x.frame (fineTaken x s) := by
  rw [fineSample_eq, done]

/-- The sample that fills the plan enters PEAK at the vertex about the best position (R103). -/
theorem fineSample_enters_peak {d : Derived} {pre post : List PlanEntry} {b fb : Nat} {v : Int}
    (derived : s.zoom.derived = some d) (range : d.pInf ≤ d.pNear)
    (split : planWith x s.focus.plan = pre ++ { position := b, figure := some fb } :: post)
    (lower : ∀ y ∈ pre, ∃ f, y.figure = some f ∧ f < fb)
    (upper : ∀ y ∈ post, ∃ f, y.figure = some f ∧ f ≤ fb)
    (top : vertex (planWith x s.focus.plan) s.focus.fineStep b fb = v) :
    let p := (max (d.pInf : Int) (min v d.pNear)).toNat
    ∃ rep : FocusReport, fineSample x s = giveReport (.focusState rep) (peakEntered p (fineTaken x s)) ∧
      rep.cause = .peakSet ∧ rep.state = .peak ∧ rep.before = s.focus.search ∧ rep.peakOrStep = p ∧
      rep.frame = x.frame ∧ rep.best = some { bestWith x s.focus.best with figure := fb } := by
  have filled : visiting (planWith x s.focus.plan) = none := visiting_eq_none fun y mem => by
    rw [split, List.mem_append, List.mem_cons] at mem
    rcases mem with earlier | rfl | later
    · exact (lower y earlier).imp fun _ => And.left
    · exact ⟨fb, rfl⟩
    · exact (upper y later).imp fun _ => And.left
  have planned : planBest (planWith x s.focus.plan) = some (b, fb) := by rw [split, planBest_of_split lower upper]
  rw [fineSample_peaks filled]
  exact enterPeak_eq (s := fineTaken x s) x.frame derived range rfl planned top

end

end Sys2Proof.Machine
end

section
/-!
The Focus Controller's work on a frame, whole (O43; R96 to R105, R108).
-/
namespace Sys2Proof.Machine

/-! ## A valid sample in LOCKED and MONITOR (R104, R108) -/

section
variable {s : State} {x : FocusSample} {r : StatRecord}

theorem holdingSample_ignored (h : s.focus.zoomPause = true ∨
      (s.focus.search ≠ .monitor ∧ s.focus.baselinePending = false) ∨
      (s.focus.baselinePending = true ∧ r.windowSet < s.focus.baselineSet)) : holdingSample x r s = s := by
  cases paused : s.focus.zoomPause with
  | true => simp [holdingSample, paused]
  | false =>
    rcases h.resolve_left (by simp [paused]) with ⟨locked, none_due⟩ | ⟨due, old⟩
    · simp [holdingSample, paused, locked, none_due]
    · simp [holdingSample, paused, due, Nat.not_le.mpr old]

/-- A frame that the lock has no use for leaves everything as it is (R104, R108). -/
theorem focusWork_holding_ignored {a : Announcement} (view : s.command.mode = .view) (holds : s.focus.search.holding = true)
    (h : s.focus.moveMark = true ∨ ¬ ValidSample a r ∨ s.focus.zoomPause = true ∨
      (s.focus.search = .locked ∧ s.focus.baselinePending = false) ∨
      (s.focus.baselinePending = true ∧ r.windowSet < s.focus.baselineSet)) : focusWork a r s = s := by
  by_cases unusable : s.focus.moveMark = true ∨ ¬ ValidSample a r
  · exact focusWork_unusable view holds unusable
  · obtain ⟨unmarked, ok⟩ := not_or.mp unusable
    have waits := (h.resolve_left unmarked).resolve_left ok
    rw [focusWork_holding view holds (Bool.eq_false_iff.mpr unmarked) (not_not.mp ok)]
    exact holdingSample_ignored (waits.imp_right (.imp_left fun ⟨locked, none_due⟩ => ⟨by simp [locked], none_due⟩))

theorem holdingSample_baseline (plain : s.focus.zoomPause = false) (due : s.focus.baselinePending = true)
    (new : s.focus.baselineSet ≤ r.windowSet) : holdingSample x r s = takeBaseline x r s := by
  simp [holdingSample, plain, due, new]

theorem holdingSample_monitor (plain : s.focus.zoomPause = false) (none_due : s.focus.baselinePending = false)
    (monitor : s.focus.search = .monitor) : holdingSample x r s = monitorSample x s := by
  simp [holdingSample, plain, none_due, monitor]

theorem monitorSample_sharp (sharp : ¬ x.figure < s.focus.lockFigure * (256 - s.focus.monitorDrop) / 256) :
    monitorSample x s = s.onFocus (fun f => { f with dropRun := 0 }) := if_neg sharp

/-- The first two drops in a row are counted (R108). -/
theorem monitorSample_counts (fallen : x.figure < s.focus.lockFigure * (256 - s.focus.monitorDrop) / 256)
    (few : s.focus.dropRun < 2) : monitorSample x s = s.onFocus (fun f => { f with dropRun := s.focus.dropRun + 1 }) := by
  have run : satAdd 3 s.focus.dropRun 1 = s.focus.dropRun + 1 := Nat.min_eq_right (by omega)
  have below : s.focus.dropRun ≠ 2 := by omega
  simp [monitorSample, fallen, run, below, State.onFocus]

/-- The third drop in a row restarts the search (R108). -/
theorem monitorSample_restarts {d : Derived} (fallen : x.figure < s.focus.lockFigure * (256 - s.focus.monitorDrop) / 256)
    (many : 2 ≤ s.focus.dropRun) (monitor : s.focus.search = .monitor) (view : s.command.mode = .view)
    (ready : s.lens.mode = .ready) (derived : s.zoom.derived = some d) (auto : s.focus.mode ≠ .manual)
    (still : s.zoom.moving = false) : monitorSample x s =
      reportFocus .monitor { cause := .restartDrop, frame := x.frame } { s with focus := { s.focus with
        samples := [], best := none, plan := [], framesUsed := 0, farRun := 0, lastFailure := .noReason,
        forward := decide (s.zoom.u ≤ 512), coarseStep := d.coarse, sweep := 1, startPosition := s.lens.focus.position,
        lockFigure := 0, baselinePending := false, baselineSet := 0, zoomPause := false, dropRun := 0, aeHold := true,
        search := .coarse } } := by
  have run : satAdd 3 s.focus.dropRun 1 = 3 := Nat.min_eq_left (by omega)
  have third : monitorSample x s =
      restartSearch { cause := .restartDrop, frame := x.frame } (s.onFocus (fun f => { f with dropRun := 3 })) := by
    simp [monitorSample, fallen, run, State.onFocus]
  rw [third, ← monitor]
  exact restartSearch_ready _ view ready derived auto still

end

/-- Settles O43: the frames that are only discarded or counted, the limit, then a valid sample in COARSE, in FINE, and in
LOCKED and MONITOR. -/
theorem focusWorkCountsAndSamplesFrames : Obligations.FocusWorkCountsAndSamplesFrames := by
  intro s
  refine ⟨focusWork_notDue, fun a r rest head => ?_⟩
  intro out f counted view search sweeping holding lit settled valid asks
  let taken : State := { s with focus := f }
  let u : State := { s with focus := counted }
  have acts {v : State} (h : focusWork a r taken = v) : out = .next (settle s v) := focusCompletionWork_due head h
  have sweeps (h : sweeping) : search.sweeping = true := sweeping_iff.mpr h.2
  have counts {v : State} (h : sweeping) (below : s.focus.framesUsed < 96) (k : sweepFrame a r u = v) :
      out = .next (settle s v) :=
    acts ((focusWork_sweeping (s := taken) h.1 (sweeps h)).trans ((countFrame_below (s := taken) below).trans k))
  have holds (h : holding) : search.holding = true := holding_iff.mpr h.2
  refine ⟨fun ignored => acts (focusWork_ignored ignored), fun below => ?_, fun d h full derived range most => ?_,
    fun h below idle => counts h below ?_, fun h below unmarked invalid => ?_,
    fun d h below unmarked ok derived range => ?_, fun h unusable => acts ?_, fun h unmarked ok plain due new => acts ?_,
    fun h monitor unmarked ok plain none_due => ?_⟩
  · exact focusFrameLimit_below head fun ⟨⟨inView, sw⟩, full⟩ => below ⟨⟨inView, sweeping_iff.mp sw⟩, full⟩
  · intro target
    obtain ⟨rep, fails, cause, state, before, reason, -⟩ := failSearch_eq (s := u)
      { cause := .timeout, reason := s.focus.lastFailure, frame := a.frame } derived range rfl most
    have ends : countFrame a r taken = giveReport (.focusState rep) (searchFailed target u) :=
      (countFrame_full (s := taken) full).trans fails
    exact ⟨_, rep, acts ((focusWork_sweeping (s := taken) h.1 (sweeps h)).trans ends),
      focusFrameLimit_due head h.1 (sweeps h) full ends, rfl, cause, state, before, reason⟩
  · rcases idle with marked | ⟨ok, peak⟩
    · exact sweepFrame_marked marked
    · exact sweepFrame_peak ok peak
  · exact ⟨focusFailure a r, counts h below (sweepFrame_invalid unmarked invalid), focusFailure_torn,
      focusFailure_moving, focusFailure_zoom, fun intact still steady => focusFailure_dark intact still steady
        fun bright => invalid ⟨intact, still, steady, bright⟩⟩
  · intro p clamp x samples mine best g sends
    have sent {q : Nat} {k : FocusController} (e : sweepFrame a r u = sendFocus q .plain { s with focus := k }) :
        sends q k := counts h below e
    refine ⟨fun coarse => ?_, fun fine => ?_⟩
    · intro dir past passed next back turned ended last fine
      have sampled : sweepFrame a r u = coarseSample x u := sweepFrame_coarse (s := u) unmarked ok coarse
      have passed_iff : peakPassed (sampleTaken x u).focus = true ↔ passed := by
        obtain ⟨older, newest⟩ := samplesWith_sweep x s.focus.samples
        exact (peakPassed_iff rfl newest).trans
          (exists₂_congr fun pre y => and_congr_right' (and_congr pastPeak_iff pastPeak_iff))
      have next_eq : coarseNext x u = next := clampFocus_eq derived range _
      have back_eq : coarseBack u = back := clampFocus_eq derived range _
      have entered {c : FocusCause} {k : FocusController} (search : k.search = .coarse) (record : k.best = some best)
          (step : k.coarseStep = s.focus.coarseStep)
          (enters : coarseSample x u = enterFine { cause := c, frame := a.frame } { s with focus := k }) : fine c k := by
        obtain ⟨first, rest, once, mem, sub, entry⟩ := enterFine_eq (s := { s with focus := k })
          { cause := c, frame := a.frame } search record step derived range
        exact ⟨first, rest, once, mem, sub, counts h below (sampled.trans (enters.trans entry))⟩
      obtain ⟨same, kept, step, floor, fallback, unsent⟩ := endSweep_frame g
      have search : last.search = .coarse := same.trans coarse
      have record : last.best = some best := kept
      have ends : ended → coarseSample x u = sweepEnded a.frame { s with focus := last } := fun ⟨more, stuck, spent⟩ =>
        coarseSample_ends (mt passed_iff.mp more) (next_eq.trans stuck) (spent.imp_right back_eq.trans)
      refine ⟨fun peak => entered coarse rfl rfl (coarseSample_passed (s := u) (x := x) (passed_iff.mpr peak)),
        fun more moves => sent (sampled.trans
          (coarseSample_sends (s := u) (x := x) (mt passed_iff.mp more) next_eq moves)),
        fun more stuck first moves => sent (sampled.trans
          (coarseSample_turns (s := u) (x := x) (mt passed_iff.mp more) (next_eq.trans stuck) first back_eq moves)),
        fun e sharp => entered search record step ((ends e).trans (sweepEnded_sharp record (floor.trans_le sharp))),
        fun e flat most => ?_⟩
      obtain ⟨rep, fails, cause, state, before, -, figure⟩ := failSearch_eq (s := { s with focus := last })
        { cause := .lowContrast, frame := a.frame } derived range fallback most
      have failed := (ends e).trans ((sweepEnded_flat record (flat.trans_eq floor.symm)).trans fails)
      rw [searchFailed_unmarked _ (unsent.trans unmarked) fallback] at failed
      exact ⟨rep, counts h below (sampled.trans failed),
        by rw [cause, state, before.trans search, figure.trans record]⟩
    · intro visited filled plan k
      have sampled : sweepFrame a r u = fineSample x u := sweepFrame_fine (s := u) unmarked ok fine
      refine ⟨fun v more => sent (sampled.trans (fineSample_sends (s := u) (x := x) (visiting_eq_some more))),
        fun pre b fb post split once lower upper => ?_⟩
      intro sf there peak
      have there_iff (q : Int) (f : Nat) : planFigure plan q = some f ↔ there q f := planFigure_eq_some once
      have tops {v : Int} (top : vertex plan sf b fb = v) : peak v := by
        obtain ⟨rep, enters, cause, state, before, target, frame, figure⟩ :=
          fineSample_enters_peak (s := u) (x := x) derived range split lower upper top
        refine ⟨rep, counts h below (sampled.trans enters), ?_, figure⟩
        rw [cause, state, before, target, frame, show u.focus.search = .fine from fine]
      exact ⟨fun lo hi low high =>
          ⟨fun curved => tops (vertex_curved ((there_iff _ lo).mpr low) ((there_iff _ hi).mpr high) curved),
            fun flat => tops (vertex_flat ((there_iff _ lo).mpr low) ((there_iff _ hi).mpr high) flat)⟩,
        fun edge => tops (vertex_edge (edge.imp (planFigure_eq_none once) (planFigure_eq_none once)))⟩
  · exact focusWork_holding_ignored h.1 (holds h) unusable
  · exact (focusWork_holding (s := taken) h.1 (holds h) unmarked ok).trans (holdingSample_baseline plain due new)
  · intro fallen
    have monitors : focusWork a r taken = monitorSample (sampleOf taken a r) taken :=
      (focusWork_holding (s := taken) h.1 (holds h) unmarked ok).trans (holdingSample_monitor plain none_due monitor)
    refine ⟨fun sharp => acts (monitors.trans (monitorSample_sharp sharp)),
      fun drop few => acts (monitors.trans (monitorSample_counts drop few)),
      fun d drop many ready derived auto still => acts ?_⟩
    exact monitors.trans (monitorSample_restarts drop many monitor h.1 ready derived auto still)

end Sys2Proof.Machine
end

section
/-!
SET STEADY and RECENTER STEADY (R114, R120) (O8, O9).
-/
namespace Sys2Proof.Machine

/-! ## SET STEADY (R114) -/

theorem marginOf_eq (m quads : Nat) : marginOf m quads = min (4 * (m / 4)) (quads / 8) := by
  rw [marginOf, Nat.mul_comm]

section
variable {s : State} {enable : Bool} {range leak quality mx my : Nat}

theorem setSteadyWork_notReady (h : s.command.valid = false) :
    setSteadyWork enable range leak quality mx my s = refuse .notReady s := if_pos (by simp [h])

theorem setSteadyWork_illegal (valid : s.command.valid = true) (h : ¬ (1 ≤ range ∧ range ≤ 48 ∧ leak ≤ 64)) :
    setSteadyWork enable range leak quality mx my s = refuse .badParameter s := by
  rw [setSteadyWork, if_neg (by simp [valid]), if_neg]
  simp only [Bool.and_eq_true, decide_eq_true_eq]
  exact fun ⟨⟨⟨low, high⟩, leak_le⟩, _⟩ => h ⟨low, high, leak_le⟩

/-- The state with the values of SET STEADY written, the margins being `mx` and `my`. -/
def steadyWritten (enable : Bool) (range leak quality mx my : Nat) (s : State) : State :=
  { s with steady := { s.steady with enable := enable, mx := mx, my := my, range := range, leak := leak,
                                     qualityMin := quality, geometryValid := true } }

theorem setSteadyWork_legal (valid : s.command.valid = true) (h : 1 ≤ range ∧ range ≤ 48 ∧ leak ≤ 64)
    (byte : quality ≤ 255) {x y : Nat} (hx : marginOf mx (s.command.config.width / 2) = x)
    (hy : marginOf my (s.command.config.height / 2) = y) : setSteadyWork enable range leak quality mx my s =
      if x = mx ∧ y = my then completeDone (steadyWritten enable range leak quality x y s)
      else complete .clamped ((x + 65536 * y : Nat) : Int) (steadyWritten enable range leak quality x y s) := by
  obtain ⟨low, high, leak_le⟩ := h
  subst hx hy
  rw [setSteadyWork, if_neg (by simp [valid]), if_pos (by simp [low, high, leak_le, byte])]
  rfl

end

theorem exec_setSteady {s : State} (tag : BitVec 16) (en range leak quality : BitVec 8) (mx my : BitVec 16)
    (arrives : CommandArrives s) : exec (.setSteady tag en range leak quality mx my) s = .next (settle s
      (setSteadyWork (decide (en ≠ 0)) range.toNat leak.toNat quality.toNat mx.toNat my.toNat
        (executing codeSetSteady tag s))) := runCommand_of_arrives _ _ _ arrives

/-- Settles O8, by the order of the tests of R114. -/
theorem setSteadyRoundsAndClampsTheMargins : Obligations.SetSteadyRoundsAndClampsTheMargins := by
  intro tag en range leak quality mx my s arrives
  have runs := exec_setSteady tag en range leak quality mx my arrives
  have byte : quality.toNat ≤ 255 := Nat.le_of_lt_succ quality.isLt
  refine ⟨fun absent => ?_, fun valid illegal => ?_, fun valid legal hx hy => ?_, fun valid legal changed => ?_⟩
  · rw [setSteadyWork_notReady (s := executing codeSetSteady tag s) absent] at runs
    exact runs
  · rw [setSteadyWork_illegal (s := executing codeSetSteady tag s) valid illegal] at runs
    exact runs
  all_goals rw [setSteadyWork_legal (s := executing codeSetSteady tag s) valid legal byte
    (marginOf_eq _ _) (marginOf_eq _ _)] at runs
  · exact runs.trans (congrArg (finish s) (if_pos ⟨hx, hy⟩))
  · exact runs.trans (congrArg (finish s) (if_neg changed))

/-! ## RECENTER STEADY (R120) -/

/-- From a recentred axis the offset is the motion less its leak, at the plain leak (R118, R119). -/
theorem leaked_reset (d : Int) (leak : Nat) : leaked d leak .reset = 16 * d - Int.tdiv (16 * d * leak) 256 := by
  simp [leaked, leakOf, AxisState.reset]

/-- Settles O9: the work of the command, and the first two steps of R118 from an accumulator of 0. -/
theorem recenterSteadyZeroesTheOffset : Obligations.RecenterSteadyZeroesTheOffset :=
  ⟨fun tag _ arrives => runCommand_of_arrives codeRecenterSteady tag recenterSteadyWork arrives, leaked_reset⟩

end Sys2Proof.Machine
end

section
/-!
Aperture pieces that do not reach their block, view writes and stale view passes (R124, R125, R144) (O26).
-/
namespace Sys2Proof.Machine

/-! ## Pieces that are dropped (R124, R144) -/

section
variable {s : State} {p : Piece}

theorem writePiece_standby (now : Nat) (standby : s.command.mode = .standby) (aperture : p.region ≠ .plain) :
    writePiece now s p = raiseFault .apertureInactive p.addr s := by
  cases region : p.region with
  | plain => exact absurd region aperture
  | capture => simp only [writePiece, region, capturePieceWrite, standby]
  | view => simp only [writePiece, region, viewPieceWrite, standby]

theorem readPiece_standby (tag : Nat) (standby : s.command.mode = .standby) (aperture : p.region ≠ .plain) :
    readPiece tag s p = raiseFault .apertureInactive p.addr s := by
  cases region : p.region with
  | plain => exact absurd region aperture
  | capture => simp only [readPiece, region, capturePieceRead, standby]
  | view => simp only [readPiece, region, viewPieceRead, standby]

theorem writePiece_view (now : Nat) (mode : s.command.mode = .view) (region : p.region = .view) :
    writePiece now s p = raiseFault .viewWrite p.addr s := by
  simp only [writePiece, region, viewPieceWrite, mode]

theorem exec_viewWrite_of_head {a : BitVec 32} {d : List LinkWord} (hr : headRequest s = some (.write a d))
    (h : requestPieces s (.write a d) = [p]) (region : p.region = .view) :
    exec .viewWrite s = .next (settle s (writePiece 0 (popArrival s) p)) := by
  rw [← takeRequest_write_piece h]
  exact takeHeadIf_of_head (kind := fun s r => isWrite r && reaches .view s r && !reaches .capture s r) hr
    (by simp [isWrite, reaches_of_piece h, region])

/-- A read of one aperture piece in STANDBY is answered with zeros at once (R144). -/
theorem takeRequest_read_standby {tag : BitVec 6} {a : BitVec 32} {n : Nat} (hr : headRequest s = some (.read tag a n))
    (h : requestPieces s (.read tag a n) = [p]) (standby : s.command.mode = .standby) (aperture : p.region ≠ .plain) :
    takeRequest 0 (.read tag a n) s =
      { raiseFault .apertureInactive p.addr s with link := linkZeros s tag.toNat n } :=
  takeRequest_read_zeros (t := raiseFault .apertureInactive p.addr (readTaken tag.toNat n s)) hr h
    (readPiece_standby (s := readTaken tag.toNat n s) tag.toNat standby aperture) rfl

/-! ## The stale pass (R125) -/

theorem exec_viewStale_of_stale (h : s.steady.pass.status ≠ .closed ∧ s.steady.pass.completions = 4) :
    exec .viewStale s = .next (settle s
      (raiseFault .viewStale (Config.staleAddress s.steady.pass.number).toNat (closePass s))) := if_pos h

theorem exec_viewStale_of_not (h : ¬ (s.steady.pass.status ≠ .closed ∧ s.steady.pass.completions = 4)) :
    exec .viewStale s = .next s := if_neg h

end

/-- Settles O26: a dropped piece leaves its fault only, and the stale pass closes. -/
theorem undeliveredAperturePiecesRaiseFaults : Obligations.UndeliveredAperturePiecesRaiseFaults := by
  refine ⟨fun now tag s p => ⟨fun standby aperture =>
      ⟨writePiece_standby now standby aperture, readPiece_standby tag standby aperture⟩, writePiece_view now⟩,
    fun now s r p hr h => ⟨?_, ?_⟩, fun s => ⟨exec_viewStale_of_not, fun stale => ?_⟩⟩
  · rintro a d rfl
    refine ⟨fun standby region => ?_, fun standby region => ?_, fun mode region => ?_⟩
    · rw [execCaptureApertureWrite_of_head now hr ⟨p, by simp [h], region⟩, takeRequest_write_piece h,
        writePiece_standby (s := popArrival s) now standby (by simp [region])]
      rfl
    · rw [exec_viewWrite_of_head hr h region,
        writePiece_standby (s := popArrival s) 0 standby (by simp [region])]
      rfl
    · rw [exec_viewWrite_of_head hr h region, writePiece_view (s := popArrival s) 0 mode region]
      rfl
  · rintro tag a n rfl standby
    refine ⟨fun region => ?_, fun region => ?_⟩
    · refine (exec_captureApertureRead_of_head hr h region).trans ?_
      rw [takeRequest_read_standby hr h standby (by simp [region])]
      rfl
    · rw [exec_viewApertureRead_of_head hr h region, takeRequest_read_standby hr h standby (by simp [region])]
      rfl
  · refine ⟨(Config.staleAddress s.steady.pass.number).toNat, (exec_viewStale_of_stale stale).trans ?_⟩
    rw [closePass_eq stale.1]
    cases s.steady.pass.pinned <;> rfl

end Sys2Proof.Machine
end

section
/-!
What the view source resolves to (R122) (O32), and where a view byte lies (R123) (O33).
-/
namespace Sys2Proof.Machine

/-! ## The newest COMPLETE frame (R122) -/

/-- The step of a search for the element with the least `key`, the first of equals. -/
def nearer {α : Type} (key : α → Nat) (best : Option α) (x : α) : Option α :=
  match best with
  | none => some x
  | some b => if key x < key b then some x else some b

theorem nearer_pick {α : Type} (key : α → Nat) (best : Option α) (x : α) :
    nearer key best x = some x ∨ nearer key best x = best := by
  cases best with
  | none => exact .inl rfl
  | some b => rw [nearer]; split <;> simp

/-- The search from an element on ends with one that no element is nearer than. -/
theorem foldl_nearer_least {α : Type} (key : α → Nat) (l : List α) (b : α) :
    ∃ c, l.foldl (nearer key) (some b) = some c ∧ key c ≤ key b ∧ ∀ x ∈ l, key c ≤ key x := by
  induction l generalizing b with
  | nil => exact ⟨b, rfl, le_rfl, nofun⟩
  | cons a l ih =>
    by_cases closer : key a < key b
    · obtain ⟨c, found, least, rest⟩ := ih a
      refine ⟨c, by simpa [nearer, closer] using found, least.trans closer.le, ?_⟩
      exact List.forall_mem_cons.mpr ⟨least, rest⟩
    · obtain ⟨c, found, least, rest⟩ := ih b
      refine ⟨c, by simpa [nearer, closer] using found, least, ?_⟩
      exact List.forall_mem_cons.mpr ⟨least.trans (Nat.le_of_not_lt closer), rest⟩

/-- The slots among which LIVE chooses: those that can be shown with a COMPLETE frame. -/
def liveSlots (s : State) : List Nat :=
  (List.range s.slots.table.length).filter (fun i => showable s i && (slotAt s i).record.outcome == .complete)

/-- The age of the frame that a slot's record carries (R15). -/
def recordAge (s : State) (i : Nat) : Nat := behind s.slots.seq (slotAt s i).recordFrame

theorem liveSlot_eq_foldl (s : State) : liveSlot s = (liveSlots s).foldl (nearer (recordAge s)) none := by
  rw [liveSlot, liveSlots]
  congr 1
  funext best i
  cases best <;> rfl

/-- Slot `i` holds entry `e` and can be shown (R3, R122). -/
def Shows (s : State) (i : Nat) (e : Slot) : Prop :=
  i ≠ 0 ∧ s.slots.table[i]? = some e ∧ (e.state = .filled ∨ e.state = .held ∨ e.state = .kept)

section
variable {s : State} {i : Nat}

theorem showable_iff_shows : showable s i = true ↔ ∃ e, Shows s i e := by
  rw [showable_iff, ← exists_and_left]; rfl

theorem mem_liveSlots_iff : i ∈ liveSlots s ↔ ∃ e, Shows s i e ∧ e.record.outcome = .complete := by
  simp only [liveSlots, List.mem_filter, List.mem_range, Bool.and_eq_true, beq_iff_eq, showable_iff_shows]
  constructor
  · rintro ⟨-, ⟨e, shows⟩, complete⟩
    exact ⟨e, shows, slotAt_of_getElem? shows.2.1 ▸ complete⟩
  · rintro ⟨e, shows, complete⟩
    exact ⟨(List.getElem?_eq_some_iff.mp shows.2.1).1, ⟨e, shows⟩, slotAt_of_getElem? shows.2.1 ▸ complete⟩

theorem recordAge_of_shows {e : Slot} (shows : Shows s i e) : recordAge s i = behind s.slots.seq e.recordFrame := by
  rw [recordAge, slotAt_of_getElem? shows.2.1]

theorem liveSlot_eq_none (h : liveSlot s = none) : liveSlots s = [] := by
  cases listed : liveSlots s with
  | nil => rfl
  | cons a l =>
    obtain ⟨c, found, -⟩ := foldl_nearer_least (recordAge s) l a
    rw [liveSlot_eq_foldl, listed] at h
    exact absurd (found.symm.trans h) nofun

theorem liveSlot_eq_some (h : liveSlot s = some i) :
    i ∈ liveSlots s ∧ ∀ j ∈ liveSlots s, recordAge s i ≤ recordAge s j := by
  rw [liveSlot_eq_foldl] at h
  refine ⟨(foldl_pick_mem (nearer_pick (recordAge s)) h).resolve_left nofun, ?_⟩
  cases listed : liveSlots s with
  | nil => exact nofun
  | cons a l =>
    obtain ⟨c, found, least⟩ := foldl_nearer_least (recordAge s) l a
    rw [listed] at h
    obtain rfl : c = i := Option.some.inj (found.symm.trans h)
    exact List.forall_mem_cons.mpr least

theorem resolveSource_of_slot (h : s.steady.source = some i) :
    resolveSource s = if showable s i then some i else none := by rw [resolveSource, h]

theorem resolveSource_of_live (h : s.steady.source = none) : resolveSource s = liveSlot s := by rw [resolveSource, h]

end

/-- Settles O32: the search takes the least age among the slots that LIVE chooses from. -/
theorem viewSourceResolvesToAShowableSlot : Obligations.ViewSourceResolvesToAShowableSlot := by
  refine fun s => ⟨fun n source => ?_, fun source => ?_⟩
  · rw [resolveSource_of_slot source]
    exact ⟨fun shown => if_pos (showable_iff_shows.mpr shown),
      fun hidden => if_neg (mt showable_iff_shows.mp hidden)⟩
  · rw [resolveSource_of_live source]
    refine ⟨fun n found => ?_, fun nothing j e shows complete => ?_⟩
    · obtain ⟨listed, least⟩ := liveSlot_eq_some found
      obtain ⟨e, shows, complete⟩ := mem_liveSlots_iff.mp listed
      refine ⟨e, shows, complete, fun j e' shows' complete' => ?_⟩
      rw [← recordAge_of_shows shows, ← recordAge_of_shows (i := j) shows']
      exact least j (mem_liveSlots_iff.mpr ⟨e', shows', complete'⟩)
    · have listed : j ∈ liveSlots s := mem_liveSlots_iff.mpr ⟨e, shows, complete⟩
      rw [liveSlot_eq_none nothing] at listed
      cases listed

/-! ## The address of a view byte (R123) -/

/-- With the crop at quad (`x`, `y`), not left of or above the frame, the address is a sum of natural numbers. -/
theorem viewAddress_eq {g : PassGeometry} {x y : Nat} (hx : (x : Int) = g.mx + g.ox) (hy : (y : Int) = g.my + g.oy)
    (a : Nat) : viewAddress g a =
      g.slotBase + (a / g.pitch + 2 * y) * (g.width * 2) + a % g.pitch + 4 * x := by
  rw [viewAddress, ← hx, ← hy]
  exact Int.toNat_natCast _

/-- A crop offset within the margin puts the crop at most two margins into the frame. -/
theorem exists_crop_quad {m : Nat} {o : Int} (h : o.natAbs ≤ m) : ∃ x : Nat, (x : Int) = m + o ∧ x ≤ 2 * m :=
  ⟨(m + o).toNat, by omega, by omega⟩

/-- A byte of line `v` of at most `h`, at byte `b` of a line of `w` bytes, is one of the `h * w` bytes. -/
theorem lineByte_lt {v b h w : Nat} (hv : v < h) (hb : b < w) : v * w + b < h * w :=
  calc v * w + b < v * w + w := by omega
    _ = (v + 1) * w := (Nat.succ_mul v w).symm
    _ ≤ h * w := Nat.mul_le_mul_right w hv

/-- Settles O33: the crop's line and byte stay inside the frame's lines and pitch. -/
theorem viewBytesLieInsideTheShownFrame : Obligations.ViewBytesLieInsideTheShownFrame := by
  intro g a wide high hox hoy inside pitch
  obtain ⟨x, hx, x_le⟩ := exists_crop_quad hox
  obtain ⟨y, hy, y_le⟩ := exists_crop_quad hoy
  have address : viewAddress g a = g.slotBase + (a / pitch + 2 * y) * (g.width * 2) + a % pitch + 4 * x :=
    viewAddress_eq hx hy a
  have byte : a % pitch < pitch := Nat.mod_lt _ (by omega)
  have line : a / pitch < g.height - 4 * g.my := Nat.div_lt_of_lt_mul inside
  have within : (a / pitch + 2 * y) * (g.width * 2) + (a % pitch + 4 * x) < g.height * (g.width * 2) :=
    lineByte_lt (by omega) (by omega)
  have size : g.height * (g.width * 2) = g.width * g.height * 2 := by ring
  refine ⟨?_, by omega, by omega⟩
  rw [address, ← hx, ← hy]
  push_cast
  rfl

end Sys2Proof.Machine
end

section
/-!
Downstream read responses (R146) and the pass that a marked delivery closes (R125) (O36).
-/
namespace Sys2Proof.Machine

/-! ## The one element of a list that passes a test -/

section
variable {α : Type} {l m : List α} {a : α}

theorem find?_of_only {p : α → Bool} (ha : p a = true) (h : ∀ x ∈ l, p x = false) :
    (l ++ a :: m).find? p = some a := by
  rw [List.find?_append, List.find?_eq_none.mpr (by simpa using h), Option.none_or, List.find?_cons_of_pos ha]

theorem map_of_only {P : α → Prop} [DecidablePred P] (f : α → α) (ha : P a) (h : ∀ x ∈ l ++ m, ¬ P x) :
    (l ++ a :: m).map (fun x => if P x then f x else x) = l ++ f a :: m := by
  obtain ⟨hl, hm⟩ := List.forall_mem_append.mp h
  rw [List.map_append, List.map_cons, if_pos ha, List.map_congr_left fun x hx => if_neg (hl x hx),
    List.map_congr_left fun x hx => if_neg (hm x hx), List.map_id', List.map_id']

end

/-! ## A read in flight (R146) -/

/-- The read `e` stands in the read-tag map between `before` and `after`, and no other read has its tag. -/
structure InFlightBetween (s : State) (before : List ReadEntry) (e : ReadEntry) (after : List ReadEntry) : Prop where
  map : s.link.readMap = before ++ e :: after
  alone : ∀ x ∈ before ++ after, x.tag ≠ e.tag

section
variable {s : State} {before after : List ReadEntry} {e : ReadEntry}

theorem InFlightBetween.onEntry (h : InFlightBetween s before e after) (f : ReadEntry → ReadEntry) :
    onEntry e.tag f s = { s with link := { s.link with readMap := before ++ f e :: after } } := by
  rw [Machine.onEntry, State.onLink, h.map, map_of_only (P := fun x => x.tag = e.tag) f rfl h.alone]

theorem InFlightBetween.find (h : InFlightBetween s before e after) :
    s.link.readMap.find? (fun x => x.tag == e.tag) = some e := by
  rw [h.map]
  exact find?_of_only (beq_self_eq_true _) fun x hx => by simpa using h.alone x (List.mem_append_left _ hx)

theorem InFlightBetween.waits (h : InFlightBetween s before e after) (outstanding : e.ready = false) :
    deliverTag e.tag s = s := by
  rw [deliverTag, h.find]
  exact if_neg (Bool.eq_false_iff.mp outstanding)

theorem InFlightBetween.deliver (h : InFlightBetween s before e after) (ready : e.ready = true) : deliverTag e.tag s =
    passDelivered e.pass { s with link := { s.link with
      readMap := before ++ after,
      delivered := { tag := e.tag, error := e.error, bytes := e.bytes } :: s.link.delivered } } := by
  have rest : s.link.readMap.filter (fun x => x.tag != e.tag) = before ++ after := by
    have others : (before ++ after).filter (fun x => x.tag != e.tag) = before ++ after :=
      List.filter_eq_self.mpr fun x hx => by simpa using h.alone x hx
    rw [List.filter_append] at others
    simpa [h.map] using others
  rw [deliverTag, h.find]
  exact (if_pos ready).trans (by rw [State.onLink, rest])

end

/-! ## The fetch that returns (R146) -/

/-- The fetch `f` of read `e` is in flight under tag `d`, between `pre` and `post`, which have other tags. -/
structure FetchInFlight (d : Nat) (e : ReadEntry) (pre : List HostFetch) (f : HostFetch) (post : List HostFetch) :
    Prop where
  fetches : e.fetches = pre ++ f :: post
  flies : f.inFlight d = true
  alone : ∀ x ∈ pre ++ post, x.dtag ≠ d

/-- The read after the data `bytes` of its fetch `f` have returned. -/
def ReadEntry.returned (e : ReadEntry) (error : Bool) (bytes : List Byte) (pre : List HostFetch) (f : HostFetch)
    (post : List HostFetch) : ReadEntry :=
  { e with bytes := spliceAt e.bytes f.place ((bytes.drop f.skip).take f.count), error := e.error || error,
           fetches := pre ++ { f with returned := true } :: post }

theorem inFlight_iff {f : HostFetch} {d : Nat} :
    f.inFlight d = true ↔ f.dtag = d ∧ f.granted = true ∧ f.returned = false := by
  simp [HostFetch.inFlight, and_assoc]

theorem inFlight_of_other {f : HostFetch} {d : Nat} (h : f.dtag ≠ d) : f.inFlight d = false :=
  Bool.eq_false_iff.mpr fun flies => h (inFlight_iff.mp flies).1

section
variable {d : Nat} {e : ReadEntry} {pre post : List HostFetch} {f : HostFetch}

theorem FetchInFlight.place (h : FetchInFlight d e pre f post) (error : Bool) (bytes : List Byte) :
    e.place d error bytes = e.returned error bytes pre f post := by
  have others : ∀ x ∈ pre ++ post, ¬ x.inFlight d = true := fun x hx =>
    Bool.eq_false_iff.mp (inFlight_of_other (h.alone x hx))
  have found : e.fetches.find? (fun x => x.inFlight d) = some f := by
    rw [h.fetches]
    exact find?_of_only h.flies fun x hx => inFlight_of_other (h.alone x (List.mem_append_left _ hx))
  have marked : e.fetches.map (fun x => if x.inFlight d then { x with returned := true } else x) =
      pre ++ { f with returned := true } :: post := by
    rw [h.fetches]
    exact map_of_only (P := fun x : HostFetch => x.inFlight d = true) (fun x => { x with returned := true }) h.flies
      others
  simp only [ReadEntry.place, found, marked, ReadEntry.returned]

theorem FetchInFlight.any (h : FetchInFlight d e pre f post) : e.fetches.any (fun x => x.inFlight d) = true :=
  List.any_eq_true.mpr ⟨f, by simp [h.fetches], h.flies⟩

/-- The read is ready exactly when its other fetches have returned. -/
theorem ready_returned_iff (error : Bool) (bytes : List Byte) :
    (e.returned error bytes pre f post).ready = true ↔ ∀ x ∈ pre ++ post, x.returned = true := by
  simp only [ReadEntry.ready, ReadEntry.returned, List.all_append, List.all_cons, Bool.true_and, ← List.all_eq_true]

theorem exec_downstreamReadResponse_of_fetch {s : State} {before after : List ReadEntry} (error : Bool)
    (data : List LinkWord) (h : InFlightBetween s before e after) (fetch : FetchInFlight d e pre f post)
    (others : ∀ x ∈ before ++ after, ∀ g ∈ x.fetches, g.dtag ≠ d) :
    exec (.downstreamReadResponse d error data) s = .next (settle s (deliverTag e.tag { s with link := { s.link with
      readMap := before ++ e.returned error (dataBytes data) pre f post :: after } })) := by
  have found : s.link.readMap.find? (fun x => x.fetches.any (fun g => g.inFlight d)) = some e := by
    rw [h.map]
    refine find?_of_only fetch.any fun x hx => List.any_eq_false.mpr fun g hg => ?_
    simpa using inFlight_of_other (others x (List.mem_append_left _ hx) g hg)
  change execDownstreamReadResponse d error data s = _
  rw [execDownstreamReadResponse, found]
  simp only [h.onEntry, fetch.place, finish]

theorem exec_downstreamReadResponse_of_none {s : State} (error : Bool) (data : List LinkWord)
    (h : ∀ x ∈ s.link.readMap, ∀ g ∈ x.fetches, g.inFlight d = false) :
    exec (.downstreamReadResponse d error data) s = .next s := by
  have missing : s.link.readMap.find? (fun x => x.fetches.any (fun g => g.inFlight d)) = none :=
    List.find?_eq_none.mpr (by simpa using h)
  change execDownstreamReadResponse d error data s = _
  rw [execDownstreamReadResponse, missing]
  rfl

end

/-! ## The delivery of a marked read (R125) -/

theorem passDelivered_of_other {s : State} {mark : Option (BitVec 16)}
    (h : mark ≠ some s.steady.pass.number ∨ s.steady.pass.status = .closed) : passDelivered mark s = s := by
  cases mark with
  | none => rfl
  | some n =>
    by_cases same : s.steady.pass.number = n
    · have closed : s.steady.pass.status = .closed := h.resolve_left (by simp [same])
      exact (if_pos same).trans (by rw [closePass, closed])
    · exact if_neg same

theorem passDelivered_of_same (s : State) : passDelivered (some s.steady.pass.number) s = closePass s := if_pos rfl

/-- Settles O36: the tag finds its one fetch, whose read is delivered when no other fetch is outstanding. -/
theorem responsesFillAndDeliverTheRead : Obligations.ResponsesFillAndDeliverTheRead := by
  refine fun d error data s => ⟨fun none_flies => ?_, ?_⟩
  · exact exec_downstreamReadResponse_of_none error data fun x hx g hg =>
      Bool.eq_false_iff.mpr (mt inFlight_iff.mp (none_flies x hx g hg))
  intro before e after pre f post map others fetches dtag granted outstanding alone
  have between : InFlightBetween s before e after := ⟨map, fun x hx => (others x hx).1⟩
  have fetch : FetchInFlight d e pre f post := ⟨fetches, inFlight_iff.mpr ⟨dtag, granted, outstanding⟩, alone⟩
  have runs := exec_downstreamReadResponse_of_fetch error data between fetch fun x hx => (others x hx).2
  have filled : InFlightBetween
      { s with link := { s.link with readMap := before ++ e.returned error (dataBytes data) pre f post :: after } }
      before (e.returned error (dataBytes data) pre f post) after := ⟨rfl, between.alone⟩
  have ready := ready_returned_iff (e := e) (pre := pre) (f := f) (post := post) error (dataBytes data)
  refine ⟨_, runs, fun waits => congrArg (settle s) ?_, fun whole => ⟨fun other => congrArg (settle s) ?_,
    fun same opened => congrArg (settle s) ?_⟩⟩
  · exact filled.waits (Bool.eq_false_iff.mpr (mt ready.mp waits))
  · exact (filled.deliver (ready.mpr whole)).trans (passDelivered_of_other other)
  · refine (filled.deliver (ready.mpr whole)).trans ?_
    change passDelivered e.pass _ = _
    rw [same]
    exact (passDelivered_of_same _).trans (closePass_eq opened)

end Sys2Proof.Machine
end

section
/-!
The commands of the Capture Unit (R129, R130, R136, R137): ARM CAPTURE, STOP CAPTURE and RELEASE SLOT on arrival (O13), and
what each of them, and SET MODE STANDBY, begins when no work is in hand.
-/
namespace Sys2Proof.Machine

/-! ## The last answer of a command's work -/

/-- The capture has ended: the unit is IDLE, and ENDED is given with the counts (R134). -/
def captureEnded (why : EndCause) (u : State) : State :=
  captureEvent { event := .ended, detail := endCauseCode why, countA := u.capture.keptCount,
                 skipCount := u.capture.skipCount } { u with capture := { u.capture with mode := .idle } }

/-- The unit is ARMED, its counts and its index anew (R130). -/
def captureArmed (burst : Nat) (u : State) : State :=
  { u with capture := { u.capture with mode := .armed, burst := burst, nextIndex := 1, keptCount := 0, skipCount := 0 } }

/-- The unit's held list is emptied (R138). -/
def heldEmptied (u : State) : State := { u with capture := { u.capture with heldList := [] } }

section
variable {h : InHand} {u : State}

theorem endCapture_of_free (free : u.capture.work = none) (why : EndCause) : endCapture why u = captureEnded why u := by
  have idle : { u.capture with mode := .idle, work := none } = { u.capture with mode := .idle } := by rw [← free]
  simp only [endCapture, captureEnded, State.onCapture, idle]

theorem completeDone_of_inHand (hand : u.command.inHand = some h) : completeDone u = completedWith h .done 0 u :=
  complete_of_inHand hand _ _

theorem refuse_of_inHand (hand : u.command.inHand = some h) (st : Status) : refuse st u = completedWith h st 0 u :=
  complete_of_inHand hand _ _

theorem armNext_nil (hand : u.command.inHand = some h) (free : u.capture.work = none) (clamped : Bool) (burst : Nat) :
    armNext clamped burst [] u = completedWith h (if clamped then .clamped else .done)
      (if clamped then (u.capture.effectiveP : Int) else 0) (captureArmed burst u) := by
  have rests : { captureArmed burst u with capture := { (captureArmed burst u).capture with work := none } } =
    captureArmed burst u := by rw [← free]; rfl
  have completes (st : Status) (v : Int) :
      complete st v (captureArmed burst u) = completedWith h st v (captureArmed burst u) :=
    complete_of_inHand (s := captureArmed burst u) hand st v
  cases clamped with
  | true => exact (congrArg (complete .clamped u.capture.effectiveP) rests).trans (completes ..)
  | false => exact (congrArg completeDone rests).trans (completes ..)

theorem stopNext_nil (hand : u.command.inHand = some h) (free : u.capture.work = none) (why : StopReason) :
    stopNext why [] u = completedWith h .done 0 (captureEnded why.cause (heldEmptied u)) := by
  have ends : endCapture why.cause (heldEmptied u) = captureEnded why.cause (heldEmptied u) :=
    endCapture_of_free (u := heldEmptied u) free _
  exact (congrArg completeDone ends).trans (completeDone_of_inHand (u := captureEnded _ _) hand)

/-! ## STOP CAPTURE and SET MODE STANDBY (R136, R138) -/

theorem startStop_idle {why : StopReason} (idle : u.capture.mode = .idle) : startStop why u = completeDone u := by
  simp only [startStop, idle]

/-- The capture ends without an unhold: it runs, or it is armed and holds no frame. -/
theorem startStop_ends {why : StopReason} (hand : u.command.inHand = some h) (free : u.capture.work = none)
    (ends : u.capture.mode = .running ∨ (u.capture.mode = .armed ∧ u.capture.heldList = [])) :
    startStop why u = completedWith h .done 0 (captureEnded why.cause u) := by
  rcases ends with running | ⟨isArmed, empty⟩
  · rw [startStop_running running, endCapture_of_free free]
    exact completeDone_of_inHand (u := captureEnded _ _) hand
  · have emptied : heldEmptied u = u := by simp only [heldEmptied, ← empty]
    rw [startStop_armed isArmed, empty, stopNext_nil hand free, emptied]

theorem startStop_asks {why : StopReason} {e : HeldEntry} {rest : List HeldEntry} (isArmed : u.capture.mode = .armed)
    (held : u.capture.heldList = e :: rest) : startStop why u = askSlots .unhold e 0 0 (.stopping rest why) u := by
  rw [startStop_armed isArmed, held]; rfl

/-! ## RELEASE SLOT (R137) -/

/-- Slot `n` of a valid configuration is KEPT, with entry `e`. -/
def KeptSlot (u : State) (n : Nat) (e : Slot) : Prop :=
  u.command.valid = true ∧ n < u.command.config.slotCount ∧ u.slots.table[n]? = some e ∧ e.state = .kept

theorem startRelease_asks {n : Nat} {e : Slot} (kept : KeptSlot u n e) :
    startRelease n u = askSlots .release { slot := n, frame := e.recordFrame } 0 0 .releasing u := by
  obtain ⟨valid, below, entry, state⟩ := kept
  simp only [startRelease, slotAt_of_getElem? entry, valid, below, state, decide_true, Bool.and_self, if_true]

/-- An entry beyond the table is FREE, so a slot that passes as KEPT is an entry of the table. -/
theorem startRelease_refuses {n : Nat} (none_kept : ¬ ∃ e, KeptSlot u n e) : startRelease n u = refuse .badParameter u := by
  simp only [startRelease]
  split
  · rename_i legal
    obtain ⟨valid, below⟩ := Bool.and_eq_true_iff.mp legal
    refine if_neg fun state => none_kept ⟨slotAt u n, valid, of_decide_eq_true below, ?_, state⟩
    cases entry : u.slots.table[n]? with
    | some e => rw [slotAt_of_getElem? entry]
    | none => rw [slotAt, getAt_eq, entry] at state; cases state
  · rfl

/-! ## ARM CAPTURE (R130, R131) -/

/-- The effective P of ARM CAPTURE (R130). -/
def armDepth (pre : Nat) (u : State) : Nat := min pre (keepLimit u - countSlots u .kept)

/-- The frames that ARM CAPTURE holds: the newest candidates, oldest first (R130). -/
def armPicks (pre : Nat) (u : State) : List HeldEntry :=
  (candidates u).drop ((candidates u).length - armDepth pre u)

/-- ARM CAPTURE is accepted: its effective P is noted, and the announcements that wait are passed over (R130, R131). -/
def armAccepted (pre : Nat) (u : State) : State :=
  { u with capture := { passAnnouncements u.capture with effectiveP := armDepth pre u } }

theorem startArm_notReady {pre burst : Nat} (mode : u.command.mode ≠ .view) : startArm pre burst u = refuse .notReady u :=
  if_pos mode

theorem startArm_conflict {pre burst : Nat} (mode : u.command.mode = .view) (busy : u.capture.mode ≠ .idle) :
    startArm pre burst u = refuse .conflict u := (if_neg (not_not.mpr mode)).trans (if_pos busy)

theorem startArm_badParameter {pre burst : Nat} (mode : u.command.mode = .view) (idle : u.capture.mode = .idle)
    (beyond : 8 < pre ∨ 64 < burst) : startArm pre burst u = refuse .badParameter u :=
  ((if_neg (not_not.mpr mode)).trans (if_neg (not_not.mpr idle))).trans (if_pos beyond)

theorem startArm_accepts {pre burst : Nat} (mode : u.command.mode = .view) (idle : u.capture.mode = .idle)
    (legal : ¬ (8 < pre ∨ 64 < burst)) : startArm pre burst u =
      armNext (decide (armDepth pre u < pre)) burst (armPicks pre u) (armAccepted pre u) :=
  ((if_neg (not_not.mpr mode)).trans (if_neg (not_not.mpr idle))).trans (if_neg legal)

/-- ARM CAPTURE with no frame to hold. -/
theorem startArm_arms {pre burst : Nat} (hand : u.command.inHand = some h) (free : u.capture.work = none)
    (mode : u.command.mode = .view) (idle : u.capture.mode = .idle) (legal : ¬ (8 < pre ∨ 64 < burst))
    (picks : armPicks pre u = []) : startArm pre burst u =
      completedWith h (if armDepth pre u < pre then .clamped else .done)
        (if armDepth pre u < pre then (armDepth pre u : Int) else 0) (captureArmed burst (armAccepted pre u)) := by
  rw [startArm_accepts mode idle legal, picks, armNext_nil (u := armAccepted pre u) hand free]
  simp only [decide_eq_true_eq]
  rfl

theorem startArm_asks {pre burst : Nat} {e : HeldEntry} {rest : List HeldEntry} (mode : u.command.mode = .view)
    (idle : u.capture.mode = .idle) (legal : ¬ (8 < pre ∨ 64 < burst)) (picks : armPicks pre u = e :: rest) :
    startArm pre burst u =
      askSlots .hold e 0 0 (.arming e rest (decide (armDepth pre u < pre)) burst) (armAccepted pre u) := by
  rw [startArm_accepts mode idle legal, picks]; rfl

end

/-! ## The commands on arrival (R129) -/

section
variable {code tag : BitVec 16} {s : State}

theorem takeCommand_of_free (free : s.capture.work = none) (k : CaptureCommand) :
    takeCommand k (executing code tag s) = startCommand k (executing code tag s) := by
  simp only [takeCommand, executing_frame, free]

theorem takeCommand_waits (work : s.capture.work ≠ none) (k : CaptureCommand) : takeCommand k (executing code tag s) =
    executing code tag { s with capture := { s.capture with command := some k } } := by
  unfold takeCommand
  split
  · contradiction
  · rfl

/-- A command of the unit that arrives while no work is in hand begins at once. -/
theorem runCommand_begins {k : CaptureCommand} {u : State} (arrives : CommandArrives s) (free : s.capture.work = none)
    (begins : startCommand k (executing code tag s) = u) :
    runCommand code tag (takeCommand k) s = .next (settle s u) := by
  rw [runCommand_of_arrives code tag _ arrives, takeCommand_of_free free, begins]

theorem runCommand_waits (arrives : CommandArrives s) (work : s.capture.work ≠ none) (k : CaptureCommand) :
    runCommand code tag (takeCommand k) s =
      .next (settle s (executing code tag { s with capture := { s.capture with command := some k } })) := by
  rw [runCommand_of_arrives code tag _ arrives, takeCommand_waits work]

end

/-- Settles O13: each command by the case of its tests. -/
theorem captureCommandsArmStopAndRelease : Obligations.CaptureCommandsArmStopAndRelease := by
  refine ⟨fun tag pre burst s arrives free => ?_, fun tag s arrives free => ?_, fun tag n s arrives free => ?_,
    fun tag pre burst n s arrives work => ?_⟩
  · intro out legal p picked toggles
    have runs {u : State} := runCommand_begins (code := codeArmCapture) (tag := tag)
      (k := .arm pre.toNat burst.toNat) (u := u) arrives free
    have inRange (hl : legal) : ¬ (8 < pre.toNat ∨ 64 < burst.toNat) := fun beyond => by
      obtain ⟨hp, hb⟩ := hl
      omega
    refine ⟨fun mode => ?_, fun mode busy => ?_, fun mode idle beyond => ?_, fun mode idle hl picks => ?_,
      fun e rest mode idle hl picks => ?_⟩
    · exact runs (startArm_notReady (by simp [mode]))
    · exact runs (startArm_conflict mode busy)
    · exact runs (startArm_badParameter mode idle (by simp only [legal] at beyond; omega))
    · have armedNow := startArm_arms (h := ⟨codeArmCapture, tag⟩) (u := executing codeArmCapture tag s) rfl free mode idle
        (inRange hl) picks
      rw [← free]
      exact runs armedNow
    · exact runs (startArm_asks mode idle (inRange hl) picks)
  · have runs {u : State} := runCommand_begins (code := codeStopCapture) (tag := tag) (k := .stop) (u := u) arrives free
    have ends := startStop_ends (h := ⟨codeStopCapture, tag⟩) (u := executing codeStopCapture tag s) (why := .stopCommand)
      rfl free
    exact ⟨fun idle => runs (startStop_idle idle), fun running => runs (ends (.inl running)),
      fun isArmed empty => runs (ends (.inr ⟨isArmed, empty⟩)),
      fun e rest isArmed held => runs (startStop_asks isArmed held)⟩
  · have runs {u : State} := runCommand_begins (code := codeReleaseSlot) (tag := tag) (k := .release n.toNat) (u := u)
      arrives free
    exact ⟨fun refused => runs (startRelease_refuses refused), fun e kept => runs (startRelease_asks kept)⟩
  · exact ⟨runCommand_waits arrives work _, runCommand_waits arrives work _, runCommand_waits arrives work _⟩

end Sys2Proof.Machine
end

section
/-!
The messages of the Capture Unit (R131 to R133), the Slot Manager's answers with what begins after them (R129 to R138), and
buffer high (R135) (O46).
-/
namespace Sys2Proof.Machine

/-! ## Buffer high (R135) -/

section
variable {u : State}

theorem evalBufferHigh_capture : (evalBufferHigh u).capture = { u.capture with bufferHigh := bufferFlag u } := by
  by_cases same : bufferFlag u = u.capture.bufferHigh
  · rw [evalBufferHigh_stays same, same]
  · rw [evalBufferHigh_changes same]

/-- The flag changes to `flag`, and its event is given. -/
theorem evalBufferHigh_turns {flag : Bool} (turned : bufferFlag u = flag) (was : u.capture.bufferHigh ≠ flag) :
    evalBufferHigh u = captureEvent
      { event := if flag then .bufferHigh else .bufferLow, keptSlots := countSlots u .kept, heldSlots := countSlots u .held }
      { u with capture := { u.capture with bufferHigh := flag } } := by
  subst turned
  exact evalBufferHigh_changes was.symm

theorem bufferFlag_of_clear (clear : u.capture.bufferHigh = false) :
    bufferFlag u = decide (u.command.config.slotCount - 4 ≤ countSlots u .kept + countSlots u .held) :=
  if_neg (by simp [clear])

theorem bufferFlag_of_set (set : u.capture.bufferHigh = true) :
    bufferFlag u = !(decide (countSlots u .kept + countSlots u .held ≤ (u.command.config.slotCount - 3) / 2) &&
      decide (countSlots u .kept + countSlots u .held < u.command.config.slotCount - 4)) := if_pos set

theorem evalBufferHigh_rises (clear : u.capture.bufferHigh = false)
    (reached : u.command.config.slotCount - 4 ≤ countSlots u .kept + countSlots u .held) :
    evalBufferHigh u = captureEvent
      { event := .bufferHigh, keptSlots := countSlots u .kept, heldSlots := countSlots u .held }
      { u with capture := { u.capture with bufferHigh := true } } :=
  evalBufferHigh_turns (flag := true) ((bufferFlag_of_clear clear).trans (decide_eq_true reached)) (by simp [clear])

theorem evalBufferHigh_falls (set : u.capture.bufferHigh = true)
    (low : countSlots u .kept + countSlots u .held ≤ (u.command.config.slotCount - 3) / 2 ∧
      countSlots u .kept + countSlots u .held < u.command.config.slotCount - 4) :
    evalBufferHigh u = captureEvent
      { event := .bufferLow, keptSlots := countSlots u .kept, heldSlots := countSlots u .held }
      { u with capture := { u.capture with bufferHigh := false } } := by
  refine evalBufferHigh_turns (flag := false) ((bufferFlag_of_set set).trans ?_) (by simp [set])
  rw [← Bool.decide_and, decide_eq_true low]
  rfl

theorem evalBufferHigh_stays_clear (clear : u.capture.bufferHigh = false)
    (below : countSlots u .kept + countSlots u .held < u.command.config.slotCount - 4) : evalBufferHigh u = u := by
  refine evalBufferHigh_stays ((bufferFlag_of_clear clear).trans ?_)
  rw [clear]
  exact decide_eq_false (Nat.not_le.mpr below)

theorem evalBufferHigh_stays_set (set : u.capture.bufferHigh = true)
    (above : ¬ (countSlots u .kept + countSlots u .held ≤ (u.command.config.slotCount - 3) / 2 ∧
      countSlots u .kept + countSlots u .held < u.command.config.slotCount - 4)) : evalBufferHigh u = u := by
  refine evalBufferHigh_stays ((bufferFlag_of_set set).trans ?_)
  rw [set, ← Bool.decide_and, decide_eq_false above]
  rfl

end

/-! ## A burst frame has been kept (R133, R134) -/

/-- The index and the count rise, and KEPT is given. -/
def burstCounted (e : HeldEntry) (torn : Bool) (u : State) : State :=
  captureEvent { event := .kept, slot := some e.slot, index := u.capture.nextIndex, frame := e.frame, torn := torn }
    { u with capture := { u.capture with nextIndex := u.capture.nextIndex + 1, keptCount := u.capture.keptCount + 1 } }

/-- One more frame fills the burst (R134). -/
def BurstFills (c : CaptureUnit) : Prop := 1 ≤ c.burst ∧ c.keptCount + 1 = c.burst

section
variable {u : State} (e : HeldEntry) (t : Bool)

theorem burstCounted_fills_iff : BurstFills u.capture ↔
    1 ≤ (evalBufferHigh (burstCounted e t u)).capture.burst ∧
    (evalBufferHigh (burstCounted e t u)).capture.keptCount = (evalBufferHigh (burstCounted e t u)).capture.burst := by
  rw [evalBufferHigh_capture]; rfl

theorem burstKept_fills (fills : BurstFills u.capture) :
    burstKept e t u = endCapture .burstDone (evalBufferHigh (burstCounted e t u)) :=
  if_pos ((burstCounted_fills_iff e t).mp fills)

theorem burstKept_last (room : ¬ BurstFills u.capture) (last : u.capture.nextIndex = 32767) :
    burstKept e t u = endCapture .indexLimit (evalBufferHigh (burstCounted e t u)) :=
  (if_neg (mt (burstCounted_fills_iff e t).mpr room)).trans (if_pos last)

theorem burstKept_runs (room : ¬ BurstFills u.capture) (more : u.capture.nextIndex ≠ 32767) :
    burstKept e t u = evalBufferHigh (burstCounted e t u) :=
  (if_neg (mt (burstCounted_fills_iff e t).mpr room)).trans (if_neg more)

end

/-! ## The work in hand is read by no part of an answer (R129) -/

section
variable (u : State)

theorem evalBufferHigh_rest : evalBufferHigh (u.onCapture restWork) = (evalBufferHigh u).onCapture restWork := by
  have flag : bufferFlag (u.onCapture restWork) = bufferFlag u := rfl
  by_cases same : bufferFlag u = u.capture.bufferHigh
  · rw [evalBufferHigh_stays same, evalBufferHigh_stays (s := u.onCapture restWork) same]
  · rw [evalBufferHigh_changes same, evalBufferHigh_changes (s := u.onCapture restWork) same]; rfl

theorem keepNext_rest (l : List HeldEntry) (i : Int) (k : Nat) :
    keepNext l i k (u.onCapture restWork) = keepNext l i k u := by cases l <;> rfl

theorem endCapture_rest (why : EndCause) :
    endCapture why (u.onCapture restWork) = (endCapture why u).onCapture restWork := rfl

theorem endWork_rest : endWork (u.onCapture restWork) = endWork u := rfl

theorem burstKept_rest (e : HeldEntry) (t : Bool) :
    burstKept e t (u.onCapture restWork) = (burstKept e t u).onCapture restWork := by
  have counted := evalBufferHigh_rest (burstCounted e t u)
  by_cases fills : BurstFills u.capture
  · rw [burstKept_fills e t fills]
    exact ((burstKept_fills (u := u.onCapture restWork) e t fills).trans (congrArg (endCapture .burstDone) counted)).trans
      (endCapture_rest _ _)
  · by_cases last : u.capture.nextIndex = 32767
    · rw [burstKept_last e t fills last]
      exact ((burstKept_last (u := u.onCapture restWork) e t fills last).trans
        (congrArg (endCapture .indexLimit) counted)).trans (endCapture_rest _ _)
    · rw [burstKept_runs e t fills last]
      exact (burstKept_runs (u := u.onCapture restWork) e t fills last).trans counted

theorem continueWork_rest (w : CaptureWork) (a : SlotAnswer) :
    continueWork w a (u.onCapture restWork) = continueWork w a u := by
  cases w with
  | arming e rest c b =>
    cases a
    · exact (congrArg (armNext c b rest) (evalBufferHigh_rest (appendHeld e u))).trans (armNext_rest ..)
    all_goals exact armNext_rest ..
  | makeRoom e =>
    cases a
    · exact (congrArg (askHold e)
        (evalBufferHigh_rest (u.onCapture (fun c => { c with heldList := c.heldList.tail })))).trans rfl
    all_goals rfl
  | holdFrame e =>
    cases a
    · exact (congrArg endWork (evalBufferHigh_rest (appendHeld e u))).trans (endWork_rest _)
    all_goals rfl
  | keepHeld e rest i k =>
    cases a
    · exact (congrArg (keepNext rest (i + 1) k) (evalBufferHigh_rest (keptEvent e i (heldTorn u e) u))).trans
        (keepNext_rest ..)
    all_goals exact keepNext_rest ..
  | keepFrame e t =>
    cases a
    · exact (congrArg endWork (burstKept_rest u e t)).trans (endWork_rest _)
    all_goals rfl
  | stopping rest why =>
    cases a
    · exact (congrArg (stopNext why rest) (evalBufferHigh_rest u)).trans (stopNext_rest ..)
    all_goals exact stopNext_rest ..
  | releasing =>
    cases a
    · exact (congrArg (fun x => endWork (completeDone x)) (evalBufferHigh_rest u)).trans
        (endWork_rest (completeDone (evalBufferHigh u)))
    all_goals rfl

end

/-! ## What an answer does, by the work it belongs to (R129 to R138) -/

section
variable (a : SlotAnswer) (u : State)

theorem continueWork_arming (e : HeldEntry) (rest : List HeldEntry) (c : Bool) (b : Nat) :
    continueWork (.arming e rest c b) a u = armNext c b rest (if a = .done then evalBufferHigh (appendHeld e u) else u) := by
  cases a <;> rfl

theorem continueWork_makeRoom (e : HeldEntry) : continueWork (.makeRoom e) a u =
    let room := { u with capture := { u.capture with heldList := u.capture.heldList.tail } }
    askHold e (if a = .done then evalBufferHigh room else room) := by
  cases a <;> rfl

theorem continueWork_keepHeld (e : HeldEntry) (rest : List HeldEntry) (i : Int) (k : Nat) :
    continueWork (.keepHeld e rest i k) a u =
      keepNext rest (i + 1) k (if a = .done then evalBufferHigh (keptEvent e i (heldTorn u e) u) else u) := by
  cases a <;> rfl

theorem continueWork_stopping (rest : List HeldEntry) (why : StopReason) :
    continueWork (.stopping rest why) a u = stopNext why rest (if a = .done then evalBufferHigh u else u) := by
  cases a <;> rfl

variable {a}

theorem continueWork_holdFrame_refused (e : HeldEntry) (refused : a ≠ .done) :
    continueWork (.holdFrame e) a u = endWork u := by
  cases a
  · contradiction
  all_goals rfl

theorem continueWork_keepFrame_refused (e : HeldEntry) (t : Bool) (refused : a ≠ .done) :
    continueWork (.keepFrame e t) a u = endWork (skipFrame e .gone u) := by
  cases a
  · contradiction
  all_goals rfl

theorem StopReason.cause_eq (why : StopReason) : why.cause = if why = .stopCommand then .stopped else .standby := by
  cases why <;> rfl

theorem heldTorn_eq (e : HeldEntry) :
    heldTorn u e = (u.slots.table[e.slot]?.map (fun x => x.record.torn)).getD false := by
  rw [heldTorn, slotAt, getAt_eq]
  cases u.slots.table[e.slot]? with
  | none => rfl
  | some x => rfl

end


/-! ## The end of a piece of work (R129) -/

/-- What STOP CAPTURE and SET MODE STANDBY begin (R136, R138). -/
def stopBegun (h : InHand) (u : State) (why : StopReason) : State :=
  match u.capture.mode, u.capture.heldList with
  | .idle, _ => completedWith h .done 0 u
  | .running, _ => completedWith h .done 0 (captureEnded why.cause u)
  | .armed, [] => completedWith h .done 0 (captureEnded why.cause u)
  | .armed, e :: rest => askSlots .unhold e 0 0 (.stopping rest why) u

/-- What ARM CAPTURE begins (R130). -/
def armBegun (h : InHand) (u : State) (pre burst : Nat) : State :=
  if u.command.mode ≠ .view then completedWith h .notReady 0 u
  else if u.capture.mode ≠ .idle then completedWith h .conflict 0 u
  else if 8 < pre ∨ 64 < burst then completedWith h .badParameter 0 u
  else match armPicks pre u with
    | e :: rest => askSlots .hold e 0 0 (.arming e rest (decide (armDepth pre u < pre)) burst) (armAccepted pre u)
    | [] => completedWith h (if armDepth pre u < pre then .clamped else .done)
      (if armDepth pre u < pre then (armDepth pre u : Int) else 0) (captureArmed burst (armAccepted pre u))

/-- What RELEASE SLOT begins (R137). -/
def releaseBegun (h : InHand) (u : State) (n : Nat) : State :=
  match u.slots.table[n]? with
  | some e =>
    if u.command.valid = true ∧ n < u.command.config.slotCount ∧ e.state = .kept then
      askSlots .release { slot := n, frame := e.recordFrame } 0 0 .releasing u
    else completedWith h .badParameter 0 u
  | none => completedWith h .badParameter 0 u

/-- What a command begins that waited for the work in hand to end (R129). -/
def commandBegun (h : InHand) (u : State) : CaptureCommand → State
  | .arm pre burst => armBegun h u pre burst
  | .stop => stopBegun h u .stopCommand
  | .standby => stopBegun h u .modeStandby
  | .release n => releaseBegun h u n

section
variable {h : InHand} {u : State} (hand : u.command.inHand = some h)
include hand

theorem startRelease_begun (n : Nat) : startRelease n u = releaseBegun h u n := by
  have refused := refuse_of_inHand hand .badParameter
  unfold releaseBegun
  split
  next e entry =>
    split
    next kept =>
      obtain ⟨valid, below, state⟩ := kept
      exact startRelease_asks ⟨valid, below, entry, state⟩
    next other =>
      refine (startRelease_refuses ?_).trans refused
      rintro ⟨x, valid, below, found, state⟩
      exact other ⟨valid, below, Option.some.inj (entry.symm.trans found) ▸ state⟩
  next beyond =>
    refine (startRelease_refuses ?_).trans refused
    rintro ⟨x, -, -, found, -⟩
    exact absurd found (by simp [beyond])

variable (free : u.capture.work = none)
include free

theorem startStop_begun (why : StopReason) : startStop why u = stopBegun h u why := by
  cases mode : u.capture.mode with
  | idle =>
    simp only [stopBegun, mode]
    exact (startStop_idle mode).trans (completeDone_of_inHand hand)
  | running =>
    simp only [stopBegun, mode]
    exact startStop_ends hand free (.inl mode)
  | armed =>
    cases held : u.capture.heldList with
    | nil =>
      simp only [stopBegun, mode, held]
      exact startStop_ends hand free (.inr ⟨mode, held⟩)
    | cons e rest =>
      simp only [stopBegun, mode, held]
      exact startStop_asks mode held

theorem startArm_begun (pre burst : Nat) : startArm pre burst u = armBegun h u pre burst := by
  unfold armBegun
  split
  · exact (startArm_notReady ‹_›).trans (refuse_of_inHand hand _)
  · rename_i mode
    have view := not_not.mp mode
    split
    · exact (startArm_conflict view ‹_›).trans (refuse_of_inHand hand _)
    · rename_i busy
      have idle := not_not.mp busy
      split
      · exact (startArm_badParameter view idle ‹_›).trans (refuse_of_inHand hand _)
      · split
        · exact startArm_asks view idle ‹_› ‹_›
        · exact startArm_arms hand free view idle ‹_› ‹_›

theorem startCommand_begun (k : CaptureCommand) : startCommand k u = commandBegun h u k := by
  cases k with
  | arm pre burst => exact startArm_begun hand free pre burst
  | stop => exact startStop_begun hand free _
  | release n => exact startRelease_begun hand n
  | standby => exact startStop_begun hand free _

end

theorem endWork_of_alone {u : State} (free : u.capture.work = none) (alone : u.capture.command = none) :
    endWork u = u := by
  have rests : u.onCapture restWork = u := by simp only [State.onCapture, restWork, ← free]
  refine Eq.trans ?_ rests
  simp only [endWork, State.onCapture_capture, alone]
  rfl

/-- RELEASE SLOT completes, and its work ends (R137). -/
theorem endWork_completes {h : InHand} {u : State} (hand : u.command.inHand = some h) (free : u.capture.work = none)
    (alone : u.capture.command = none) (st : Status) : endWork (complete st 0 u) = completedWith h st 0 u := by
  rw [complete_of_inHand hand]
  exact endWork_of_alone (u := completedWith h st 0 u) free alone

theorem endWork_begins {h : InHand} {u : State} {k : CaptureCommand} (hand : u.command.inHand = some h)
    (free : u.capture.work = none) (waits : u.capture.command = some k) :
    endWork u = commandBegun h { u with capture := { u.capture with command := none } } k := by
  have rests : u.onCapture restWork = u := by simp only [State.onCapture, restWork, ← free]
  have ends : endWork u = startCommand k ((u.onCapture restWork).onCapture (fun c => { c with command := none })) := by
    simp only [endWork, State.onCapture_capture, waits]; rfl
  rw [ends, rests]
  exact startCommand_begun (u := u.onCapture (fun c => { c with command := none })) hand free k

/-- The work goes on from `u` after an answer to a request of `s`: no work is in hand, and the command that waits, the command
in hand, the capture id and the effective P are those of `s`. -/
structure AfterAnswer (s u : State) : Prop where
  free : u.capture.work = none
  waits : u.capture.command = s.capture.command
  hand : u.command.inHand = s.command.inHand
  id : u.capture.id = s.capture.id
  depth : u.capture.effectiveP = s.capture.effectiveP

namespace AfterAnswer
variable {s u x : State}

theorem evalBufferHigh (h : AfterAnswer s u) : AfterAnswer s (evalBufferHigh u) := by
  obtain ⟨free, waits, hand, id, depth⟩ := h
  exact ⟨by simp [evalBufferHigh_capture, free], by simp [evalBufferHigh_capture, waits], by simp [hand],
    by simp [evalBufferHigh_capture, id], by simp [evalBufferHigh_capture, depth]⟩

theorem captureEnded (h : AfterAnswer s u) (why : EndCause) : AfterAnswer s (captureEnded why u) := by
  obtain ⟨free, waits, hand, id, depth⟩ := h
  exact ⟨free, waits, hand, id, depth⟩

theorem ite {p : Prop} [Decidable p] (h : AfterAnswer s u) (h' : AfterAnswer s x) : AfterAnswer s (if p then u else x) := by
  split
  · exact h
  · exact h'

end AfterAnswer

/-! ## The messages (R131 to R133) -/

section
variable {s : State}

theorem captureFree_iff : captureFree s = true ↔ s.capture.work = none ∧ s.capture.command = none := by
  simp [captureFree]

/-- The unit's messages are those of `rest`. -/
def messagesLeft (rest : List CaptureMessage) (s : State) : State :=
  { s with capture := { s.capture with messages := rest } }

theorem popCapture_of_messages {m : CaptureMessage} {rest : List CaptureMessage} (head : s.capture.messages = m :: rest) :
    popCapture s = messagesLeft rest s := by
  simp only [popCapture, State.onCapture, head, messagesLeft, List.tail_cons]

theorem exec_captureCompletion_of_message {a : Announcement} {rest : List CaptureMessage}
    (free : s.capture.work = none ∧ s.capture.command = none) (head : s.capture.messages = .completion a :: rest) :
    exec .captureCompletion s = .next (settle s (captureCompletion a (messagesLeft rest s))) := by
  simp only [exec, execCaptureCompletion, captureFree_iff.mpr free, head, popCapture_of_messages head]
  rfl

theorem exec_captureCompletion_of_none (none_due : ¬ (s.capture.work = none ∧ s.capture.command = none) ∨
    ∀ a rest, s.capture.messages ≠ .completion a :: rest) : exec .captureCompletion s = .next s := by
  simp only [exec, execCaptureCompletion]
  split
  next a rest free head => exact (none_due.elim (· (captureFree_iff.mp free)) (· a rest head)).elim
  next => rfl

theorem exec_captureTrigger_of_message {v : Bool} {rest : List CaptureMessage}
    (free : s.capture.work = none ∧ s.capture.command = none) (head : s.capture.messages = .toggle v :: rest) :
    exec .captureTrigger s = .next (settle s (captureToggle v (messagesLeft rest s))) := by
  simp only [exec, execCaptureTrigger, captureFree_iff.mpr free, head, popCapture_of_messages head]
  rfl

theorem exec_captureTrigger_of_none (none_due : ¬ (s.capture.work = none ∧ s.capture.command = none) ∨
    ∀ v rest, s.capture.messages ≠ .toggle v :: rest) : exec .captureTrigger s = .next s := by
  simp only [exec, execCaptureTrigger]
  split
  next v rest free head => exact (none_due.elim (· (captureFree_iff.mp free)) (· v rest head)).elim
  next => rfl

end

section
variable {a : Announcement} {u : State}

theorem captureCompletion_idle (idle : u.capture.mode = .idle) : captureCompletion a u = u := by
  simp only [captureCompletion, idle]

theorem captureCompletion_armed (isArmed : u.capture.mode = .armed) : captureCompletion a u = armedCompletion a u := by
  simp only [captureCompletion, isArmed]

theorem captureCompletion_running (running : u.capture.mode = .running) :
    captureCompletion a u = runningCompletion a u := by
  simp only [captureCompletion, running]

theorem armedCompletion_passes (isArmed : u.capture.mode = .armed)
    (passes : u.capture.effectiveP = 0 ∨ a.outcome = .spilled) : captureCompletion a u = u :=
  (captureCompletion_armed isArmed).trans (if_pos passes)

theorem armedCompletion_holds (isArmed : u.capture.mode = .armed)
    (holds : ¬ (u.capture.effectiveP = 0 ∨ a.outcome = .spilled))
    (room : u.capture.heldList.length < u.capture.effectiveP) :
    captureCompletion a u = askHold { slot := a.slot, frame := a.frame } u :=
  (captureCompletion_armed isArmed).trans ((if_neg holds).trans (if_pos room))

theorem armedCompletion_makesRoom {old : HeldEntry} {more : List HeldEntry} (isArmed : u.capture.mode = .armed)
    (holds : ¬ (u.capture.effectiveP = 0 ∨ a.outcome = .spilled))
    (full : u.capture.effectiveP ≤ u.capture.heldList.length)
    (held : u.capture.heldList = old :: more) :
    captureCompletion a u = askSlots .unhold old 0 0 (.makeRoom { slot := a.slot, frame := a.frame }) u := by
  refine (captureCompletion_armed isArmed).trans (((if_neg holds).trans (if_neg (Nat.not_lt.mpr full))).trans ?_)
  rw [held]

theorem runningCompletion_spilled (running : u.capture.mode = .running) (spilled : a.outcome = .spilled) :
    captureCompletion a u = skipFrame { slot := a.slot, frame := a.frame } .spilled u :=
  (captureCompletion_running running).trans (if_pos spilled)

theorem runningCompletion_full (running : u.capture.mode = .running) (stored : a.outcome ≠ .spilled)
    (full : keepLimit u ≤ fencedSlots u) :
    captureCompletion a u = skipFrame { slot := a.slot, frame := a.frame } .full u :=
  (captureCompletion_running running).trans ((if_neg stored).trans (if_pos full))

theorem runningCompletion_keeps (running : u.capture.mode = .running) (stored : a.outcome ≠ .spilled)
    (room : fencedSlots u < keepLimit u) :
    captureCompletion a u = askSlots .keep { slot := a.slot, frame := a.frame } u.capture.id u.capture.nextIndex
      (.keepFrame { slot := a.slot, frame := a.frame } a.torn) u :=
  (captureCompletion_running running).trans ((if_neg stored).trans (if_neg (Nat.not_le.mpr room)))

/-! ## The trigger (R132) -/

/-- The toggle's value is acknowledged. -/
def toggleTaken (v : Bool) (u : State) : State := { u with capture := { u.capture with acknowledge := v } }

theorem captureToggle_acknowledged {v : Bool} (same : v = u.capture.acknowledge) : captureToggle v u = u := if_pos same

theorem captureToggle_ignored {v : Bool} (flips : v ≠ u.capture.acknowledge) (mode : u.capture.mode ≠ .armed) :
    captureToggle v u = captureEvent { event := .triggerIgnored, detail := captureModeCode u.capture.mode }
      (toggleTaken v u) := by
  refine (if_neg flips).trans ?_
  cases m : u.capture.mode with
  | armed => contradiction
  | idle => simp only [State.onCapture_capture, m]; rfl
  | running => simp only [State.onCapture_capture, m]; rfl

theorem captureToggle_armed {v : Bool} (flips : v ≠ u.capture.acknowledge) (isArmed : u.capture.mode = .armed) :
    captureToggle v u = armedTrigger (toggleTaken v u) := by
  refine (if_neg flips).trans ?_
  simp only [State.onCapture_capture, isArmed]
  rfl

/-- The next capture id: it counts on from 65535 to 1 (R132). -/
def idCounted (u : State) : State := { u with capture := { u.capture with id := u.capture.id % 65535 + 1 } }

/-- The capture runs at once when it holds no frame. -/
theorem armedTrigger_nil (free : u.capture.work = none) (alone : u.capture.command = none)
    (held : u.capture.heldList = []) : armedTrigger u = captureEvent { event := .triggered }
      { idCounted u with capture := { (idCounted u).capture with mode := .running } } := by
  have running : { (idCounted u).capture with heldList := [], mode := .running } =
      { (idCounted u).capture with mode := .running } := by rw [← held]; rfl
  have burst : runBurst 0 (idCounted u) = captureEvent { event := .triggered }
      { idCounted u with capture := { (idCounted u).capture with mode := .running } } := by
    simp only [runBurst, State.onCapture, running]
  unfold armedTrigger
  rw [held, ← burst]
  exact endWork_of_alone (u := runBurst 0 (idCounted u)) free alone

theorem armedTrigger_cons {e : HeldEntry} {more : List HeldEntry} (held : u.capture.heldList = e :: more) :
    armedTrigger u = askSlots .keep e (u.capture.id % 65535 + 1) (-(u.capture.heldList.length : Int))
      (.keepHeld e more (-(u.capture.heldList.length : Int)) u.capture.heldList.length) (idCounted u) := by
  unfold armedTrigger
  rw [held]
  rfl

end

/-! ## The answers (R129) -/

section
variable {s : State}

/-- The answer is consumed, and no work is in hand. -/
def answerTaken (s : State) : State :=
  { s with slots := { s.slots with captureAnswer := none }, capture := { s.capture with work := none } }

theorem exec_captureSlotAnswer_of_none (none_due : s.slots.captureAnswer = none ∨ s.capture.work = none) :
    exec .captureSlotAnswer s = .next s := by
  have none_taken : takeAnswer s = none := by
    unfold takeAnswer
    split
    next a w answer work => simp [answer, work] at none_due
    next => rfl
  simp only [exec, execCaptureSlotAnswer, none_taken]
  rfl

theorem exec_captureSlotAnswer_of_answer {a : SlotAnswer} {w : CaptureWork} (answer : s.slots.captureAnswer = some a)
    (work : s.capture.work = some w) :
    exec .captureSlotAnswer s = .next (settle s (continueWork w a (answerTaken s))) := by
  have taken : takeAnswer s = some (continueWork w a (answerTaken s)) := by
    simp only [takeAnswer, answer, work]
    exact congrArg some (continueWork_rest { s with slots := { s.slots with captureAnswer := none } } w a).symm
  simp only [exec, execCaptureSlotAnswer, taken]
  rfl

theorem answerTaken_afterAnswer : AfterAnswer s (answerTaken s) := ⟨rfl, rfl, rfl, rfl, rfl⟩

end

/-- Settles O46: the messages by the unit's state, the answers by the work in hand, buffer high by the flag. -/
theorem captureUnitTakesMessagesAndAnswers : Obligations.CaptureUnitTakesMessagesAndAnswers := by
  refine ⟨fun s => ⟨exec_captureCompletion_of_none, fun a rest free head => ?completion, exec_captureTrigger_of_none,
    fun v rest free head => ?toggle⟩, fun s => ⟨exec_captureSlotAnswer_of_none, fun a w answer work => ?answer⟩,
    fun s _ => ⟨evalBufferHigh_rises, evalBufferHigh_falls, evalBufferHigh_stays_clear, evalBufferHigh_stays_set⟩⟩
  case completion =>
    have runs {u : State} (does : captureCompletion a (messagesLeft rest s) = u) :
        exec .captureCompletion s = .next (settle s u) := does ▸ exec_captureCompletion_of_message free head
    intro d e out skips fenced
    refine ⟨?_, fun isArmed depth stored room => ?_, fun old more isArmed depth stored held full => ?_,
      fun running spilled => ?_, fun running stored full => ?_, fun running stored room => ?_⟩
    · rintro (idle | ⟨isArmed, passes⟩)
      · exact runs (captureCompletion_idle (u := messagesLeft rest s) idle)
      · exact runs (armedCompletion_passes (u := messagesLeft rest s) isArmed passes)
    · exact runs (armedCompletion_holds (u := messagesLeft rest s) isArmed (not_or.mpr ⟨depth, stored⟩) room)
    · exact runs (armedCompletion_makesRoom (u := messagesLeft rest s) isArmed (not_or.mpr ⟨depth, stored⟩) full held)
    · exact runs (runningCompletion_spilled (u := messagesLeft rest s) running spilled)
    · exact runs (runningCompletion_full (u := messagesLeft rest s) running stored full)
    · exact runs (runningCompletion_keeps (u := messagesLeft rest s) running stored room)
  case toggle =>
    have runs {u : State} (does : captureToggle v (messagesLeft rest s) = u) :
        exec .captureTrigger s = .next (settle s u) := does ▸ exec_captureTrigger_of_message free head
    have triggers := captureToggle_armed (v := v) (u := messagesLeft rest s)
    obtain ⟨idle, alone⟩ := free
    refine ⟨fun same => ?_, fun flips mode => ?_, fun flips isArmed held => ?_, fun e more flips isArmed held => ?_⟩
    · exact runs (captureToggle_acknowledged (u := messagesLeft rest s) same)
    · exact runs (captureToggle_ignored (u := messagesLeft rest s) flips mode)
    · exact runs ((triggers flips isArmed).trans (armedTrigger_nil idle alone held))
    · exact runs ((triggers flips isArmed).trans (armedTrigger_cons held))
  case answer =>
    have runs {u : State} (does : continueWork w a (answerTaken s) = u) :
        exec .captureSlotAnswer s = .next (settle s u) := does ▸ exec_captureSlotAnswer_of_answer answer work
    intro v asking asks ended stops begins goesOn
    have begun (h : InHand) (u : State) (k : CaptureCommand) : begins h u k = commandBegun h u k := by
      cases k <;> rfl
    have goes {u : State} (does : continueWork w a (answerTaken s) = endWork u) (after : AfterAnswer s u) : goesOn u := by
      obtain ⟨free, waits, hand, -, -⟩ := after
      refine ⟨fun alone => runs (does.trans (endWork_of_alone free (waits.trans alone))), fun k h waiting inHand => ?_⟩
      rw [begun]
      exact runs (does.trans (endWork_begins (hand.trans inHand) free (waits.trans waiting)))
    have after : AfterAnswer s v := answerTaken_afterAnswer
    refine ⟨?held, ?notHeld, ?notKept, ?kept, ?roomMade, ?released, ?armedNext, ?triggered, ?stopped⟩
    case held =>
      rintro e rfl rfl
      exact goes rfl (AfterAnswer.evalBufferHigh ⟨rfl, rfl, rfl, rfl, rfl⟩)
    case notHeld =>
      rintro e rfl refused
      exact goes (continueWork_holdFrame_refused v e refused) after
    case notKept =>
      rintro e t rfl refused
      exact goes (continueWork_keepFrame_refused v e t refused) ⟨rfl, rfl, rfl, rfl, rfl⟩
    case kept =>
      rintro e t rfl rfl kept full
      have counted : AfterAnswer s kept := AfterAnswer.evalBufferHigh ⟨rfl, rfl, rfl, rfl, rfl⟩
      have ends (why : EndCause) : endCapture why kept = captureEnded why kept := endCapture_of_free counted.free why
      refine ⟨fun fills => ?_, fun room last => ?_, fun room more => ?_⟩
      · exact goes (congrArg endWork ((burstKept_fills (u := v) e t fills).trans (ends _))) (counted.captureEnded _)
      · exact goes (congrArg endWork ((burstKept_last (u := v) e t room last).trans (ends _))) (counted.captureEnded _)
      · exact goes (congrArg endWork (burstKept_runs (u := v) e t room more)) counted
    case roomMade =>
      rintro e rfl room
      exact runs (continueWork_makeRoom a v e)
    case released =>
      rintro h rfl alone inHand
      have completes {u : State} (next : AfterAnswer s u) (st : Status) :
          endWork (complete st 0 u) = completedWith h st 0 u :=
        endWork_completes (next.hand.trans inHand) next.free (next.waits.trans alone) st
      refine ⟨?_, ?_, ?_⟩
      · rintro rfl
        exact runs (completes after .conflict)
      · rintro rfl
        exact runs (completes after .badParameter)
      · rintro rfl
        exact runs (completes after.evalBufferHigh .done)
    case armedNext =>
      rintro h e rest clamped burst rfl inHand u
      have does := continueWork_arming a v e rest clamped burst
      have next : AfterAnswer s u := .ite (.evalBufferHigh ⟨rfl, rfl, rfl, rfl, rfl⟩) after
      refine ⟨?_, ?_⟩
      · rintro e' more rfl
        exact runs does
      · rintro rfl
        have last := armNext_nil (next.hand.trans inHand) next.free clamped burst
        rw [next.depth] at last
        exact runs (does.trans last)
    case triggered =>
      rintro e rest index k rfl torn u
      have does : continueWork (.keepHeld e rest index k) a v = keepNext rest (index + 1) k u := by
        rw [continueWork_keepHeld, heldTorn_eq]
        rfl
      have next : AfterAnswer s u := .ite (.evalBufferHigh ⟨rfl, rfl, rfl, rfl, rfl⟩) after
      refine ⟨?_, ?_⟩
      · rintro e' more rfl
        rw [keepNext, next.id] at does
        exact runs does
      · rintro rfl
        obtain ⟨free, waits, hand, id, depth⟩ := next
        exact goes does ⟨free, waits, hand, id, depth⟩
    case stopped =>
      rintro h rest why rfl inHand u cause
      have does := continueWork_stopping a v rest why
      have next : AfterAnswer s u := .ite after.evalBufferHigh after
      refine ⟨?_, ?_⟩
      · rintro e' more rfl
        exact runs does
      · rintro rfl
        have last := stopNext_nil (next.hand.trans inHand) next.free why
        rw [StopReason.cause_eq] at last
        exact runs (does.trans last)

end Sys2Proof.Machine
end
